-- ==== Sys2Proof/Word.lean ====
section
/-!
DEFINITION. Word types of the LRT8256 and the sparse store every memory and register file is held in.
-/
namespace Sys2Proof

/-- One register of the window: 32 bits (R5). -/
abbrev Word := BitVec 32

/-- One byte of a memory, an image or a frame. -/
abbrev Byte := BitVec 8

/-- A store indexed by Nat, held as its entries that differ from the default, by rising index. -/
abbrev Sparse (α : Type) := List (Nat × α)

end Sys2Proof
end

