-- ==== Sys2Proof/Machine/Bits.lean ====
section
/-!
DEFINITION. Bit fields, byte order and checksums: the helpers every layout of the spec is read and written with.
Multi-byte fields are little-endian (R5, R35).
-/
namespace Sys2Proof.Machine

/-- Bits `lo + len - 1` to `lo` of a number. -/
def bits (v lo len : Nat) : Nat := v / 2 ^ lo % 2 ^ len

/-- Bit `i` of a number. -/
def bit (v i : Nat) : Bool := v / 2 ^ i % 2 == 1

/-- A Bool as the bit it stands for. -/
def b2n (b : Bool) : Nat := if b then 1 else 0

/-- The field of `len` bits at `lo` of a register. -/
def fld (w : Word) (lo len : Nat) : Nat := bits w.toNat lo len

/-- Bit `i` of a register. -/
def flag (w : Word) (i : Nat) : Bool := w.getLsbD i

/-- A register with the field of `len` bits at `lo` replaced by `v`. -/
def setFld (w : Word) (lo len v : Nat) : Word :=
  BitVec.ofNat 32 (w.toNat - bits w.toNat lo len * 2 ^ lo + v % 2 ^ len * 2 ^ lo)

/-- A register with bit `i` replaced by `b`. -/
def setFlag (w : Word) (i : Nat) (b : Bool) : Word := setFld w i 1 (b2n b)

/-- The number a 32-bit register holds as a signed value. -/
def sgn (w : Word) : Int := w.toInt

/-- The low 32 bits of a whole number (R13). -/
def low32 (v : Int) : Word := BitVec.ofInt 32 v

/-- Bits 63 to 32 of a whole number. -/
def high32 (v : Int) : Word := BitVec.ofInt 32 (v / 4294967296)

/-- A number kept to `n` bits, read as signed. -/
def signed (n : Nat) (v : Nat) : Int := (BitVec.ofNat n v).toInt

/-- The difference of two 32-bit substrate lines, taken as a signed 32-bit value (R13). -/
def lineDiff (a b : Word) : Int := (a - b).toInt

/-- `n` bytes of a number, least significant first. -/
def leBytes : Nat → Nat → List Byte
  | 0, _ => []
  | n + 1, v => BitVec.ofNat 8 v :: leBytes n (v / 256)

/-- The number that bytes spell, least significant first. -/
def leNat : List Byte → Nat
  | [] => 0
  | b :: bs => b.toNat + 256 * leNat bs

/-- The number that bytes spell, most significant first. -/
def beNat (bs : List Byte) : Nat := leNat bs.reverse

/-- `n` bytes of a number, most significant first. -/
def beBytes (n v : Nat) : List Byte := (leBytes n v).reverse

/-- `n` bytes from offset `o`. -/
def slice (bs : List Byte) (o n : Nat) : List Byte := (bs.drop o).take n

/-- Byte at offset `o`, 0 past the end. -/
def u8 (bs : List Byte) (o : Nat) : Nat := leNat (slice bs o 1)
/-- 16-bit field at offset `o`. -/
def u16 (bs : List Byte) (o : Nat) : Nat := leNat (slice bs o 2)
/-- 32-bit field at offset `o`. -/
def u32 (bs : List Byte) (o : Nat) : Nat := leNat (slice bs o 4)
/-- 40-bit field at offset `o`. -/
def u40 (bs : List Byte) (o : Nat) : Nat := leNat (slice bs o 5)
/-- 64-bit field at offset `o`. -/
def u64 (bs : List Byte) (o : Nat) : Nat := leNat (slice bs o 8)

/-- The first `n` items of a list, padded with `x`. -/
def padTo {α : Type} (n : Nat) (x : α) (l : List α) : List α :=
  l.take n ++ List.replicate (n - l.length) x

/-- A list cut into pieces of `n` items, the last one shorter; `fuel` bounds the pieces. -/
def chunksGo {α : Type} (n : Nat) : Nat → List α → List (List α)
  | 0, _ => []
  | fuel + 1, l => if l.isEmpty then [] else l.take n :: chunksGo n fuel (l.drop n)

/-- A list cut into pieces of `n` items (n at least 1). -/
def chunks {α : Type} (n : Nat) (l : List α) : List (List α) := chunksGo n l.length l

/-- One bit of a reflected CRC-32C. -/
def crc32cBit (c : BitVec 32) : BitVec 32 :=
  if c.getLsbD 0 then (c >>> 1) ^^^ 0x82F63B78#32 else c >>> 1

/-- One byte of a reflected CRC-32C. -/
def crc32cByte (c : BitVec 32) (b : Byte) : BitVec 32 :=
  let c := c ^^^ b.zeroExtend 32
  crc32cBit (crc32cBit (crc32cBit (crc32cBit (crc32cBit (crc32cBit (crc32cBit (crc32cBit c)))))))

/-- The running CRC-32C register after more bytes. -/
def crc32cGo (c : BitVec 32) (bs : List Byte) : BitVec 32 := bs.foldl crc32cByte c

/-- CRC-32C of a byte string (R35, R36, R209): polynomial 0x1EDC6F41 reflected, initial and final complement. -/
def crc32c (bs : List Byte) : Word := ~~~ (crc32cGo 0xFFFFFFFF#32 bs)

/-- One bit of a most-significant-first CRC-16 with polynomial 0x1021. -/
def crc16Bit (c : BitVec 16) : BitVec 16 :=
  if c.getLsbD 15 then (c <<< 1) ^^^ 0x1021#16 else c <<< 1

/-- One byte of that CRC. -/
def crc16Byte (c : BitVec 16) (b : Byte) : BitVec 16 :=
  let c := c ^^^ ((b.zeroExtend 16) <<< 8)
  crc16Bit (crc16Bit (crc16Bit (crc16Bit (crc16Bit (crc16Bit (crc16Bit (crc16Bit c)))))))

/-- CRC-16, polynomial 0x1021, initial value 0xFFFF (R212). -/
def crc16 (bs : List Byte) : Nat := (bs.foldl crc16Byte 0xFFFF#16).toNat

/-- One bit of a most-significant-first CRC-8 with polynomial 0x07. -/
def crc8Bit (c : BitVec 8) : BitVec 8 := if c.getLsbD 7 then (c <<< 1) ^^^ 0x07#8 else c <<< 1

/-- One byte of that CRC. -/
def crc8Byte (c : BitVec 8) (b : Byte) : BitVec 8 :=
  let c := c ^^^ b
  crc8Bit (crc8Bit (crc8Bit (crc8Bit (crc8Bit (crc8Bit (crc8Bit (crc8Bit c)))))))

/-- CRC-8, polynomial 0x07, initial value 0 (R214). -/
def crc8 (bs : List Byte) : Nat := (bs.foldl crc8Byte 0).toNat

/-- A number limited to a range. -/
def clampInt (lo hi v : Int) : Int := if v < lo then lo else if hi < v then hi else v

/-- A number limited to a range. -/
def clampNat (lo hi v : Nat) : Nat := if v < lo then lo else if hi < v then hi else v

/-- Quotient rounded to the nearest whole number, halves away from zero. -/
def roundDiv (a : Int) (b : Nat) : Int :=
  if 0 ≤ a then (2 * a + b) / (2 * b) else -((2 * (-a) + b) / (2 * b))

/-- Integer square root, bit by bit from bit `n` down. -/
def isqrtGo (v : Nat) : Nat → Nat → Nat
  | 0, r => r
  | n + 1, r =>
    let c := r + 2 ^ n
    isqrtGo v n (if c * c ≤ v then c else r)

/-- Integer square root of a number below 2^128. -/
def isqrt (v : Nat) : Nat := isqrtGo v 64 0

/-- `x` put into a rising list, after its equals. -/
def insertBy {α : Type} (key : α → Int) (x : α) : List α → List α
  | [] => [x]
  | y :: ys => if key x < key y then x :: y :: ys else y :: insertBy key x ys

/-- A list sorted by a key, equals in their old order. -/
def sortBy {α : Type} (key : α → Int) (l : List α) : List α := l.foldl (fun acc x => insertBy key x acc) []

end Sys2Proof.Machine
end

