-- ==== Sys2Proof/Syntax.lean ====
section
/-!
DEFINITION. The commands of the LRT8256: one constructor of Instr per row of spec/opcode_table.json, with the
operands the row's rule takes from outside the device. The first operand of every command is the instant `t` at
which it acts, in picoseconds since power-on (log entry 1).
-/
namespace Sys2Proof

/-- Who makes a register access: a host context HC0 to HC3 (R354) or a control core (R298). -/
inductive Writer where
  | host (ctx : Nat)
  | core (n : Nat)
deriving DecidableEq, Repr

/-- A supply whose brownout resets the device (R464). -/
inductive BrownSupply where
  | core | sram | ser
deriving DecidableEq, Repr

/-- A differential pair of an encoder input (R154, R158). -/
inductive EncPair where
  | a | b | z
deriving DecidableEq, Repr

/-- A port of a head endpoint; a SOLO unit is wired to port A (chapter 08). -/
inductive Port where
  | a | b
deriving DecidableEq, Repr

/-- The receiver that discards a frame (R209): the device's on a bar or twin link, or an endpoint's on a port. -/
inductive Receiver where
  | bar (k : Nat)
  | twin (q : Nat)
  | endpoint (k : Nat) (x : Port)
deriving DecidableEq, Repr

/-- An uncorrectable SRAM error met while a line is prepared or screened (R469). -/
inductive SramError where
  | leadBuffer (head : Nat)
  | nozzle (index : Nat)
  | errorRow (second : Bool) (u : Nat)
  | matrix (entry : Nat)
deriving DecidableEq, Repr

/-- How a DRAM read came back (R349, R350). -/
inductive ReadError where
  | clean | corrected | uncorrectable
deriving DecidableEq, Repr

/-- Where a DMA access met non-responding memory (R376). -/
inductive NonRespKind where
  | fetch | source | destination | writeBack
deriving DecidableEq, Repr

/-- What training found on one DRAM channel (R335): the highest rate passed divided by 100 MT/s (none: it fails at
3,200 MT/s), and the components fitted. -/
structure TrainResult where
  rate : Option Nat
  x16 : Bool
  twoRanks : Bool
deriving DecidableEq, Repr

/-- The latencies the sampler measures for a tagged instruction, in slots (R327). -/
structure SampleObs where
  fetchLat : Nat
  execLat : Nat
  memLat : Nat
deriving DecidableEq, Repr

/-- What a housekeeping round reads from its sensors (R433): 24 oscillator counts, 8 supplies in mV, 16 DREF
read-backs, and per DRAM channel the MR4 refresh-rate field and the temperature in degrees. -/
structure HkObs where
  die : List Nat
  supplies : List Nat
  dref : List Nat
  mr4 : List Nat
  dramTemp : List Int
deriving DecidableEq, Repr

/-- What a lane's checker counted during a test (R455). -/
structure LaneObs where
  bits : Nat
  errs : Nat
  plock : Bool
deriving DecidableEq, Repr

/-- Contents of a HELLO frame of the twin link (R382). -/
structure Hello where
  rank : Nat
  state : Nat
  twin : Bool
  force : Bool
  base : List Byte
  live : List Byte
  versions : List Word
  epoch : Nat
  claim : Nat
  lastCause : Nat
deriving DecidableEq, Repr

/-- Contents of a BEAT frame (R382): role and readiness, K_0 at the start of its SOF block, P with its fraction f and
increment I at the last count, and TD0 time at the same instant. -/
structure Beat where
  role : Nat
  ready : Bool
  k0 : Int
  pos : Int
  frac : Nat
  inc : Nat
  sec : Nat
  ns : Nat
deriving DecidableEq, Repr

/-- One intended digest of an IDIG frame (R382, R222). -/
structure IntDigest where
  link : Nat
  head : Nat
  first : Word
  count : Nat
  digest : Word
  part : Bool
deriving DecidableEq, Repr

/-- Payload of a STATE frame (R382, R392): what the active unit mirrors to the standby. -/
inductive TwinItem where
  | word (index : Nat) (w : Word)
  | batch (kind : Nat) (tag : Nat) (seam : Option Int) (recs : List (Word × Word))
  | live (seam : Option Int) (img : List Byte)
  | queuePost (plane : Nat) (image : Word) (gutter : Word)
  | repeatStart (k : Nat) (b : Int) (n : Nat) (g : Nat)
  | jobEnd (line : Int)
  | compare (n : Nat) (ctrl lo hi period pulse : Word)
  | baselineDone
deriving DecidableEq, Repr

/-- The fields of a PTP message the device reads (R413 to R417): times in seconds and nanoseconds, the correction in
units of 2^-16 ns, port identities as numbers. -/
structure PtpMsg where
  dom : Nat
  src : Nat
  seq : Nat
  twoStep : Bool
  followUp : Bool
  sec : Nat
  ns : Nat
  corr : Int
  requester : Nat
  logInterval : Int
deriving DecidableEq, Repr

/-- The grandmaster data of an Announce message (R413, R414). -/
structure AnnounceBody where
  gmId : Nat
  prio1 : Nat
  clockClass : Nat
  accuracy : Nat
  variance : Nat
  prio2 : Nat
  steps : Nat
  utc : Nat
  ptpTimescale : Bool
deriving DecidableEq, Repr

/-- The commands, in the order of spec/opcode_table.json. -/
inductive Instr where
  /-- POWER_ON_RESET (R464). VDD_AON rises, or stays below 0.720 V for 1 µs, and the device performs a power-on reset, which includes everything a SYS reset does. -/
  | powerOnReset (t : Nat)
  /-- RESET_N_ASSERT (R464). RESET_N is held low for at least 1 µs and starts a SYS reset; pulses shorter than 200 ns are ignored. -/
  | resetNAssert (t : Nat) (lowNs : Nat)
  /-- SYS_RESET (R474). A write of SYS_CTRL.SYS_RESET with KEY 0x5A17 from the forme-loading owner starts a SYS reset. -/
  | sysReset (t : Nat) (w : Writer) (v : Word)
  /-- BROWNOUT (R464). VDD_CORE, VDD_SRAM or VDDA_SER stays below its brownout level for 1 µs and starts a SYS reset. -/
  | brownout (t : Nat) (supply : BrownSupply) (mv : Nat)
  /-- PERST_ASSERT (R464). PEn_PERST_N is held low, which takes down that PCIe link and applies R356 to the bound context. -/
  | perstAssert (t : Nat) (n : Nat)
  /-- RESET_RELEASE (R466). The internal reset releases once supplies and REFIN are good for 2 ms, and the boot steps begin. -/
  | resetRelease (t : Nat)
  /-- BOOT_LOAD (R57). After reset the device reads both QSPI slot headers and checks the slots in REV order as one load. -/
  | bootLoad (t : Nat)
  /-- FULL_LOAD (R60). A GO with LIVE 0 is judged for permission and then discards the forme in force and starts reading and checking a FULL image. -/
  | fullLoad (t : Nat) (w : Writer) (v : Word)
  /-- LIVE_LOAD (R61). A GO with LIVE 1 is judged for permission and then reads and checks a LIVE image from host memory into STAGE. -/
  | liveLoad (t : Nat) (w : Writer) (v : Word)
  /-- LOAD_END (R58). A load finishes its checks: the image is accepted or refused, FORME_STATUS updates and SEQ advances. -/
  | loadEnd (t : Nat) (host : Option (List Byte))
  /-- FLASH_WRITE_GO (R66). FORME_FLASH_CTRL.GO checks the request and starts erasing and programming a forme slot or the port record. -/
  | flashWriteGo (t : Nat) (w : Writer) (v : Word)
  /-- FLASH_WRITE_END (R66). The flash writer ends with DONE, BLOCKED, BUS_ERROR or VERIFY, and FORME_FLASH_STATUS updates. -/
  | flashWriteEnd (t : Nat) (src : Option (List Byte)) (steps : Nat) (readBack : List Byte)
  /-- CMP_OPEN (R81). CMP_CTRL.OPEN opens a store slot for a plane, latching destination, limit and line count. -/
  | cmpOpen (t : Nat) (w : Writer) (slot : Nat) (v : Word)
  /-- STRIP_STORE (R79). The compression engine finishes coding, verifying and writing one strip of an open store slot. -/
  | stripStore (t : Nat) (slot : Nat) (coded : List Byte) (ue : Bool)
  /-- JQ_POST (R82). A write of JQ_POST posts JQ_IMAGE and JQ_GUTTER as the next entry of a plane's job queue. -/
  | jqPost (t : Nat) (w : Writer) (c : Nat) (v : Word)
  /-- JOB_START (R85). JOB_CTRL.START fixes P₀ and starts the job. -/
  | jobStart (t : Nat) (w : Writer) (v : Word)
  /-- JOB_STOP (R86). JOB_CTRL.STOP ends the job after the last committed repeat's gutter. -/
  | jobStop (t : Nat) (w : Writer) (v : Word)
  /-- COMMIT_LINE_PASS (R83). The most upstream row begins preparing a repeat's commit line while the repeat is still incomplete. -/
  | commitLinePass (t : Nat)
  /-- JOB_BOUNDARY (R86). The most downstream row fires the end line, so STATE becomes IDLE and every entry retires. -/
  | jobBoundary (t : Nat)
  /-- FETCH_BURST_RETURN (R89). DRAM returns a burst to a swath fetch port, which issues further reads and may clear panic. -/
  | fetchBurstReturn (t : Nat) (c : Nat) (bytes : Nat) (ue : Bool)
  /-- STRIP_DECODE (R90). The decompressor finishes one strip and checks it against RAW_CRC, blanking it on a mismatch. -/
  | stripDecode (t : Nat) (c : Nat)
  /-- LINE_PREPARE (R120). A head row begins preparing a substrate line through scaling, tone, gain, stitching, substitution, head distribution and patterns. -/
  | linePrepare (t : Nat) (row : Nat) (ue : Option SramError)
  /-- PLANE_LINE_SCREEN (R106). A plane's screening engine screens one image line at the pace of its front row. -/
  | planeLineScreen (t : Nat) (c : Nat) (ue : Option SramError)
  /-- SEAM_APPLY (R27). A head row reaches a seam line and applies every update bound to that seam. -/
  | seamApply (t : Nat) (row : Nat)
  /-- NZ_HREC_APPEND (R139). A write to NZ_HREC_HI appends a record to the host nozzle batch buffer. -/
  | nzHrecAppend (t : Nat) (w : Writer) (v : Word)
  /-- NZ_SUBMIT (R138). NZ_HCTRL.SUBMIT stages the host buffer as one nozzle batch, which is bound to a seam or applied at once. -/
  | nzSubmit (t : Nat) (w : Writer) (v : Word)
  /-- NZ_DISCARD (R139). NZ_HCTRL.DISCARD empties the host nozzle batch buffer without staging it. -/
  | nzDiscard (t : Nat) (w : Writer) (v : Word)
  /-- SAVE (R151). NZ_LEDGER_CTRL.SAVE starts writing the table to the ledger copy not in use. -/
  | ledgerSave (t : Nat) (w : Writer) (v : Word)
  /-- LEDGER_SAVE_END (R152). A ledger save ends SAVED, BLOCKED or FLASH ERROR, and the new copy comes into use on success. -/
  | ledgerSaveEnd (t : Nat) (steps : Nat) (flashOk : Bool)
  /-- NZ_PAT_ARM (R146). NZ_PAT_CTRL.ARM arms a pattern slot, which becomes ARMED or LATE. -/
  | nzPatArm (t : Nat) (w : Writer) (slot : Nat) (v : Word)
  /-- SCR_PEEK (R119). A write of SCR_PEEK_ADDR starts a read of one matrix store entry into SCR_PEEK_DATA. -/
  | scrPeek (t : Nat) (w : Writer) (v : Word)
  /-- ENC_COUNT (R156). A filtered A or B edge of an encoder is one count, which updates K_n, P, P_max and the predictions. -/
  | encCount (t : Nat) (n : Nat) (a : Bool) (b : Bool)
  /-- INDEX_PULSE (R165). A rising Z edge during forward motion latches K_0, which sets or checks the index base. -/
  | indexPulse (t : Nat)
  /-- WIRE_DISAGREE_ENTER (R158). A pair's two wires have stood at one level for more than WIRE samples, so the pair enters wire disagree. -/
  | wireDisagreeEnter (t : Nat) (n : Nat) (pair : EncPair)
  /-- WIRE_DISAGREE_EXIT (R158). A pair has been complementary for 65,536 samples, so it leaves wire disagree. -/
  | wireDisagreeExit (t : Nat) (n : Nat) (pair : EncPair)
  /-- SPEED_WINDOW_END (R161). A speed window ends, and the encoder speed estimate and STILL are updated. -/
  | speedWindowEnd (t : Nat) (n : Nat)
  /-- WEB_STOP_DETECTED (R15). P has not advanced by 64 fu within the stop-detect time, so the web is stopped. -/
  | webStopDetected (t : Nat)
  /-- ENC_SNAP_TAKE (R176). ENC_SNAP_CTRL.TAKE copies both encoders' state from one sample into the context's snapshot. -/
  | encSnapTake (t : Nat) (w : Writer) (v : Word)
  /-- FIRE_COMMIT (R190). At t_tx − 500 ns a head's FIRE is committed, with readiness, late-line, inhibit and lead judged. -/
  | fireCommit (t : Nat) (h : Nat)
  /-- FIRE_ORDERED_SET_SEND (R191). The ARM and then the FIRE block of a committed set are sent on the link at their block. -/
  | fireOrderedSetSend (t : Nat) (k : Nat)
  /-- LINE_FRAME_SEND (R195). A line complete in the lead buffer has its LINE frame sent. -/
  | lineFrameSend (t : Nat) (h : Nat)
  /-- DREF_STEP (R285). 200 ns after the row's last fire instant before a seam, a new DREF code is stepped onto the output. -/
  | drefStep (t : Nat) (row : Nat)
  /-- FIR_BREC_APPEND (R188). A write to FIR_BREC_HI appends a registration record to the host buffer. -/
  | firBrecAppend (t : Nat) (w : Writer) (v : Word)
  /-- FIR_SUBMIT (R187). FIR_BCTRL.SUBMIT stages the registration host buffer as one batch. -/
  | firSubmit (t : Nat) (w : Writer) (v : Word)
  /-- FIR_DISCARD (R188). FIR_BCTRL.DISCARD empties the registration host buffer. -/
  | firDiscard (t : Nat) (w : Writer) (v : Word)
  /-- FIR_SNAP_TAKE (R205). FIR_SNAP_CTRL.TAKE fills the context's snapshot of P, P_max, the fraction and the rate. -/
  | firSnapTake (t : Nat) (w : Writer) (v : Word)
  /-- PC_ARM (R201). PC_CTRL.ARM arms a compare unit, which becomes LATE or skips targets already passed. -/
  | pcArm (t : Nat) (w : Writer) (n : Nat) (v : Word)
  /-- PC_DISARM (R200). PC_CTRL.DISARM returns a compare unit to IDLE after any pulse in progress. -/
  | pcDisarm (t : Nat) (w : Writer) (n : Nat) (v : Word)
  /-- COMPARE_EDGE (R202). A compare unit's active edge is emitted at its predicted instant, and P and TD0 are latched. -/
  | compareEdge (t : Nat) (n : Nat)
  /-- COMPARE_PULSE_END (R202). A compare pulse's WIDTH elapses, and its output returns to the inactive level. -/
  | comparePulseEnd (t : Nat) (n : Nat)
  /-- TICK_SEND (R219). Every 100 µs the device sends a TICK on each link. -/
  | tickSend (t : Nat) (k : Nat)
  /-- PROBE_SEND (R236). The device sends a PROBE, 16 in CONFIG and then one every 10 ms. -/
  | probeSend (t : Nat) (k : Nat)
  /-- PROBE_TIMEOUT (R235). A PROBE_ECHO is not back within 2 µs, so another PROBE replaces it. -/
  | probeTimeout (t : Nat) (k : Nat)
  /-- CAPS_REQ_SEND (R235). In LOCK the device sends a CAPS_REQ every 1 ms. -/
  | capsReqSend (t : Nat) (k : Nat)
  /-- LOCK_CAPS_TIMEOUT (R235). 50 ms pass in LOCK without a valid CAPS, so the link returns to DOWN. -/
  | lockCapsTimeout (t : Nat) (k : Nat)
  /-- CONFIG_TIMEOUT (R235). 16 latency values are not in hand within 1 ms, so the link goes DOWN or, on the third such failure, REFUSED. -/
  | configTimeout (t : Nat) (k : Nat)
  /-- CAPS_RECEIVE (R234). A valid CAPS arrives, is checked against the forme, and leads to CONFIG, a downgrade or REFUSED. -/
  | capsReceive (t : Nat) (k : Nat) (f : List Byte)
  /-- PROBE_ECHO_RECEIVE (R236). A PROBE_ECHO arrives, and its latency value is accepted or discarded. -/
  | probeEchoReceive (t : Nat) (k : Nat) (f : List Byte)
  /-- ECHO_BLOCK_RECEIVE (R224). An ECHO BLOCK arrives and is compared with the DIGEST sent for it. -/
  | echoBlockReceive (t : Nat) (k : Nat) (f : List Byte)
  /-- ECHO_RESEND_RECEIVE (R213). An ECHO RESEND arrives, and the requested lines that are still resendable are resent. -/
  | echoResendReceive (t : Nat) (k : Nat) (f : List Byte)
  /-- ECHO_STATUS_RECEIVE (R230). An ECHO STATUS arrives and updates claim and ownership state. -/
  | echoStatusReceive (t : Nat) (k : Nat) (f : List Byte)
  /-- HK_FRAME_RECEIVE (R237). An HK frame from an endpoint arrives and is held for the next housekeeping round. -/
  | hkFrameReceive (t : Nat) (k : Nat) (f : List Byte)
  /-- RECAPS (R240). BL_CTRL.RECAPS returns the link to DOWN and renegotiates it. -/
  | recaps (t : Nat) (w : Writer) (k : Nat) (v : Word)
  /-- REPROBE (R240). BL_CTRL.REPROBE discards the latency mean and runs 16 PROBEs. -/
  | reprobe (t : Nat) (w : Writer) (k : Nat) (v : Word)
  /-- EP_LINE_RECEIVE (R213). The endpoint receives a LINE frame, stores it, or requests a resend. -/
  | epLineReceive (t : Nat) (k : Nat) (x : Port) (f : List Byte)
  /-- EP_ARM_RECEIVE (R215). The endpoint receives an ARM block and checks it, then holds it and resolves its tags against the next line. -/
  | epArmReceive (t : Nat) (k : Nat) (x : Port) (f : List Byte)
  /-- EP_FIRE_RECEIVE (R217). The endpoint receives a FIRE block, consumes its ARM and fires or blanks each head. -/
  | epFireReceive (t : Nat) (k : Nat) (x : Port) (f : List Byte)
  /-- EP_ARM_EXPIRE (R215). A held ARM has waited 256 blocks and is discarded. -/
  | epArmExpire (t : Nat) (k : Nat) (x : Port) (q : Nat)
  /-- EP_TICK_RECEIVE (R220). The endpoint receives a TICK and resets each head's next line, marking SLIP where it moves. -/
  | epTickReceive (t : Nat) (k : Nat) (x : Port) (f : List Byte)
  /-- EP_DIGEST_RECEIVE (R223). The endpoint receives a DIGEST and compares it, closing the block if PARTIAL is set. -/
  | epDigestReceive (t : Nat) (k : Nat) (x : Port) (f : List Byte)
  /-- EP_CLAIM_RECEIVE (R227). The endpoint decides a CLAIM, which is accepted or refused, and sends a STATUS. -/
  | epClaimReceive (t : Nat) (k : Nat) (x : Port) (f : List Byte)
  /-- EP_HALT_RECEIVE (R229). A HALT block from the firing port leaves its heads with no firing port. -/
  | epHaltReceive (t : Nat) (k : Nat) (x : Port) (f : List Byte)
  /-- EP_SIGNAL_LOSS (R229). Loss of signal or lock on a firing port leaves its heads with no firing port. -/
  | epSignalLoss (t : Nat) (k : Nat) (x : Port)
  /-- CAPS_REQ (R233). The endpoint receives a CTRL CAPS_REQ and replies with CAPS. -/
  | epCapsReq (t : Nat) (k : Nat) (x : Port) (f : List Byte)
  /-- HEADCFG (R233). The endpoint receives a CTRL HEADCFG and keeps it for the port. -/
  | epHeadcfg (t : Nat) (k : Nat) (x : Port) (f : List Byte)
  /-- HK_REQ (R237). The endpoint receives a CTRL HK_REQ and sends one HK frame per fitted head within 1 ms. -/
  | epHkReq (t : Nat) (k : Nat) (x : Port) (f : List Byte)
  /-- CLEAR (R233). The endpoint receives a CTRL CLEAR and clears its HK counters. -/
  | epClear (t : Nat) (k : Nat) (x : Port) (f : List Byte)
  /-- EIDLE (R452). The endpoint receives a TEST EIDLE and holds clock recovery and alignment on that port. -/
  | epEidle (t : Nat) (k : Nat) (x : Port) (f : List Byte)
  /-- PATTERN (R458). The endpoint receives a TEST PATTERN, inhibits jetting and sends the named pattern upstream. -/
  | epPattern (t : Nat) (k : Nat) (x : Port) (f : List Byte)
  /-- LOOPBACK (R458). The endpoint receives a TEST LOOPBACK, inhibits jetting and retransmits the received bits upstream. -/
  | epLoopback (t : Nat) (k : Nat) (x : Port) (f : List Byte)
  /-- EP_TEST_END (R458). DUR × 10 ms after entry the endpoint ends a lane test, sends IDLE blocks and relocks. -/
  | epTestEnd (t : Nat) (k : Nat) (x : Port)
  /-- EP_EIDLE_TIMEOUT (R452). 200 µs pass after EIDLE without lock, and the endpoint's normal loss rules return. -/
  | epEidleTimeout (t : Nat) (k : Nat) (x : Port)
  /-- EP_PROBE_RECEIVE (R236). The endpoint receives a PROBE and answers it with a PROBE_ECHO carrying TTA. -/
  | epProbeReceive (t : Nat) (k : Nat) (x : Port) (f : List Byte)
  /-- EP_STATUS_PERIODIC (R230). Every 10 ms the endpoint sends an ECHO STATUS on both ports. -/
  | epStatusPeriodic (t : Nat) (k : Nat)
  /-- EP_CAPS_PERIODIC (R232). Every 1 s, and at lock or a field change, the endpoint sends CAPS. -/
  | epCapsPeriodic (t : Nat) (k : Nat) (x : Port)
  /-- EP_RESET (R225). The endpoint powers up or resets, sets C to 0 and keeps every head from jetting. -/
  | epReset (t : Nat) (k : Nat)
  /-- CSI_FRAME_START (R245). A Frame Start on a channel's VC opens a frame, takes a hit and hands over shadow registers. -/
  | csiFrameStart (t : Nat) (p : Nat) (vc : Nat) (fn : Nat)
  /-- CSI_FRAME_END (R245). A Frame End closes the open frame on its VC. -/
  | csiFrameEnd (t : Nat) (p : Nat) (vc : Nat)
  /-- CSI_LINE_PACKET (R246). A long packet of the channel's data type or an HDR type arrives as a line of an exposure. -/
  | csiLinePacket (t : Nat) (p : Nat) (vc : Nat) (dt : Nat) (data : List Byte) (crcOk : Bool) (eccFixed : Bool)
  /-- CSI_EMBEDDED_DATA (R246). An embedded-data packet arrives, and its first 16 bytes are copied for the record. -/
  | csiEmbeddedData (t : Nat) (p : Nat) (vc : Nat) (data : List Byte)
  /-- CSI_OTHER_PACKET (R243). A packet that is ignored or discarded arrives, and discards are counted. -/
  | csiOtherPacket (t : Nat) (p : Nat) (vc : Nat) (dt : Nat) (eccBad : Bool)
  /-- FRAME_TIMEOUT (R245). An open frame receives no packet for 100 ms and is closed. -/
  | frameTimeout (t : Nat) (p : Nat) (vc : Nat)
  /-- PIPELINE_LINE (R251). A pipeline takes the next ready line and runs it through the stages. -/
  | pipelineLine (t : Nat) (pl : Nat) (ue : Bool)
  /-- FRAME_CLOSE (R267). At a frame's close the pipeline writes its record and raises its frame events. -/
  | frameClose (t : Nat) (p : Nat) (vc : Nat)
  /-- CAM_CCI_CMD (R249). A write of CAM_CCI_CMD pushes a command into the CCI queue. -/
  | camCciCmd (t : Nat) (w : Writer) (p : Nat) (v : Word)
  /-- CCI_COMMAND_DONE (R249). The CCI master completes or abandons a command and queues any read result. -/
  | cciCommandDone (t : Nat) (p : Nat) (acked : Bool) (data : Word)
  /-- CAM_CCI_RDATA (R249). A read of CAM_CCI_RDATA pops the oldest CCI read result. -/
  | camCciRdata (t : Nat) (w : Writer) (p : Nat)
  /-- ISP_LUT_D2 (R259). A write of ISP_LUT_D2 stores the LUT back-copy entry and advances ADDR. -/
  | ispLutD2 (t : Nat) (w : Writer) (p : Nat) (prof : Nat) (v : Word)
  /-- SWAP (R259). ISP_LUT_CTRL.SWAP exchanges the LUT copies at the next Frame Start of a channel using the profile. -/
  | ispSwap (t : Nat) (w : Writer) (p : Nat) (prof : Nat) (v : Word)
  /-- LOOP_DREF_SET (R284). A write of LOOP_DREF_SETr stages a one-record DREF batch. -/
  | loopDrefSet (t : Nat) (w : Writer) (row : Nat) (v : Word)
  /-- CAL (R291). LOOP_CTRL.CAL requests calibration at the next JOB_CTRL.START. -/
  | loopCal (t : Nat) (w : Writer) (v : Word)
  /-- CC_HALT (R313). CC_CTRL.HALT stops a core at its next instruction boundary. -/
  | ccHalt (t : Nat) (w : Writer) (n : Nat) (v : Word)
  /-- CC_RESUME (R313). CC_CTRL.RESUME continues a HALTED core from where it stopped. -/
  | ccResume (t : Nat) (w : Writer) (n : Nat) (v : Word)
  /-- CC_START (R313). CC_CTRL.START resets a core's registers and CSRs and starts it at ENTRY. -/
  | ccStart (t : Nat) (w : Writer) (n : Nat) (v : Word)
  /-- CC_MAIL_IN (R331). A write of CC_MAIL_IN gives a core a value and sets SIG.MAIL. -/
  | ccMailIn (t : Nat) (w : Writer) (n : Nat) (v : Word)
  /-- CORE_PATCH_WRITE (R315). A write through the local-memory window patches a halted or faulted OEM core's code. -/
  | corePatchWrite (t : Nat) (w : Writer) (off : Nat) (v : Word)
  /-- ADD (R305). OPR ADD adds two scalar registers. -/
  | opAdd (t : Nat) (n : Nat) (d a b : Fin 32)
  /-- SUB (R305). OPR SUB subtracts s_b from s_a. -/
  | opSub (t : Nat) (n : Nat) (d a b : Fin 32)
  /-- AND (R305). OPR AND forms the bitwise and. -/
  | opAnd (t : Nat) (n : Nat) (d a b : Fin 32)
  /-- OR (R305). OPR OR forms the bitwise or. -/
  | opOr (t : Nat) (n : Nat) (d a b : Fin 32)
  /-- XOR (R305). OPR XOR forms the bitwise exclusive or. -/
  | opXor (t : Nat) (n : Nat) (d a b : Fin 32)
  /-- ANDN (R305). OPR ANDN forms s_a and not s_b. -/
  | opAndn (t : Nat) (n : Nat) (d a b : Fin 32)
  /-- LSL (R305). OPR LSL shifts left by s_b bits 4:0. -/
  | opLsl (t : Nat) (n : Nat) (d a b : Fin 32)
  /-- LSR (R305). OPR LSR shifts right logically. -/
  | opLsr (t : Nat) (n : Nat) (d a b : Fin 32)
  /-- ASR (R305). OPR ASR shifts right arithmetically. -/
  | opAsr (t : Nat) (n : Nat) (d a b : Fin 32)
  /-- ROR (R305). OPR ROR rotates right. -/
  | opRor (t : Nat) (n : Nat) (d a b : Fin 32)
  /-- SEQ (R305). OPR SEQ sets 1 if the two registers are equal. -/
  | opSeq (t : Nat) (n : Nat) (d a b : Fin 32)
  /-- SNE (R305). OPR SNE sets 1 if the two registers differ. -/
  | opSne (t : Nat) (n : Nat) (d a b : Fin 32)
  /-- SLT (R305). OPR SLT compares signed. -/
  | opSlt (t : Nat) (n : Nat) (d a b : Fin 32)
  /-- SLTU (R305). OPR SLTU compares unsigned. -/
  | opSltu (t : Nat) (n : Nat) (d a b : Fin 32)
  /-- MUL (R305). OPR MUL gives the low 32 bits of the product. -/
  | opMul (t : Nat) (n : Nat) (d a b : Fin 32)
  /-- MULHI (R305). OPR MULHI gives the high 32 bits of the signed product. -/
  | opMulhi (t : Nat) (n : Nat) (d a b : Fin 32)
  /-- MULHIU (R305). OPR MULHIU gives the high 32 bits of the unsigned product. -/
  | opMulhiu (t : Nat) (n : Nat) (d a b : Fin 32)
  /-- DIV (R305). OPR DIV divides signed, rounding toward zero. -/
  | opDiv (t : Nat) (n : Nat) (d a b : Fin 32)
  /-- DIVU (R305). OPR DIVU divides unsigned. -/
  | opDivu (t : Nat) (n : Nat) (d a b : Fin 32)
  /-- MOD (R305). OPR MOD gives the signed remainder. -/
  | opMod (t : Nat) (n : Nat) (d a b : Fin 32)
  /-- MODU (R305). OPR MODU gives the unsigned remainder. -/
  | opModu (t : Nat) (n : Nat) (d a b : Fin 32)
  /-- MIN (R305). OPR MIN gives the signed minimum. -/
  | opMin (t : Nat) (n : Nat) (d a b : Fin 32)
  /-- MAX (R305). OPR MAX gives the signed maximum. -/
  | opMax (t : Nat) (n : Nat) (d a b : Fin 32)
  /-- MINU (R305). OPR MINU gives the unsigned minimum. -/
  | opMinu (t : Nat) (n : Nat) (d a b : Fin 32)
  /-- MAXU (R305). OPR MAXU gives the unsigned maximum. -/
  | opMaxu (t : Nat) (n : Nat) (d a b : Fin 32)
  /-- LZC (R305). OPR LZC counts leading zeros. -/
  | opLzc (t : Nat) (n : Nat) (d a : Fin 32)
  /-- POPC (R305). OPR POPC counts set bits. -/
  | opPopc (t : Nat) (n : Nat) (d a : Fin 32)
  /-- ABSD (R305). OPR ABSD gives the magnitude of the signed difference. -/
  | opAbsd (t : Nat) (n : Nat) (d a b : Fin 32)
  /-- ADDK (R304). ADDK adds a sign-extended immediate. -/
  | opAddk (t : Nat) (n : Nat) (d a : Fin 32) (imm : BitVec 16)
  /-- ANDK (R304). ANDK ands a zero-extended immediate. -/
  | opAndk (t : Nat) (n : Nat) (d a : Fin 32) (imm : BitVec 16)
  /-- ORK (R304). ORK ors a zero-extended immediate. -/
  | opOrk (t : Nat) (n : Nat) (d a : Fin 32) (imm : BitVec 16)
  /-- XORK (R304). XORK xors a zero-extended immediate. -/
  | opXork (t : Nat) (n : Nat) (d a : Fin 32) (imm : BitVec 16)
  /-- LTK (R304). LTK compares signed with an immediate. -/
  | opLtk (t : Nat) (n : Nat) (d a : Fin 32) (imm : BitVec 16)
  /-- LTKU (R304). LTKU compares unsigned with an immediate. -/
  | opLtku (t : Nat) (n : Nat) (d a : Fin 32) (imm : BitVec 16)
  /-- HIK (R304). HIK replaces the high half of s_a with the immediate. -/
  | opHik (t : Nat) (n : Nat) (d a : Fin 32) (imm : BitVec 16)
  /-- SHK (R304). SHK shifts or rotates by an immediate amount. -/
  | opShk (t : Nat) (n : Nat) (d a : Fin 32) (kind : BitVec 2) (amt : BitVec 5)
  /-- LDW (R304). LDW loads a word. -/
  | opLdw (t : Nat) (n : Nat) (d a : Fin 32) (imm : BitVec 16) (ue : Bool)
  /-- LDH (R304). LDH loads a sign-extended halfword. -/
  | opLdh (t : Nat) (n : Nat) (d a : Fin 32) (imm : BitVec 16) (ue : Bool)
  /-- LDHZ (R304). LDHZ loads a zero-extended halfword. -/
  | opLdhz (t : Nat) (n : Nat) (d a : Fin 32) (imm : BitVec 16) (ue : Bool)
  /-- LDB (R304). LDB loads a sign-extended byte. -/
  | opLdb (t : Nat) (n : Nat) (d a : Fin 32) (imm : BitVec 16) (ue : Bool)
  /-- LDBZ (R304). LDBZ loads a zero-extended byte. -/
  | opLdbz (t : Nat) (n : Nat) (d a : Fin 32) (imm : BitVec 16) (ue : Bool)
  /-- STW (R304). STW stores a word. -/
  | opStw (t : Nat) (n : Nat) (x y : Fin 32) (imm : BitVec 16)
  /-- STH (R304). STH stores a halfword. -/
  | opSth (t : Nat) (n : Nat) (x y : Fin 32) (imm : BitVec 16)
  /-- STB (R304). STB stores a byte. -/
  | opStb (t : Nat) (n : Nat) (x y : Fin 32) (imm : BitVec 16)
  /-- BRT (R304). BRT branches if the register is nonzero. -/
  | opBrt (t : Nat) (n : Nat) (x : Fin 32) (off : BitVec 21)
  /-- BRF (R304). BRF branches if the register is zero. -/
  | opBrf (t : Nat) (n : Nat) (x : Fin 32) (off : BitVec 21)
  /-- LOOP (R304). LOOP decrements a register and branches while it is nonzero. -/
  | opLoop (t : Nat) (n : Nat) (x : Fin 32) (off : BitVec 21)
  /-- GO (R304). GO jumps relative to pc. -/
  | opGo (t : Nat) (n : Nat) (off : BitVec 26)
  /-- CALL (R304). CALL jumps and writes the return address to s31. -/
  | opCall (t : Nat) (n : Nat) (off : BitVec 26)
  /-- CALLR (R304). CALLR jumps indirectly and writes the return address to s_d. -/
  | opCallr (t : Nat) (n : Nat) (d a : Fin 32) (imm : BitVec 16)
  /-- GETC (R304). GETC reads a CSR. -/
  | opGetc (t : Nat) (n : Nat) (d : Fin 32) (csr : BitVec 16)
  /-- PUTC (R304). PUTC writes a CSR. -/
  | opPutc (t : Nat) (n : Nat) (a : Fin 32) (csr : BitVec 16)
  /-- SETC (R304). SETC sets bits of a CSR. -/
  | opSetc (t : Nat) (n : Nat) (a : Fin 32) (csr : BitVec 16)
  /-- CLRC (R304). CLRC clears bits of a CSR. -/
  | opClrc (t : Nat) (n : Nat) (a : Fin 32) (csr : BitVec 16)
  /-- WAIT (R309). WAIT waits until SIG and SIGEN share a bit. -/
  | opWait (t : Nat) (n : Nat)
  /-- WAIT_COMPLETE (R309). A signal enabled in SIGEN arrives, and a waiting core resumes. -/
  | waitComplete (t : Nat) (n : Nat)
  /-- NOTIFY (R304). NOTIFY sets SIG.CORE of the named core. -/
  | opNotify (t : Nat) (n : Nat) (target : Fin 8)
  /-- SYNC (R301). SYNC makes the core's earlier stores visible before any later access. -/
  | opSync (t : Nat) (n : Nat)
  /-- BREAK (R304). BREAK raises exception TRAP. -/
  | opBreak (t : Nat) (n : Nat) (imm : BitVec 16)
  /-- HRET (R312). HRET clears INEXC and continues at EPC. -/
  | opHret (t : Nat) (n : Nat)
  /-- VLD (R304). VLD loads 16 bytes into a vector register. -/
  | opVld (t : Nat) (n : Nat) (vd : Fin 8) (a : Fin 32) (imm : BitVec 16) (ue : Bool)
  /-- VST (R304). VST stores a vector register. -/
  | opVst (t : Nat) (n : Nat) (vd : Fin 8) (a : Fin 32) (imm : BitVec 16)
  /-- VADD (R306). VOP VADD adds lanes, wrapping. -/
  | opVadd (t : Nat) (n : Nat) (vd va vb : Fin 8)
  /-- VSUB (R306). VOP VSUB subtracts lanes, wrapping. -/
  | opVsub (t : Nat) (n : Nat) (vd va vb : Fin 8)
  /-- VADDS (R306). VOP VADDS adds lanes with signed saturation. -/
  | opVadds (t : Nat) (n : Nat) (vd va vb : Fin 8)
  /-- VSUBS (R306). VOP VSUBS subtracts lanes with signed saturation. -/
  | opVsubs (t : Nat) (n : Nat) (vd va vb : Fin 8)
  /-- VMUL (R306). VOP VMUL gives the low 16 bits of the lane products. -/
  | opVmul (t : Nat) (n : Nat) (vd va vb : Fin 8)
  /-- VMULH (R306). VOP VMULH gives the high 16 bits of the signed lane products. -/
  | opVmulh (t : Nat) (n : Nat) (vd va vb : Fin 8)
  /-- VMIN (R306). VOP VMIN gives the signed lane minimum. -/
  | opVmin (t : Nat) (n : Nat) (vd va vb : Fin 8)
  /-- VMAX (R306). VOP VMAX gives the signed lane maximum. -/
  | opVmax (t : Nat) (n : Nat) (vd va vb : Fin 8)
  /-- VAND (R306). VOP VAND ands lanes. -/
  | opVand (t : Nat) (n : Nat) (vd va vb : Fin 8)
  /-- VOR (R306). VOP VOR ors lanes. -/
  | opVor (t : Nat) (n : Nat) (vd va vb : Fin 8)
  /-- VXOR (R306). VOP VXOR xors lanes. -/
  | opVxor (t : Nat) (n : Nat) (vd va vb : Fin 8)
  /-- VSRA (R306). VOP VSRA shifts lanes right arithmetically. -/
  | opVsra (t : Nat) (n : Nat) (vd va : Fin 8) (amt : BitVec 4)
  /-- VSLL (R306). VOP VSLL shifts lanes left. -/
  | opVsll (t : Nat) (n : Nat) (vd va : Fin 8) (amt : BitVec 4)
  /-- VSPLAT (R306). VOP VSPLAT fills every lane from a scalar. -/
  | opVsplat (t : Nat) (n : Nat) (vd : Fin 8) (r : Fin 32)
  /-- VSUM (R306). VOP VSUM sums the lanes into a scalar. -/
  | opVsum (t : Nat) (n : Nat) (va : Fin 8) (r : Fin 32)
  /-- VEXT (R306). VOP VEXT extracts one lane, sign-extended. -/
  | opVext (t : Nat) (n : Nat) (va : Fin 8) (r : Fin 32) (lane : Fin 8)
  /-- VINS (R306). VOP VINS inserts a scalar into one lane. -/
  | opVins (t : Nat) (n : Nat) (vd : Fin 8) (r : Fin 32) (lane : Fin 8)
  /-- VABSD (R306). VOP VABSD gives lane absolute differences, saturating. -/
  | opVabsd (t : Nat) (n : Nat) (vd va vb : Fin 8)
  /-- TIMER_COMPARE (R310). TIMER_LO reaches TIMER_CMP, and SIG.TIMER is set. -/
  | timerCompare (t : Nat) (n : Nat)
  /-- WATCHDOG_EXPIRE (R310). A core's watchdog limit passes, and exception WATCHDOG is raised. -/
  | watchdogExpire (t : Nat) (n : Nat)
  /-- CLEAR_COUNTERS (R322). PERF_CTRL.CLEAR sets all 640 counters to 0 together. -/
  | clearCounters (t : Nat) (w : Writer) (v : Word)
  /-- LATCHING_LO_READ (R479). A read of a latching LO register latches the upper bits for the reading context. -/
  | latchingLoRead (t : Nat) (w : Writer) (off : Nat)
  /-- NOW (R329). PERF_TALLY_CTRL.NOW takes a tally snapshot at once. -/
  | tallyNow (t : Nat) (w : Writer) (v : Word)
  /-- TALLY_PERIOD_EXPIRE (R329). The tally period elapses, and a snapshot is taken or skipped. -/
  | tallyPeriodExpire (t : Nat)
  /-- TALLY_DUMP_DONE (R330). A tally dump is complete with its header, and the tally interrupt source fires. -/
  | tallyDumpDone (t : Nat)
  /-- ARM (R328). PERF_SAMP_CTRL.ARM clears WIDX, reseeds and restarts the sampling countdowns. -/
  | sampArm (t : Nat) (w : Writer) (v : Word)
  /-- SAMPLE_TAG (R326). A core's sampling countdown reaches 0, and its next instruction is tagged. -/
  | sampleTag (t : Nat) (n : Nat)
  /-- SAMPLE_RECORD_WRITE (R327). The tagged instruction retires or is squashed, and its sample record is written. -/
  | sampleRecordWrite (t : Nat) (n : Nat) (obs : SampleObs)
  /-- DRAM_TRAINING_DONE (R335). DRAM channel training ends at a rate reached, or with a channel FAILED. -/
  | dramTrainingDone (t : Nat) (dc0 : TrainResult) (dc1 : TrainResult)
  /-- DRAM_FILL_DONE (R336). The ECC zero fill of the DRAM capacity completes. -/
  | dramFillDone (t : Nat)
  /-- REFRESH_DUE (R341). tREFI2 elapses, and a refresh is issued or postponed behind panic. -/
  | refreshDue (t : Nat) (m : Nat)
  /-- RETRAIN_INTERVAL (R343). RETRAIN_INT elapses, and a retraining round starts, or the interval is dropped if one is still gathering. -/
  | retrainInterval (t : Nat) (m : Nat)
  /-- RETRAIN_PAUSE (R343). A retraining pause falls due and is issued when no panic holds. -/
  | retrainPause (t : Nat) (m : Nat)
  /-- RETRAIN (R343). DC_CTRL.RETRAIN starts a retraining round on each READY channel. -/
  | dcRetrain (t : Nat) (w : Writer) (v : Word)
  /-- SETPOINT_CHANGE (R345). A write changing DC_CTRL.SETPOINT requests a frequency change, held if it fails the budget. -/
  | setpointChange (t : Nat) (w : Writer) (v : Word)
  /-- CHANGE_PAUSE (R345). A frequency change pause moves the DRAM through self-refresh to the new rate. -/
  | changePause (t : Nat)
  /-- SR_IDLE_ENTRY (R347). No request for SR_IDLE µs, so the channel enters self-refresh. -/
  | srIdleEntry (t : Nat) (m : Nat) (request : Option Bool)
  /-- SCRUB_BURST_READ (R350). The scrubber reads a burst, writing back a correction or logging an error. -/
  | scrubBurstRead (t : Nat) (addr : Nat) (err : ReadError)
  /-- REG_RD (R360). A REG_RD datagram reads registers and is answered by REG_RDR. -/
  | regRd (t : Nat) (q : Nat) (ip : Word) (port : Nat) (d : List Byte)
  /-- REG_WR (R360). A REG_WR datagram writes consecutive registers. -/
  | regWr (t : Nat) (q : Nat) (ip : Word) (port : Nat) (d : List Byte)
  /-- OPEN (R361). An OPEN datagram latches the peer for a context and is answered by OPEN_ACK. -/
  | dgOpen (t : Nat) (q : Nat) (ip : Word) (port : Nat) (d : List Byte)
  /-- CLOSE (R361). A CLOSE datagram releases the context's peer. -/
  | dgClose (t : Nat) (q : Nat) (ip : Word) (port : Nat) (d : List Byte)
  /-- KEEP (R361). A KEEP datagram keeps the peer. -/
  | dgKeep (t : Nat) (q : Nat) (ip : Word) (port : Nat) (d : List Byte)
  /-- RD_DATA (R360). An RD_DATA datagram delivers host data for a device RD_REQ. -/
  | rdData (t : Nat) (q : Nat) (ip : Word) (port : Nat) (d : List Byte)
  /-- DATAGRAM_RESEND_TIMEOUT (R362). HOST_EN_RTO elapses for an unacknowledged datagram, and it is resent, or after 8 sends the peer is lost. -/
  | datagramResendTimeout (t : Nat) (h : Nat)
  /-- PEER_TIMEOUT (R361). 5 s pass with no datagram from the peer, and it is released. -/
  | peerTimeout (t : Nat) (h : Nat)
  /-- ARP_REQUEST (R357). An ARP request for a port's address is answered. -/
  | arpRequest (t : Nat) (q : Nat) (target sender : Word) (mac : Nat)
  /-- ICMP_ECHO_REQUEST (R357). An ICMP echo request for a port's address is answered. -/
  | icmpEchoRequest (t : Nat) (q : Nat) (target sender : Word) (payload : List Byte)
  /-- FUNCTION_LEVEL_RESET (R356). An FLR or a link-down of a bound endpoint aborts its context and resets its interrupts. -/
  | functionLevelReset (t : Nat) (n : Nat) (linkDown : Bool)
  /-- DM_DOORBELL (R367). A doorbell write starts a DMA chain, holds it pending, or is dropped. -/
  | dmDoorbell (t : Nat) (h : Nat) (j : Nat)
  /-- STOP (R374). DM_CTRL.STOP halts a channel at its next descriptor boundary. -/
  | dmStop (t : Nat) (h : Nat) (j : Nat) (v : Word)
  /-- ABORT (R374). DMA_CTRL.ABORT halts all four channels and ends the context's open store slots. -/
  | dmAbort (t : Nat) (h : Nat) (v : Word)
  /-- DESCRIPTOR_FETCH (R369). A channel fetches a descriptor and checks its alignment and rights. -/
  | descriptorFetch (t : Nat) (ch : Nat) (d : List Byte)
  /-- DMA_BURST (R371). The engine moves one burst of at most 4,096 bytes of a descriptor. -/
  | dmaBurst (t : Nat) (ch : Nat) (d : List Byte)
  /-- DESCRIPTOR_COMPLETE (R373). Every write of a descriptor is accepted, so status is written back and the next descriptor fetched. -/
  | descriptorComplete (t : Nat) (ch : Nat)
  /-- NON_RESPONDING_MEMORY (R376). A read or write fails on its way, so the access ends as non-responding. -/
  | nonRespondingMemory (t : Nat) (ch : Nat) (kind : NonRespKind) (addr : Nat)
  /-- IRQ_GAP_EXPIRE (R366). An interrupt source's GAP elapses, and a held occurrence is signalled. -/
  | irqGapExpire (t : Nat) (h : Nat) (src : Nat)
  /-- REG_WRITE (R476). A register write with no row of its own is judged for ownership and access and takes effect. -/
  | regWrite (t : Nat) (w : Writer) (off : Nat) (v : Word) (be : BitVec 4)
  /-- HELLO (R386). A HELLO arrives on a twin link, and the unit settles its role in pair formation. -/
  | twHello (t : Nat) (q : Nat) (m : Hello)
  /-- BEAT (R391). A BEAT arrives, and the standby follows the active unit's position and compares time. -/
  | twBeat (t : Nat) (q : Nat) (m : Beat)
  /-- BEAT_SEND (R382). Every 100 µs a unit sends a BEAT on each twin link. -/
  | twBeatSend (t : Nat)
  /-- CKPT (R394). A CKPT arrives, and the standby keeps it and compares live digests. -/
  | twCkpt (t : Nat) (q : Nat) (seq : Word) (f : List Byte)
  /-- CKPT_SEND (R394). The active unit sends a checkpoint every 10 ms and at its listed moments. -/
  | twCkptSend (t : Nat)
  /-- MIRROR (R393). A MIRROR frame's bursts are written into the standby's job home. -/
  | twMirror (t : Nat) (q : Nat) (seq : Word) (off : Nat) (bursts : List Byte) (poison : Bool)
  /-- STATE (R392). A STATE frame carries a staged batch, LIVE image, queue operation, compare setting or baseline to the standby. -/
  | twState (t : Nat) (q : Nat) (seq : Word) (item : TwinItem)
  /-- IDIG (R396). An IDIG frame gives the standby the intended digests. -/
  | twIdig (t : Nat) (q : Nat) (seq : Word) (digs : List IntDigest)
  /-- TWIN_ACK (R382). An ACK frame acknowledges twin frames applied in order. -/
  | twAck (t : Nat) (q : Nat) (seq : Word)
  /-- TWIN_PROBE (R382). A PROBE or PROBE_ECHO on a twin link measures its latency. -/
  | twProbe (t : Nat) (q : Nat) (echo : Bool) (seq : Word) (tta : Nat) (rtPs : Nat)
  /-- TWIN_RESEND_TIMEOUT (R382). 50 µs pass without an acknowledgement, so frames are resent. -/
  | twResendTimeout (t : Nat)
  /-- TWIN_LINK_TIMEOUT (R384). 1 ms with no valid frame, or loss of lock, puts a twin link down. -/
  | twLinkTimeout (t : Nat) (q : Nat)
  /-- HEARTBEAT_LOSS (R384). 1 ms passes with no valid BEAT on either twin link. -/
  | heartbeatLoss (t : Nat)
  /-- ECHO_OVERDUE (R396). A block's ECHO has not arrived 100 µs after its last fire position, so the block is overdue. -/
  | echoOverdue (t : Nat) (k : Nat) (h : Nat) (block : Nat)
  /-- TAKEOVER_TIMEOUT (R388). 50 ms pass after t_d, so TAKEOVER becomes ACTIVE or ALONE. -/
  | takeoverTimeout (t : Nat)
  /-- PAIR_WAIT_EXPIRE (R388). PAIR_WAIT elapses with no HELLO, so a rank-0x80 unit enters ALONE. -/
  | pairWaitExpire (t : Nat)
  /-- HOLDOFF_EXPIRE (R388). The reversion hold-off expires with the unit ready, so it enters REVERTING. -/
  | holdoffExpire (t : Nat)
  /-- REVERT_REQUEST (R403). A REVERT request makes the active unit reply with the hand-over seam. -/
  | revertRequest (t : Nat) (q : Nat)
  /-- REVERT_ACK (R403). A REVERT acknowledgement gives the primary S_s, which it prepares and claims. -/
  | revertAck (t : Nat) (q : Nat) (seam : Int)
  /-- REVERT_ABORT (R403). A REVERT abort returns the primary to WATCH for the next seam. -/
  | revertAbort (t : Nat) (q : Nat)
  /-- REVERT_READY_CHECK (R403). 1 ms before S_s a link is not READY, so the primary aborts the reversion. -/
  | revertReadyCheck (t : Nat)
  /-- REVERT_NOW (R405). TW_CTRL.REVERT_NOW ends the remaining hold-off. -/
  | revertNow (t : Nat) (w : Writer) (v : Word)
  /-- RESYNC (R405). TW_CTRL.RESYNC makes a standby re-enter SYNC with a full baseline. -/
  | twResync (t : Nat) (w : Writer) (v : Word)
  /-- ALONE (R388). TW_CTRL.ALONE makes a PAIRING unit claim alone. -/
  | twAlone (t : Nat) (w : Writer) (v : Word)
  /-- PTP_SYNC (R414). A PTP Sync arrives and yields an offset for the domain. -/
  | ptpSync (t : Nat) (q : Nat) (m : PtpMsg)
  /-- FOLLOW_UP (R414). A Follow_Up completes a two-step Sync. -/
  | ptpFollowUp (t : Nat) (q : Nat) (m : PtpMsg)
  /-- DELAY_REQ (R417). A Delay_Req is answered by a master port. -/
  | ptpDelayReq (t : Nat) (q : Nat) (m : PtpMsg)
  /-- DELAY_RESP (R414). A Delay_Resp gives the E2E path delay. -/
  | ptpDelayResp (t : Nat) (q : Nat) (m : PtpMsg)
  /-- PDELAY_REQ (R416). A Pdelay_Req is answered with a Pdelay_Resp. -/
  | ptpPdelayReq (t : Nat) (q : Nat) (m : PtpMsg)
  /-- PDELAY_RESP (R414). A Pdelay_Resp or Pdelay_Resp_Follow_Up gives the P2P path delay. -/
  | ptpPdelayResp (t : Nat) (q : Nat) (m : PtpMsg)
  /-- ANNOUNCE (R414). An Announce qualifies a parent and advances the domain state. -/
  | ptpAnnounce (t : Nat) (q : Nat) (m : PtpMsg) (a : AnnounceBody)
  /-- PTP_OTHER_MESSAGE (R413). A Signaling, Management or foreign-domain message is discarded and counted. -/
  | ptpOther (t : Nat) (q : Nat) (m : PtpMsg)
  /-- DELAY_REQ_SEND (R414). The device sends a Delay_Req or Pdelay_Req at the interval set. -/
  | delayReqSend (t : Nat) (q : Nat) (dom : Nat)
  /-- MASTER_ANNOUNCE_SEND (R417). A master port sends Announce every 1 s. -/
  | masterAnnounceSend (t : Nat) (q : Nat) (dom : Nat)
  /-- MASTER_SYNC_SEND (R417). A master port sends a one-step Sync every 2^LOGSYNC s. -/
  | masterSyncSend (t : Nat) (q : Nat) (dom : Nat)
  /-- DOMAIN_LOST (R414). Announce or Sync messages are missing beyond their timeout, so the domain goes LOST. -/
  | domainLost (t : Nat) (dom : Nat)
  /-- DOMAIN_RETURN (R418). TD0 has been LOCKED for RETURN_S, so it steers again. -/
  | domainReturn (t : Nat)
  /-- TK_STEP (R410). TK_CTRL.STEP requests a step of the clock to TK_SET. -/
  | tkStep (t : Nat) (w : Writer) (v : Word)
  /-- PENDING_STEP_MADE (R411). A pending step is made at the first sample at which no job prints or the web is stopped. -/
  | pendingStepMade (t : Nat)
  /-- TK_SNAP_TAKE (R424). TK_SNAP_CTRL.TAKE fills the context's time and position snapshot. -/
  | tkSnapTake (t : Nat) (w : Writer) (v : Word)
  /-- TP_ARM (R420). TP_CTRL.ARM arms a time-pulse unit, which becomes ARMED or MISSED. -/
  | tpArm (t : Nat) (w : Writer) (n : Nat) (v : Word)
  /-- TP_DISARM (R419). TP_CTRL.DISARM returns a time-pulse unit to IDLE. -/
  | tpDisarm (t : Nat) (w : Writer) (n : Nat) (v : Word)
  /-- TP_EDGE (R419). The local clock reaches a time-pulse target, and the active edge is emitted. -/
  | tpEdge (t : Nat) (n : Nat)
  /-- TP_PULSE_END (R419). TP_WIDTH elapses, and the time pulse ends. -/
  | tpPulseEnd (t : Nat) (n : Nat)
  /-- TC_EDGE (R422). An edge on a time-capture input queues its time and P. -/
  | tcEdge (t : Nat) (c : Nat) (falling : Bool)
  /-- TC_POP (R423). A read of TC_POP by the owner pops the oldest capture into the holding registers. -/
  | tcPop (t : Nat) (w : Writer) (c : Nat)
  /-- HK_ROUND (R433). A housekeeping round visits sensors, supplies, HK frames, DREF and DRAM temperature and judges at its end. -/
  | hkRound (t : Nat) (obs : HkObs)
  /-- GRACE_EXPIRE (R438). An ask cause has held for GRACE, so the state becomes ENFORCED. -/
  | graceExpire (t : Nat)
  /-- GOV_TICK (R430). Each STEP_US tick the slack governor raises, lowers or holds the VDD_CORE set point. -/
  | govTick (t : Nat)
  /-- PLUMB_SAMPLE (R426). Every 16 µs the reference oscillators are counted, and HK_FABRIC updates. -/
  | plumbSample (t : Nat) (counts : List Nat)
  /-- LOSS_OF_SIGNAL (R449). The receiver amplitude stays below 65 mV for 1 µs, and the lane enters loss of signal. -/
  | lossOfSignal (t : Nat) (n : Nat)
  /-- SIGNAL_RESTORED (R449). The amplitude stays above 120 mV for 10 µs, and loss of signal clears. -/
  | signalRestored (t : Nat) (n : Nat)
  /-- BLOCK_LOCK (R448). 64 consecutive valid headers at one position give block lock. -/
  | blockLock (t : Nat) (n : Nat)
  /-- LOCK_LOST (R448). 16 invalid headers in 64 blocks lose lock, and the receiver hunts again. -/
  | lockLost (t : Nat) (n : Nat)
  /-- EIDLE_ENTER (R451). After 10 µs of IDLE blocks with nothing pending, a bar-link transmitter enters electrical idle. -/
  | eidleEnter (t : Nat) (k : Nat)
  /-- EIDLE_EXIT (R452). The device leaves electrical idle with a training burst before sending. -/
  | eidleExit (t : Nat) (k : Nat)
  /-- DEEP_STATE_EXIT_DONE (R453). A transmitter's 1.5 ms deep-state exit completes. -/
  | deepStateExitDone (t : Nat) (n : Nat)
  /-- LANE_TEST_PATTERN (R456). TMODE 1 starts a PATTERN test on the lane. -/
  | laneTestPattern (t : Nat) (w : Writer) (n : Nat) (v : Word)
  /-- LANE_TEST_FAR_LOOP (R456). TMODE 2 starts a FAR_LOOP test. -/
  | laneTestFarLoop (t : Nat) (w : Writer) (n : Nat) (v : Word)
  /-- LANE_TEST_NEAR_LOOP (R456). TMODE 3 starts a NEAR_LOOP test inside the PHY. -/
  | laneTestNearLoop (t : Nat) (w : Writer) (n : Nat) (v : Word)
  /-- LANE_TEST_OFF (R456). TMODE 0 ends a lane test early. -/
  | laneTestOff (t : Nat) (w : Writer) (n : Nat) (v : Word)
  /-- LANE_TEST_END (R456). LANE_TDUR elapses, the lane returns to normal and TDONE is set. -/
  | laneTestEnd (t : Nat) (n : Nat) (obs : LaneObs)
  /-- ERRINJ (R455). LANE_CTRL.ERRINJ inverts one transmitted bit at the next block boundary. -/
  | laneErrinj (t : Nat) (w : Writer) (n : Nat) (v : Word)
  /-- CLR (R459). LANE_CTRL.CLR clears the lane's counters. -/
  | laneClr (t : Nat) (w : Writer) (n : Nat) (v : Word)
  /-- ILLEGAL_INSTRUCTION (R307). A core issues an instruction word whose opcode or fn is not listed, or whose must-be-zero fields are not 0, and exception ILLEGAL is raised. -/
  | illegalInstruction (t : Nat) (n : Nat) (word : Word)
  /-- PCIE_LINK_TRAINED (R355). A PCIe endpoint's link finishes training, and EV_NEGOTIATED_DOWN is raised if it is below Gen4 x4. -/
  | pcieLinkTrained (t : Nat) (n : Nat) (speed width : Nat)
  /-- FRAME_DISCARDED (R209). A frame with an invalid block, IDLE or SOF inside it, a bad CRC, a wrong length or an unknown type arrives, and it is discarded whole and counted. -/
  | frameDiscarded (t : Nat) (rx : Receiver)
  /-- DATAGRAM_DISCARDED (R359). A datagram with a bad magic, version or CRC, a LEN larger than itself, or a CTX not bound to its port arrives, and it is discarded and counted in HOST_EN_BAD. -/
  | datagramDiscarded (t : Nat) (q : Nat) (ip : Word) (port : Nat) (d : List Byte)
  /-- EP_REFO_OUT_OF_LIMITS (R238). A supply of the endpoint, or the REFO clock of a head's firing port, leaves or returns to its limits, and the endpoint keeps that head from jetting while it is out. -/
  | epRefoOutOfLimits (t : Nat) (k : Nat) (x : Port) (out : Bool)
deriving DecidableEq, Repr

end Sys2Proof
end

