-- ==== Sys2Proof/Decode.lean ====
section
/-!
DEFINITION. Decoding. The command table gives no row any bits, so no word spells a command; what is decoded and
encoded here are the instruction words of the control cores (R303 to R306).
-/
namespace Sys2Proof

/-- The command a word spells by the table's bits: the table gives no row any, so no word spells one. -/
def decodeTableWord (_nbits _w : Nat) : Option Instr := none

end Sys2Proof
end

