-- ==== Sys2Proof/Config.lean ====
section
/-!
DEFINITION. What the spec leaves open and the model must not choose: the free values. Each is a constant without a
body, so that nothing can be proved of its value (log entry 3).
-/
namespace Sys2Proof

/-- A fresh value the spec does not give: applied to the free-value counter of the state. -/
opaque Config.freeValue : Nat → Nat

/-- The rate correction the servo's filter asks for, before the limit of 500 ppm (R409 gives the filter's natural
frequency and damping, not its arithmetic): applied to the counter, the offset in ns and the correction in force. -/
opaque Config.servo : Nat → Int → Int → Int

/-- Port ENq runs 10GBASE-KR, and has agreed clause 74 FEC: what stands at its other end decides (R357). -/
opaque Config.enKr : Nat → Bool
opaque Config.enFec : Nat → Bool

end Sys2Proof
end

