-- ==== Sys2Proof/Machine/RegMap.lean ====
section
/-!
DEFINITION. The register map (R475, R482): for every offset of the window its access code, its reset value, the bits a
write stores, the bits that are defined, and the rule that says who may write it.
-/
namespace Sys2Proof.Machine

/-- Access codes (R5). -/
inductive Acc where
  | ro | rw | wo | w1c | w1s | rc
deriving DecidableEq, Repr

/-- Who may write a register (R363 and each block's own rule). -/
inductive Guard where
  /-- No owner rule. -/
  | free
  /-- A context's own HOST and DMA registers (R378). -/
  | priv
  /-- The owner of the resource of the OWN class, at the register's first instance number (R48). -/
  | cls (c : Nat)
  /-- The owner of the lead plane's job queue (R87). -/
  | lead
  /-- The owner of plane c's job queue (R87). -/
  | planeQ
  /-- HCh for CS(2h) and CS(2h+1) (R80). -/
  | slot
  /-- OWN class 11 or the supervisor core (R153, R296): the pattern slots. -/
  | pat
  /-- OWN class 11 or the supervisor core: NZ_LEDGER_CTRL. -/
  | ledger
  /-- CC0 only: LOOP_STATUS (R295). -/
  | cc0
  /-- OWN class 8, or the supervisor for CC1 to CC7 (R331). -/
  | ccCtrl
  /-- OWN class 9: PERF_TALLY_REGION, with its region check (R331). -/
  | tally
  /-- OWN class 10, or CC0: TW_CTRL (R405). -/
  | twCtrl
  /-- OWN class 7, or CC0: HK_CTRL (R443). -/
  | hkCtrl
deriving DecidableEq, Repr

/-- One row of the register map: the registers at `base` + `s1` * i + `s2` * j for i < `n1` and j < `n2`. -/
structure RegRow where
  base : Nat
  acc : Acc
  reset : Word
  /-- Bits a write stores (RW) or acts on (W1C). -/
  wmask : Word
  /-- Further bits that are defined: write-1-to-set bits that read 0, keys. -/
  act : Word
  /-- Write-1-to-clear bits of a register whose main code is RO. -/
  clr : Word
  n1 : Nat
  s1 : Nat
  n2 : Nat
  s2 : Nat
  guard : Guard
deriving DecidableEq, Repr

/-- The instance numbers of the register of a row at an offset, if the row has it. -/
def RegRow.find (r : RegRow) (off : Nat) : Option (Nat × Nat) :=
  if off < r.base then none
  else
    let d := off - r.base
    let i := if r.s1 = 0 then 0 else min (d / r.s1) (r.n1 - 1)
    let e := d - i * r.s1
    let j := if r.s2 = 0 then 0 else min (e / r.s2) (r.n2 - 1)
    if e = j * r.s2 then some (i, j) else none

/-- The rows of a list that hold an offset: the first one. -/
def findRow : List RegRow → Nat → Option (RegRow × Nat × Nat)
  | [], _ => none
  | r :: rs, off =>
    match r.find off with
    | some (i, j) => some (r, i, j)
    | none => findRow rs off

/-- The SYS block, part 0 (R482). -/
def regsSYS0 : List RegRow := [
  -- SYS_ID
  ⟨0x000000, .ro, 0x825601B0, 0x00000000, 0x00000000, 0x00000000, 1, 0x0, 1, 0x0, .free⟩,
  -- SYS_CTRL
  ⟨0x000004, .rw, 0x00000000, 0x00000000, 0xFFFF0001, 0x00000000, 1, 0x0, 1, 0x0, .cls 7⟩,
  -- SYS_STATUS
  ⟨0x000008, .ro, 0x00000000, 0x00000000, 0x00000000, 0x00000000, 1, 0x0, 1, 0x0, .free⟩,
  -- SYS_SRAM_CE, _UE, _LOG, _ADDR
  ⟨0x00000C, .ro, 0x00000000, 0x00000000, 0x00000000, 0x00000000, 1, 0x0, 4, 0x4, .free⟩]

/-- The SYS block (R482). -/
def regsSYS : List RegRow := regsSYS0

/-- The HOST block, part 0 (R482). -/
def regsHOST0 : List RegRow := [
  -- HOST_ID
  ⟨0x010000, .ro, 0x00000000, 0x00000000, 0x00000000, 0x00000000, 1, 0x0, 1, 0x0, .free⟩,
  -- HOST_CTRL
  ⟨0x010004, .rw, 0x00000000, 0x00000003, 0x00000000, 0x00000000, 1, 0x0, 1, 0x0, .priv⟩,
  -- HOST_STATUS
  ⟨0x010008, .ro, 0x00000000, 0x00000000, 0x00000000, 0x00000003, 1, 0x0, 1, 0x0, .priv⟩,
  -- HOST_EVT_BASE_LO
  ⟨0x010010, .rw, 0x00000000, 0xFFFFFFC0, 0x00000000, 0x00000000, 1, 0x0, 1, 0x0, .priv⟩,
  -- HOST_EVT_BASE_HI
  ⟨0x010014, .rw, 0x00000000, 0xFFFFFFFF, 0x00000000, 0x00000000, 1, 0x0, 1, 0x0, .priv⟩,
  -- HOST_EVT_SIZE
  ⟨0x010018, .rw, 0x0000000A, 0x0000001F, 0x00000000, 0x00000000, 1, 0x0, 1, 0x0, .priv⟩,
  -- HOST_EVT_WIDX
  ⟨0x01001C, .ro, 0x00000000, 0x00000000, 0x00000000, 0x00000000, 1, 0x0, 1, 0x0, .free⟩,
  -- HOST_EVT_RIDX
  ⟨0x010020, .rw, 0x00000000, 0xFFFFFFFF, 0x00000000, 0x00000000, 1, 0x0, 1, 0x0, .priv⟩,
  -- HOST_EVT_DROP
  ⟨0x010024, .ro, 0x00000000, 0x00000000, 0x00000000, 0x00000000, 1, 0x0, 1, 0x0, .free⟩,
  -- HOST_EVT_WBACK_LO
  ⟨0x010028, .rw, 0x00000000, 0xFFFFFFFF, 0x00000000, 0x00000000, 1, 0x0, 1, 0x0, .priv⟩,
  -- HOST_EVT_WBACK_HI
  ⟨0x01002C, .rw, 0x00000000, 0xFFFFFFFF, 0x00000000, 0x00000000, 1, 0x0, 1, 0x0, .priv⟩,
  -- HOST_STA_BASE_LO
  ⟨0x010030, .rw, 0x00000000, 0xFFFFFFFF, 0x00000000, 0x00000000, 1, 0x0, 1, 0x0, .priv⟩,
  -- HOST_STA_BASE_HI
  ⟨0x010034, .rw, 0x00000000, 0xFFFFFFFF, 0x00000000, 0x00000000, 1, 0x0, 1, 0x0, .priv⟩,
  -- HOST_STA_SIZE
  ⟨0x010038, .rw, 0x00000014, 0x0000001F, 0x00000000, 0x00000000, 1, 0x0, 1, 0x0, .priv⟩,
  -- HOST_STA_WIDX
  ⟨0x01003C, .ro, 0x00000000, 0x00000000, 0x00000000, 0x00000000, 1, 0x0, 1, 0x0, .free⟩,
  -- HOST_STA_RIDX
  ⟨0x010040, .rw, 0x00000000, 0xFFFFFFFF, 0x00000000, 0x00000000, 1, 0x0, 1, 0x0, .priv⟩,
  -- HOST_STA_DROP
  ⟨0x010044, .ro, 0x00000000, 0x00000000, 0x00000000, 0x00000000, 1, 0x0, 1, 0x0, .free⟩,
  -- HOST_IRQ_MOD
  ⟨0x010048, .rw, 0x00010032, 0x00FFFFFF, 0x00000000, 0x00000000, 1, 0x0, 1, 0x0, .priv⟩,
  -- HOST_IRQ_PEND
  ⟨0x01004C, .w1c, 0x00000000, 0x000000FF, 0x00000000, 0x00000000, 1, 0x0, 1, 0x0, .priv⟩,
  -- HOST_PEER_IP, HOST_PEER_PORT
  ⟨0x010060, .ro, 0x00000000, 0x00000000, 0x00000000, 0x00000000, 1, 0x0, 2, 0x4, .free⟩]

/-- The HOST block, part 1 (R482). -/
def regsHOST1 : List RegRow := [
  -- HOST_IRQ_MAP s
  ⟨0x010080, .rw, 0x00000000, 0x8000001F, 0x00000000, 0x00000000, 8, 0x4, 1, 0x0, .priv⟩,
  -- HOST_DMA_WEIGHT h
  ⟨0x0100C0, .rw, 0x00000004, 0x0000000F, 0x00000000, 0x00000000, 4, 0x4, 1, 0x0, .cls 7⟩,
  -- HOST_OWN_LO c, HOST_OWN_HI c
  ⟨0x010100, .ro, 0x00000000, 0x00000000, 0x00000000, 0x00000000, 1, 0x0, 24, 0x4, .free⟩,
  -- HOST_EN_IP q
  ⟨0x010200, .rw, 0x00000000, 0xFFFFFFFF, 0x00000000, 0x00000000, 2, 0x20, 1, 0x0, .cls 7⟩,
  -- HOST_EN_NET q
  ⟨0x010204, .rw, 0x00000000, 0x8FFF001F, 0x00000000, 0x00000000, 2, 0x20, 1, 0x0, .cls 7⟩,
  -- HOST_EN_GW q
  ⟨0x010208, .rw, 0x00000000, 0xFFFFFFFF, 0x00000000, 0x00000000, 2, 0x20, 1, 0x0, .cls 7⟩,
  -- HOST_EN_RTO q
  ⟨0x01020C, .rw, 0x000003E8, 0x0000FFFF, 0x00000000, 0x00000000, 2, 0x20, 1, 0x0, .cls 7⟩,
  -- HOST_EN_STATUS q, _BAD q, _FOREIGN q, _LOST q
  ⟨0x010210, .ro, 0x00000000, 0x00000000, 0x00000000, 0x00000000, 2, 0x20, 4, 0x4, .free⟩,
  -- MSI-X table: address and data of vector n
  ⟨0x011000, .rw, 0x00000000, 0xFFFFFFFF, 0x00000000, 0x00000000, 32, 0x10, 3, 0x4, .priv⟩,
  -- MSI-X table: vector control of vector n
  ⟨0x01100C, .rw, 0x00000001, 0x00000001, 0x00000000, 0x00000000, 32, 0x10, 1, 0x0, .priv⟩,
  -- MSI-X PBA
  ⟨0x011200, .ro, 0x00000000, 0x00000000, 0x00000000, 0x00000000, 1, 0x0, 1, 0x0, .free⟩]

/-- The HOST block (R482). -/
def regsHOST : List RegRow := regsHOST0 ++ regsHOST1

/-- The DMA block, part 0 (R482). -/
def regsDMA0 : List RegRow := [
  -- DM_CTRL
  ⟨0x020000, .w1s, 0x00000000, 0x00000001, 0x00000000, 0x00000000, 4, 0x40, 1, 0x0, .priv⟩,
  -- DM_STATUS
  ⟨0x020004, .ro, 0x00000000, 0x00000000, 0x00000000, 0x00000010, 4, 0x40, 1, 0x0, .priv⟩,
  -- DM_HEAD_LO
  ⟨0x020008, .rw, 0x00000000, 0xFFFFFFFF, 0x00000000, 0x00000000, 4, 0x40, 1, 0x0, .priv⟩,
  -- DM_HEAD_HI
  ⟨0x02000C, .rw, 0x00000000, 0xFFFFFFFF, 0x00000000, 0x00000000, 4, 0x40, 1, 0x0, .priv⟩,
  -- DM_DOORBELL
  ⟨0x020010, .wo, 0x00000000, 0xFFFFFFFF, 0x00000000, 0x00000000, 4, 0x40, 1, 0x0, .priv⟩,
  -- DM_CUR_LO, DM_CUR_HI, DM_RESIDUE, DM_DONE
  ⟨0x020014, .ro, 0x00000000, 0x00000000, 0x00000000, 0x00000000, 4, 0x40, 4, 0x4, .free⟩,
  -- DMA_CTRL
  ⟨0x020100, .w1s, 0x00000000, 0x00000001, 0x00000000, 0x00000000, 1, 0x0, 1, 0x0, .priv⟩]

/-- The DMA block (R482). -/
def regsDMA : List RegRow := regsDMA0

/-- The FORME block, part 0 (R482). -/
def regsFORME0 : List RegRow := [
  -- FORME_CTRL
  ⟨0x030000, .rw, 0x00000000, 0x000000FC, 0x00000001, 0x00000000, 1, 0x0, 1, 0x0, .cls 7⟩,
  -- FORME_STATUS
  ⟨0x030004, .ro, 0x00000000, 0x00000000, 0x00000000, 0x00000000, 1, 0x0, 1, 0x0, .free⟩,
  -- FORME_SRC_LO
  ⟨0x030008, .rw, 0x00000000, 0xFFFFFFFF, 0x00000000, 0x00000000, 1, 0x0, 1, 0x0, .cls 7⟩,
  -- FORME_SRC_HI
  ⟨0x03000C, .rw, 0x00000000, 0xFFFFFFFF, 0x00000000, 0x00000000, 1, 0x0, 1, 0x0, .cls 7⟩,
  -- FORME_LEN
  ⟨0x030010, .rw, 0x00000000, 0xFFFFFFFF, 0x00000000, 0x00000000, 1, 0x0, 1, 0x0, .cls 7⟩,
  -- FORME_LIVE_AT
  ⟨0x030068, .rw, 0x00000000, 0xFFFFFFFF, 0x00000000, 0x00000000, 1, 0x0, 1, 0x0, .cls 7⟩,
  -- FORME_ID, _REV, _SLOT, _BDIG0-7, _LDIG0-7, _LIVE_SEAM
  ⟨0x030014, .ro, 0x00000000, 0x00000000, 0x00000000, 0x00000000, 1, 0x0, 20, 0x4, .free⟩,
  -- FORME_FLASH_CTRL
  ⟨0x030070, .rw, 0x00000000, 0x00000030, 0x00000001, 0x00000000, 1, 0x0, 1, 0x0, .cls 7⟩,
  -- FORME_FLASH_STATUS
  ⟨0x030074, .ro, 0x00000000, 0x00000000, 0x00000000, 0x00000000, 1, 0x0, 1, 0x0, .free⟩,
  -- FORME_FLASH_SRC_LO
  ⟨0x030078, .rw, 0x00000000, 0xFFFFFFFF, 0x00000000, 0x00000000, 1, 0x0, 1, 0x0, .cls 7⟩,
  -- FORME_FLASH_SRC_HI
  ⟨0x03007C, .rw, 0x00000000, 0xFFFFFFFF, 0x00000000, 0x00000000, 1, 0x0, 1, 0x0, .cls 7⟩,
  -- FORME_FLASH_LEN
  ⟨0x030080, .rw, 0x00000000, 0xFFFFFFFF, 0x00000000, 0x00000000, 1, 0x0, 1, 0x0, .cls 7⟩]

/-- The FORME block (R482). -/
def regsFORME : List RegRow := regsFORME0

/-- The JOB block, part 0 (R482). -/
def regsJOB0 : List RegRow := [
  -- JOB_CTRL
  ⟨0x040000, .rw, 0x00000000, 0x00000010, 0x00000003, 0x00000000, 1, 0x0, 1, 0x0, .lead⟩,
  -- JOB_STATUS
  ⟨0x040004, .ro, 0x00000000, 0x00000000, 0x00000000, 0x00000004, 1, 0x0, 1, 0x0, .lead⟩,
  -- JOB_ORIGIN_LO, JOB_ORIGIN_HI
  ⟨0x040008, .rw, 0x00000000, 0xFFFFFFFF, 0x00000000, 0x00000000, 2, 0x4, 1, 0x0, .lead⟩,
  -- JOB_P0_LO, _HI, JOB_DRY_LINES, JOB_NEXT_B, JOB_RING_BASE, JOB_RING_SIZE
  ⟨0x040010, .ro, 0x00000000, 0x00000000, 0x00000000, 0x00000000, 1, 0x0, 20, 0x4, .free⟩,
  -- JQ_IMAGE
  ⟨0x040100, .rw, 0x00000000, 0xFFFFFFFF, 0x00000000, 0x00000000, 8, 0x20, 1, 0x0, .planeQ⟩,
  -- JQ_GUTTER
  ⟨0x040104, .rw, 0x00000000, 0x00010FFF, 0x00000000, 0x00000000, 8, 0x20, 1, 0x0, .planeQ⟩,
  -- JQ_POST
  ⟨0x040108, .w1s, 0x00000000, 0x00000001, 0x00000000, 0x00000000, 8, 0x20, 1, 0x0, .planeQ⟩,
  -- JQ_STATUS
  ⟨0x04010C, .ro, 0x40000000, 0x00000000, 0x00000000, 0x00000000, 8, 0x20, 1, 0x0, .free⟩]

/-- The JOB block (R482). -/
def regsJOB : List RegRow := regsJOB0

/-- The CMP block, part 0 (R482). -/
def regsCMP0 : List RegRow := [
  -- CMP_CTRL
  ⟨0x050000, .rw, 0x00000000, 0x00000070, 0x00000001, 0x00000000, 8, 0x40, 1, 0x0, .slot⟩,
  -- CMP_DEST, CMP_LIMIT, CMP_LINES
  ⟨0x050004, .rw, 0x00000000, 0xFFFFFFFF, 0x00000000, 0x00000000, 8, 0x40, 3, 0x4, .slot⟩,
  -- CMP_STATUS, _END, _NOSHRINK, _VFAIL
  ⟨0x050010, .ro, 0x00000000, 0x00000000, 0x00000000, 0x00000000, 8, 0x40, 4, 0x4, .free⟩]

/-- The CMP block (R482). -/
def regsCMP : List RegRow := regsCMP0

/-- The SCR block, part 0 (R482). -/
def regsSCR0 : List RegRow := [
  -- SCR_MODE_NOW
  ⟨0x060000, .ro, 0x00000000, 0x00000000, 0x00000000, 0x00000000, 1, 0x0, 1, 0x0, .free⟩,
  -- SCR_PEEK_ADDR
  ⟨0x060008, .rw, 0x00000000, 0x001FFFFF, 0x00000000, 0x00000000, 1, 0x0, 1, 0x0, .cls 7⟩,
  -- SCR_PEEK_DATA
  ⟨0x06000C, .ro, 0x00000000, 0x00000000, 0x00000000, 0x00000000, 1, 0x0, 1, 0x0, .free⟩,
  -- SCR_BIND
  ⟨0x060100, .ro, 0xFFFFFF00, 0x00000000, 0x00000000, 0x00000000, 8, 0x20, 1, 0x0, .free⟩,
  -- SCR_SEED ... SCR_SEAM
  ⟨0x060104, .ro, 0x00000000, 0x00000000, 0x00000000, 0x00000000, 8, 0x20, 7, 0x4, .free⟩]

/-- The SCR block (R482). -/
def regsSCR : List RegRow := regsSCR0

/-- The NZ block, part 0 (R482). -/
def regsNZ0 : List RegRow := [
  -- NZ_HREC_LO, NZ_HREC_HI
  ⟨0x070000, .wo, 0x00000000, 0xFFFFFFFF, 0x00000000, 0x00000000, 2, 0x4, 1, 0x0, .cls 11⟩,
  -- NZ_HCTRL
  ⟨0x070008, .rw, 0x00000000, 0xFFFF0004, 0x00000003, 0x00000000, 1, 0x0, 1, 0x0, .cls 11⟩,
  -- NZ_HAT
  ⟨0x07000C, .rw, 0x00000000, 0xFFFFFFFF, 0x00000000, 0x00000000, 1, 0x0, 1, 0x0, .cls 11⟩,
  -- NZ_HSTATUS, NZ_BSEAM
  ⟨0x070010, .ro, 0x00000000, 0x00000000, 0x00000000, 0x00000000, 1, 0x0, 2, 0x4, .free⟩,
  -- NZ_STAGE_FREE
  ⟨0x070018, .ro, 0x00020000, 0x00000000, 0x00000000, 0x00000000, 1, 0x0, 1, 0x0, .free⟩,
  -- NZ_INFLIGHT
  ⟨0x07001C, .ro, 0x00000000, 0x00000000, 0x00000000, 0x00000000, 1, 0x0, 1, 0x0, .free⟩,
  -- NZ_LEDGER_CTRL
  ⟨0x070020, .rw, 0x00000000, 0x00000000, 0x00000001, 0x00000000, 1, 0x0, 1, 0x0, .ledger⟩,
  -- NZ_LEDGER_STATUS, NZ_LEDGER_SEQ
  ⟨0x070024, .ro, 0x00000000, 0x00000000, 0x00000000, 0x00000000, 1, 0x0, 2, 0x4, .free⟩,
  -- NZ_SUBDROP
  ⟨0x070040, .ro, 0x00000000, 0x00000000, 0x00000000, 0x00000000, 1, 0x0, 8, 0x4, .free⟩,
  -- NZ_DEAD
  ⟨0x070080, .ro, 0x00000000, 0x00000000, 0x00000000, 0x00000000, 1, 0x0, 16, 0x4, .free⟩,
  -- NZ_NEWHEAD
  ⟨0x070100, .w1c, 0x00000000, 0xFFFFFFFF, 0x00000000, 0x00000000, 8, 0x4, 1, 0x0, .cls 11⟩,
  -- NZ_PAT_CTRL
  ⟨0x070400, .rw, 0x00000000, 0x000007FE, 0x00000001, 0x00000000, 32, 0x20, 1, 0x0, .pat⟩,
  -- NZ_PAT_LINE
  ⟨0x070404, .rw, 0x00000000, 0xFFFFFFFF, 0x00000000, 0x00000000, 32, 0x20, 1, 0x0, .pat⟩,
  -- NZ_PAT_SHAPE
  ⟨0x070408, .rw, 0x00000000, 0x003FFFFF, 0x00000000, 0x00000000, 32, 0x20, 1, 0x0, .pat⟩,
  -- NZ_PAT_X0, NZ_PAT_X1
  ⟨0x07040C, .rw, 0x00000000, 0x0001FFFF, 0x00000000, 0x00000000, 32, 0x20, 2, 0x4, .pat⟩,
  -- NZ_PAT_DENS
  ⟨0x070414, .rw, 0x00000000, 0x00000FFF, 0x00000000, 0x00000000, 32, 0x20, 1, 0x0, .pat⟩,
  -- NZ_PAT_STATUS
  ⟨0x070418, .ro, 0x00000000, 0x00000000, 0x00000000, 0x00000000, 32, 0x20, 1, 0x0, .free⟩,
  -- NZ_HSCALE h
  ⟨0x071000, .ro, 0x00000000, 0x00000000, 0x00000000, 0x00000000, 1, 0x0, 256, 0x4, .free⟩]

/-- The NZ block (R482). -/
def regsNZ : List RegRow := regsNZ0

/-- The ENC block, part 0 (R482). -/
def regsENC0 : List RegRow := [
  -- ENC_CFG
  ⟨0x080000, .rw, 0x20040280, 0xFFFFFFC7, 0x00000000, 0x00000000, 1, 0x0, 1, 0x0, .cls 7⟩,
  -- ENC_SNAP_CTRL
  ⟨0x080020, .w1s, 0x00000000, 0x00000001, 0x00000000, 0x00000000, 1, 0x0, 1, 0x0, .free⟩,
  -- ENC_SNAP_STATUS and ten snapshot words
  ⟨0x080024, .ro, 0x00000000, 0x00000000, 0x00000000, 0x00000000, 1, 0x0, 11, 0x4, .free⟩,
  -- ENC0_STATUS, ENC1_STATUS
  ⟨0x080050, .ro, 0x00000010, 0x00000000, 0x00000000, 0x00000000, 1, 0x0, 2, 0x4, .free⟩,
  -- ENC0_ILLEGAL ... ENC_ANCHOR_PEND
  ⟨0x080058, .ro, 0x00000000, 0x00000000, 0x00000000, 0x00000000, 1, 0x0, 5, 0x4, .free⟩,
  -- ENC_STRETCH_SPAN
  ⟨0x080070, .rw, 0x00000010, 0x0000001F, 0x00000000, 0x00000000, 1, 0x0, 1, 0x0, .cls 11⟩,
  -- ENC_STRETCH_REF
  ⟨0x080074, .rw, 0x01000000, 0xFFFFFFFF, 0x00000000, 0x00000000, 1, 0x0, 1, 0x0, .cls 11⟩,
  -- ENC_STRETCH_STATUS, ENC_STRETCH_RATIO
  ⟨0x080078, .ro, 0x00000000, 0x00000000, 0x00000000, 0x00000000, 1, 0x0, 2, 0x4, .free⟩]

/-- The ENC block (R482). -/
def regsENC : List RegRow := regsENC0

/-- The FIR block, part 0 (R482). -/
def regsFIR0 : List RegRow := [
  -- FIR_CFG
  ⟨0x090000, .rw, 0x00000808, 0x0000FF1F, 0x00000000, 0x00000000, 1, 0x0, 1, 0x0, .cls 11⟩,
  -- FIR_STATUS
  ⟨0x090004, .ro, 0x00000001, 0x00000000, 0x00000000, 0x00000000, 1, 0x0, 1, 0x0, .free⟩,
  -- FIR_GAIN
  ⟨0x090008, .ro, 0x40000000, 0x00000000, 0x00000000, 0x00000000, 1, 0x0, 1, 0x0, .free⟩,
  -- FIR_ANCHOR
  ⟨0x09000C, .ro, 0x00000000, 0x00000000, 0x00000000, 0x00000000, 1, 0x0, 1, 0x0, .free⟩,
  -- FIR_SNAP_CTRL
  ⟨0x090010, .w1s, 0x00000000, 0x00000001, 0x00000000, 0x00000000, 1, 0x0, 1, 0x0, .free⟩,
  -- FIR_SNAP_STATUS and six snapshot words
  ⟨0x090014, .ro, 0x00000000, 0x00000000, 0x00000000, 0x00000000, 1, 0x0, 7, 0x4, .free⟩,
  -- FIR_BREC_LO, FIR_BREC_HI
  ⟨0x090040, .wo, 0x00000000, 0xFFFFFFFF, 0x00000000, 0x00000000, 2, 0x4, 1, 0x0, .cls 11⟩,
  -- FIR_BCTRL
  ⟨0x090048, .rw, 0x00000000, 0xFFFF0004, 0x00000003, 0x00000000, 1, 0x0, 1, 0x0, .cls 11⟩,
  -- FIR_BAT
  ⟨0x09004C, .rw, 0x00000000, 0xFFFFFFFF, 0x00000000, 0x00000000, 1, 0x0, 1, 0x0, .cls 11⟩,
  -- FIR_BSTATUS, FIR_BSEAM
  ⟨0x090050, .ro, 0x00000000, 0x00000000, 0x00000000, 0x00000000, 1, 0x0, 2, 0x4, .free⟩,
  -- FIR_STAGE_FREE
  ⟨0x090058, .ro, 0x00002000, 0x00000000, 0x00000000, 0x00000000, 1, 0x0, 1, 0x0, .free⟩,
  -- FIR_INFLIGHT
  ⟨0x09005C, .ro, 0x00000000, 0x00000000, 0x00000000, 0x00000000, 1, 0x0, 1, 0x0, .free⟩,
  -- FIR_ROW_TGT r, _NOW r, _LATE r, _LINE r
  ⟨0x090100, .ro, 0x00000000, 0x00000000, 0x00000000, 0x00000000, 16, 0x10, 4, 0x4, .free⟩,
  -- FIR_LINK_LAT k
  ⟨0x090200, .ro, 0x00000000, 0x00000000, 0x00000000, 0x00000000, 1, 0x0, 32, 0x4, .free⟩,
  -- FIR_LINK_DEPTH k
  ⟨0x090280, .ro, 0x00000000, 0x00000000, 0x00000000, 0x00000000, 1, 0x0, 32, 0x4, .free⟩,
  -- FIR_HTRIM h
  ⟨0x091000, .ro, 0x00000000, 0x00000000, 0x00000000, 0x00000000, 1, 0x0, 256, 0x4, .free⟩,
  -- PC_CTRL
  ⟨0x092000, .rw, 0x00000000, 0x000001F8, 0x00000003, 0x00000000, 32, 0x40, 1, 0x0, .cls 1⟩,
  -- PC_TGT_LO, PC_TGT_HI, PC_PERIOD
  ⟨0x092004, .rw, 0x00000000, 0xFFFFFFFF, 0x00000000, 0x00000000, 32, 0x40, 3, 0x4, .cls 1⟩,
  -- PC_PULSE
  ⟨0x092010, .rw, 0x00000001, 0xFFFFFFFF, 0x00000000, 0x00000000, 32, 0x40, 1, 0x0, .cls 1⟩,
  -- PC_STATUS ... PC_SKIP
  ⟨0x092014, .ro, 0x00000000, 0x00000000, 0x00000000, 0x00000000, 32, 0x40, 7, 0x4, .free⟩]

/-- The FIR block (R482). -/
def regsFIR : List RegRow := regsFIR0

/-- The BL block, part 0 (R482). -/
def regsBL0 : List RegRow := [
  -- BL_CTRL
  ⟨0x0A0000, .rw, 0x00000004, 0x00000004, 0x00000003, 0x00000000, 32, 0x100, 1, 0x0, .cls 7⟩,
  -- BL_STATUS ... BL_FIRESETS
  ⟨0x0A0004, .ro, 0x00000000, 0x00000000, 0x00000000, 0x00000000, 32, 0x100, 14, 0x4, .free⟩,
  -- BL_HEADID_LO p, _HI p
  ⟨0x0A0040, .ro, 0x00000000, 0x00000000, 0x00000000, 0x00000000, 32, 0x100, 16, 0x4, .free⟩,
  -- BL_HK p
  ⟨0x0A0080, .ro, 0x00000000, 0x00000000, 0x00000000, 0x00000000, 32, 0x100, 8, 0x4, .free⟩]

/-- The BL block (R482). -/
def regsBL : List RegRow := regsBL0

/-- The CAM block, part 0 (R482). -/
def regsCAM0 : List RegRow := [
  -- CAM_STATUS
  ⟨0x0B0000, .ro, 0x00000000, 0x00000000, 0x00000000, 0x00000000, 8, 0x400, 1, 0x0, .free⟩,
  -- CAM_TRIG_WIN
  ⟨0x0B0004, .rw, 0x00002710, 0x0000FFFF, 0x00000000, 0x00000000, 8, 0x400, 1, 0x0, .cls 5⟩,
  -- CAM_ECC_CORR ... CAM_EXPORT_DROP
  ⟨0x0B0008, .ro, 0x00000000, 0x00000000, 0x00000000, 0x00000000, 8, 0x400, 7, 0x4, .free⟩,
  -- CAM_CCI_CFG
  ⟨0x0B0024, .rw, 0x00000A00, 0x0000FF03, 0x00000000, 0x00000000, 8, 0x400, 1, 0x0, .cls 5⟩,
  -- CAM_CCI_CMD
  ⟨0x0B0028, .rw, 0x00000000, 0xFFFF07FF, 0x00000000, 0x00000000, 8, 0x400, 1, 0x0, .cls 5⟩,
  -- CAM_CCI_WDATA
  ⟨0x0B002C, .rw, 0x00000000, 0xFFFFFFFF, 0x00000000, 0x00000000, 8, 0x400, 1, 0x0, .cls 5⟩,
  -- CAM_CCI_RDATA
  ⟨0x0B0030, .rc, 0x80000000, 0x00000000, 0x00000000, 0x00000000, 8, 0x400, 1, 0x0, .cls 5⟩,
  -- CAM_CCI_STATUS
  ⟨0x0B0034, .ro, 0x00000000, 0x00000000, 0x00000000, 0x00000000, 8, 0x400, 1, 0x0, .free⟩,
  -- CAM_CH_CFG v
  ⟨0x0B0100, .rw, 0x00000000, 0x00000001, 0x00000000, 0x00000000, 8, 0x400, 16, 0x10, .cls 5⟩,
  -- CAM_CH_LAST v
  ⟨0x0B0104, .ro, 0x00000000, 0x00000000, 0x00000000, 0x00000000, 8, 0x400, 16, 0x10, .free⟩,
  -- CAM_CH_FRAME v
  ⟨0x0B0108, .ro, 0x00000000, 0x00000000, 0x00000000, 0x00000000, 8, 0x400, 16, 0x10, .free⟩,
  -- CAM_CH_DAMAGED v
  ⟨0x0B010C, .ro, 0x00000000, 0x00000000, 0x00000000, 0x00000000, 8, 0x400, 16, 0x10, .free⟩]

/-- The CAM block (R482). -/
def regsCAM : List RegRow := regsCAM0

/-- The ISP block, part 0 (R482). -/
def regsISP0 : List RegRow := [
  -- ISP_CFG
  ⟨0x0C0000, .rw, 0x00002000, 0x0000FFFF, 0x00000000, 0x00000000, 8, 0x1000, 2, 0x400, .cls 5⟩,
  -- ISP_BLACK_RG
  ⟨0x0C0004, .rw, 0x00000000, 0xFFFFFFFF, 0x00000000, 0x00000000, 8, 0x1000, 2, 0x400, .cls 5⟩,
  -- ISP_BLACK_BX
  ⟨0x0C0008, .rw, 0x00000000, 0xFFFFFFFF, 0x00000000, 0x00000000, 8, 0x1000, 2, 0x400, .cls 5⟩,
  -- ISP_GAIN_RG
  ⟨0x0C000C, .rw, 0x10001000, 0xFFFFFFFF, 0x00000000, 0x00000000, 8, 0x1000, 2, 0x400, .cls 5⟩,
  -- ISP_GAIN_BX
  ⟨0x0C0010, .rw, 0x10001000, 0xFFFFFFFF, 0x00000000, 0x00000000, 8, 0x1000, 2, 0x400, .cls 5⟩,
  -- ISP_HDR
  ⟨0x0C0014, .rw, 0x0000F000, 0x000FFFFF, 0x00000000, 0x00000000, 8, 0x1000, 2, 0x400, .cls 5⟩,
  -- ISP_RATIO1
  ⟨0x0C0018, .rw, 0x00000100, 0x0000FFFF, 0x00000000, 0x00000000, 8, 0x1000, 2, 0x400, .cls 5⟩,
  -- ISP_RATIO2
  ⟨0x0C001C, .rw, 0x00000100, 0x0000FFFF, 0x00000000, 0x00000000, 8, 0x1000, 2, 0x400, .cls 5⟩,
  -- ISP_RATIO3
  ⟨0x0C0020, .rw, 0x00000100, 0x0000FFFF, 0x00000000, 0x00000000, 8, 0x1000, 2, 0x400, .cls 5⟩,
  -- ISP_DPC
  ⟨0x0C0024, .rw, 0x00001000, 0x0000FFFF, 0x00000000, 0x00000000, 8, 0x1000, 2, 0x400, .cls 5⟩,
  -- ISP_FILL
  ⟨0x0C0028, .rw, 0x00000000, 0x0000FFFF, 0x00000000, 0x00000000, 8, 0x1000, 2, 0x400, .cls 5⟩,
  -- ISP_LUT_CTRL
  ⟨0x0C0030, .w1s, 0x00000000, 0x00000001, 0x00000000, 0x00000000, 8, 0x1000, 2, 0x400, .cls 5⟩,
  -- ISP_LUT_ADDR
  ⟨0x0C0034, .rw, 0x00000000, 0x00001FFF, 0x00000000, 0x00000000, 8, 0x1000, 2, 0x400, .cls 5⟩,
  -- ISP_LUT_D01
  ⟨0x0C0038, .wo, 0x00000000, 0xFFFFFFFF, 0x00000000, 0x00000000, 8, 0x1000, 2, 0x400, .cls 5⟩,
  -- ISP_LUT_D2
  ⟨0x0C003C, .wo, 0x00000000, 0x0000FFFF, 0x00000000, 0x00000000, 8, 0x1000, 2, 0x400, .cls 5⟩,
  -- ISP_LIN0
  ⟨0x0C0040, .rw, 0x04000000, 0xFFFFFFFF, 0x00000000, 0x00000000, 8, 0x1000, 2, 0x400, .cls 5⟩,
  -- ISP_LIN1
  ⟨0x0C0044, .rw, 0x0C000800, 0xFFFFFFFF, 0x00000000, 0x00000000, 8, 0x1000, 2, 0x400, .cls 5⟩,
  -- ISP_LIN2
  ⟨0x0C0048, .rw, 0x14001000, 0xFFFFFFFF, 0x00000000, 0x00000000, 8, 0x1000, 2, 0x400, .cls 5⟩,
  -- ISP_LIN3
  ⟨0x0C004C, .rw, 0x1C001800, 0xFFFFFFFF, 0x00000000, 0x00000000, 8, 0x1000, 2, 0x400, .cls 5⟩,
  -- ISP_LIN4
  ⟨0x0C0050, .rw, 0x24002000, 0xFFFFFFFF, 0x00000000, 0x00000000, 8, 0x1000, 2, 0x400, .cls 5⟩]

/-- The ISP block, part 1 (R482). -/
def regsISP1 : List RegRow := [
  -- ISP_LIN5
  ⟨0x0C0054, .rw, 0x2C002800, 0xFFFFFFFF, 0x00000000, 0x00000000, 8, 0x1000, 2, 0x400, .cls 5⟩,
  -- ISP_LIN6
  ⟨0x0C0058, .rw, 0x34003000, 0xFFFFFFFF, 0x00000000, 0x00000000, 8, 0x1000, 2, 0x400, .cls 5⟩,
  -- ISP_LIN7
  ⟨0x0C005C, .rw, 0x3C003800, 0xFFFFFFFF, 0x00000000, 0x00000000, 8, 0x1000, 2, 0x400, .cls 5⟩,
  -- ISP_LIN8
  ⟨0x0C0060, .rw, 0x44004000, 0xFFFFFFFF, 0x00000000, 0x00000000, 8, 0x1000, 2, 0x400, .cls 5⟩,
  -- ISP_LIN9
  ⟨0x0C0064, .rw, 0x4C004800, 0xFFFFFFFF, 0x00000000, 0x00000000, 8, 0x1000, 2, 0x400, .cls 5⟩,
  -- ISP_LIN10
  ⟨0x0C0068, .rw, 0x54005000, 0xFFFFFFFF, 0x00000000, 0x00000000, 8, 0x1000, 2, 0x400, .cls 5⟩,
  -- ISP_LIN11
  ⟨0x0C006C, .rw, 0x5C005800, 0xFFFFFFFF, 0x00000000, 0x00000000, 8, 0x1000, 2, 0x400, .cls 5⟩,
  -- ISP_LIN12
  ⟨0x0C0070, .rw, 0x64006000, 0xFFFFFFFF, 0x00000000, 0x00000000, 8, 0x1000, 2, 0x400, .cls 5⟩,
  -- ISP_LIN13
  ⟨0x0C0074, .rw, 0x6C006800, 0xFFFFFFFF, 0x00000000, 0x00000000, 8, 0x1000, 2, 0x400, .cls 5⟩,
  -- ISP_LIN14
  ⟨0x0C0078, .rw, 0x74007000, 0xFFFFFFFF, 0x00000000, 0x00000000, 8, 0x1000, 2, 0x400, .cls 5⟩,
  -- ISP_LIN15
  ⟨0x0C007C, .rw, 0x7C007800, 0xFFFFFFFF, 0x00000000, 0x00000000, 8, 0x1000, 2, 0x400, .cls 5⟩,
  -- ISP_LIN16
  ⟨0x0C0080, .rw, 0x84008000, 0xFFFFFFFF, 0x00000000, 0x00000000, 8, 0x1000, 2, 0x400, .cls 5⟩,
  -- ISP_LIN17
  ⟨0x0C0084, .rw, 0x8C008800, 0xFFFFFFFF, 0x00000000, 0x00000000, 8, 0x1000, 2, 0x400, .cls 5⟩,
  -- ISP_LIN18
  ⟨0x0C0088, .rw, 0x94009000, 0xFFFFFFFF, 0x00000000, 0x00000000, 8, 0x1000, 2, 0x400, .cls 5⟩,
  -- ISP_LIN19
  ⟨0x0C008C, .rw, 0x9C009800, 0xFFFFFFFF, 0x00000000, 0x00000000, 8, 0x1000, 2, 0x400, .cls 5⟩,
  -- ISP_LIN20
  ⟨0x0C0090, .rw, 0xA400A000, 0xFFFFFFFF, 0x00000000, 0x00000000, 8, 0x1000, 2, 0x400, .cls 5⟩,
  -- ISP_LIN21
  ⟨0x0C0094, .rw, 0xAC00A800, 0xFFFFFFFF, 0x00000000, 0x00000000, 8, 0x1000, 2, 0x400, .cls 5⟩,
  -- ISP_LIN22
  ⟨0x0C0098, .rw, 0xB400B000, 0xFFFFFFFF, 0x00000000, 0x00000000, 8, 0x1000, 2, 0x400, .cls 5⟩,
  -- ISP_LIN23
  ⟨0x0C009C, .rw, 0xBC00B800, 0xFFFFFFFF, 0x00000000, 0x00000000, 8, 0x1000, 2, 0x400, .cls 5⟩,
  -- ISP_LIN24
  ⟨0x0C00A0, .rw, 0xC400C000, 0xFFFFFFFF, 0x00000000, 0x00000000, 8, 0x1000, 2, 0x400, .cls 5⟩]

/-- The ISP block, part 2 (R482). -/
def regsISP2 : List RegRow := [
  -- ISP_LIN25
  ⟨0x0C00A4, .rw, 0xCC00C800, 0xFFFFFFFF, 0x00000000, 0x00000000, 8, 0x1000, 2, 0x400, .cls 5⟩,
  -- ISP_LIN26
  ⟨0x0C00A8, .rw, 0xD400D000, 0xFFFFFFFF, 0x00000000, 0x00000000, 8, 0x1000, 2, 0x400, .cls 5⟩,
  -- ISP_LIN27
  ⟨0x0C00AC, .rw, 0xDC00D800, 0xFFFFFFFF, 0x00000000, 0x00000000, 8, 0x1000, 2, 0x400, .cls 5⟩,
  -- ISP_LIN28
  ⟨0x0C00B0, .rw, 0xE400E000, 0xFFFFFFFF, 0x00000000, 0x00000000, 8, 0x1000, 2, 0x400, .cls 5⟩,
  -- ISP_LIN29
  ⟨0x0C00B4, .rw, 0xEC00E800, 0xFFFFFFFF, 0x00000000, 0x00000000, 8, 0x1000, 2, 0x400, .cls 5⟩,
  -- ISP_LIN30
  ⟨0x0C00B8, .rw, 0xF400F000, 0xFFFFFFFF, 0x00000000, 0x00000000, 8, 0x1000, 2, 0x400, .cls 5⟩,
  -- ISP_LIN31
  ⟨0x0C00BC, .rw, 0xFC00F800, 0xFFFFFFFF, 0x00000000, 0x00000000, 8, 0x1000, 2, 0x400, .cls 5⟩,
  -- ISP_LIN32
  ⟨0x0C00C0, .rw, 0x0000FFFF, 0x0000FFFF, 0x00000000, 0x00000000, 8, 0x1000, 2, 0x400, .cls 5⟩,
  -- ISP_MAT0
  ⟨0x0C0100, .rw, 0x00001000, 0x0000FFFF, 0x00000000, 0x00000000, 8, 0x1000, 2, 0x400, .cls 5⟩,
  -- ISP_MAT1
  ⟨0x0C0104, .rw, 0x00000000, 0x0000FFFF, 0x00000000, 0x00000000, 8, 0x1000, 2, 0x400, .cls 5⟩,
  -- ISP_MAT2
  ⟨0x0C0108, .rw, 0x00000000, 0x0000FFFF, 0x00000000, 0x00000000, 8, 0x1000, 2, 0x400, .cls 5⟩,
  -- ISP_MAT3
  ⟨0x0C010C, .rw, 0x00000000, 0x0000FFFF, 0x00000000, 0x00000000, 8, 0x1000, 2, 0x400, .cls 5⟩,
  -- ISP_MAT4
  ⟨0x0C0110, .rw, 0x00000000, 0x0000FFFF, 0x00000000, 0x00000000, 8, 0x1000, 2, 0x400, .cls 5⟩,
  -- ISP_MAT5
  ⟨0x0C0114, .rw, 0x00001000, 0x0000FFFF, 0x00000000, 0x00000000, 8, 0x1000, 2, 0x400, .cls 5⟩,
  -- ISP_MAT6
  ⟨0x0C0118, .rw, 0x00000000, 0x0000FFFF, 0x00000000, 0x00000000, 8, 0x1000, 2, 0x400, .cls 5⟩,
  -- ISP_MAT7
  ⟨0x0C011C, .rw, 0x00000000, 0x0000FFFF, 0x00000000, 0x00000000, 8, 0x1000, 2, 0x400, .cls 5⟩,
  -- ISP_MAT8
  ⟨0x0C0120, .rw, 0x00000000, 0x0000FFFF, 0x00000000, 0x00000000, 8, 0x1000, 2, 0x400, .cls 5⟩,
  -- ISP_MAT9
  ⟨0x0C0124, .rw, 0x00000000, 0x0000FFFF, 0x00000000, 0x00000000, 8, 0x1000, 2, 0x400, .cls 5⟩,
  -- ISP_MAT10
  ⟨0x0C0128, .rw, 0x00001000, 0x0000FFFF, 0x00000000, 0x00000000, 8, 0x1000, 2, 0x400, .cls 5⟩,
  -- ISP_MAT11
  ⟨0x0C012C, .rw, 0x00000000, 0x0000FFFF, 0x00000000, 0x00000000, 8, 0x1000, 2, 0x400, .cls 5⟩]

/-- The ISP block, part 3 (R482). -/
def regsISP3 : List RegRow := [
  -- WIN_CTRL w
  ⟨0x0C0800, .rw, 0x00000000, 0x000007FF, 0x00000000, 0x00000000, 8, 0x1000, 32, 0x20, .cls 5⟩,
  -- WIN_X w
  ⟨0x0C0804, .rw, 0x00000000, 0x1FFF1FFF, 0x00000000, 0x00000000, 8, 0x1000, 32, 0x20, .cls 5⟩,
  -- WIN_Y w
  ⟨0x0C0808, .rw, 0x00000000, 0xFFFFFFFF, 0x00000000, 0x00000000, 8, 0x1000, 32, 0x20, .cls 5⟩,
  -- WIN_THR w
  ⟨0x0C080C, .rw, 0x00000000, 0xFFFFFFFF, 0x00000000, 0x00000000, 8, 0x1000, 32, 0x20, .cls 5⟩,
  -- WIN_REED0 w
  ⟨0x0C0810, .rw, 0x00000000, 0x1F7F3FFF, 0x00000000, 0x00000000, 8, 0x1000, 32, 0x20, .cls 5⟩,
  -- WIN_REED1 w
  ⟨0x0C0814, .rw, 0x00000000, 0x3F01FFFF, 0x00000000, 0x00000000, 8, 0x1000, 32, 0x20, .cls 5⟩,
  -- WIN_REED2 w
  ⟨0x0C0818, .rw, 0x00000000, 0x0001FFFF, 0x00000000, 0x00000000, 8, 0x1000, 32, 0x20, .cls 5⟩,
  -- WIN_REED3 w
  ⟨0x0C081C, .rw, 0x00000000, 0xFFFFFFFF, 0x00000000, 0x00000000, 8, 0x1000, 32, 0x20, .cls 5⟩,
  -- ISP_DPC_ADDR
  ⟨0x0C0C00, .rw, 0x00000000, 0x000003FF, 0x00000000, 0x00000000, 8, 0x1000, 1, 0x0, .cls 5⟩,
  -- ISP_DPC_DATA
  ⟨0x0C0C04, .rw, 0x00000000, 0x1FFFFFFF, 0x00000000, 0x00000000, 8, 0x1000, 1, 0x0, .cls 5⟩,
  -- ISP_DPC_COUNT
  ⟨0x0C0C08, .rw, 0x00000000, 0x000007FF, 0x00000000, 0x00000000, 8, 0x1000, 1, 0x0, .cls 5⟩,
  -- ISP_SHADOW, ISP_LINES
  ⟨0x0C0E00, .ro, 0x00000000, 0x00000000, 0x00000000, 0x00000000, 8, 0x1000, 2, 0x4, .free⟩]

/-- The ISP block (R482). -/
def regsISP : List RegRow := regsISP0 ++ regsISP1 ++ regsISP2 ++ regsISP3

/-- The LOOP block, part 0 (R482). -/
def regsLOOP0 : List RegRow := [
  -- LOOP_CTRL
  ⟨0x0D0000, .rw, 0x00000000, 0x0000010F, 0x00000000, 0x00000000, 1, 0x0, 1, 0x0, .cls 11⟩,
  -- LOOP_STATUS
  ⟨0x0D0004, .rw, 0x00000000, 0x0000010F, 0x00000000, 0x00000000, 1, 0x0, 1, 0x0, .cc0⟩,
  -- LOOP_DISAGREE
  ⟨0x0D0008, .ro, 0x00000000, 0x00000000, 0x00000000, 0x00000000, 1, 0x0, 1, 0x0, .free⟩,
  -- LOOP_STAGE_FREE
  ⟨0x0D000C, .ro, 0x00000100, 0x00000000, 0x00000000, 0x00000000, 1, 0x0, 1, 0x0, .free⟩,
  -- LOOP_INFLIGHT
  ⟨0x0D0010, .ro, 0x00000000, 0x00000000, 0x00000000, 0x00000000, 1, 0x0, 1, 0x0, .free⟩,
  -- LOOP_DREF_SET r
  ⟨0x0D0100, .rw, 0x00000800, 0x00000FFF, 0x00000000, 0x00000000, 16, 0x10, 1, 0x0, .cls 6⟩,
  -- LOOP_DREF_NOW r
  ⟨0x0D0104, .ro, 0x00000800, 0x00000000, 0x00000000, 0x00000000, 16, 0x10, 1, 0x0, .free⟩,
  -- LOOP_DREF_RB r, LOOP_DREF_SPILL r
  ⟨0x0D0108, .ro, 0x00000000, 0x00000000, 0x00000000, 0x00000000, 16, 0x10, 2, 0x4, .free⟩]

/-- The LOOP block (R482). -/
def regsLOOP : List RegRow := regsLOOP0

/-- The CC block, part 0 (R482). -/
def regsCC0 : List RegRow := [
  -- CC_CTRL
  ⟨0x0E0000, .rw, 0x00000000, 0x00000007, 0x00000007, 0x00000000, 8, 0x40, 1, 0x0, .ccCtrl⟩,
  -- CC_STATUS, CC_PC, CC_EPC, CC_EADDR
  ⟨0x0E0004, .ro, 0x00000000, 0x00000000, 0x00000000, 0x00000000, 8, 0x40, 4, 0x4, .free⟩,
  -- CC_MAIL_IN
  ⟨0x0E0014, .rw, 0x00000000, 0xFFFFFFFF, 0x00000000, 0x00000000, 8, 0x40, 1, 0x0, .cls 8⟩,
  -- CC_MAIL_OUT, _SEQ, CC_VERSION, CC_FAULTS
  ⟨0x0E0018, .ro, 0x00000000, 0x00000000, 0x00000000, 0x00000000, 8, 0x40, 4, 0x4, .free⟩,
  -- CC_REC_W_LO, CC_REC_W_HI
  ⟨0x0E0400, .ro, 0x00000000, 0x00000000, 0x00000000, 0x00000000, 1, 0x0, 2, 0x4, .free⟩]

/-- The CC block (R482). -/
def regsCC : List RegRow := regsCC0

/-- The PERF block, part 0 (R482). -/
def regsPERF0 : List RegRow := [
  -- PERF_CTRL
  ⟨0x0F0000, .w1s, 0x00000000, 0x00000001, 0x00000000, 0x00000000, 1, 0x0, 1, 0x0, .cls 9⟩,
  -- PERF_CHAIN0-18
  ⟨0x0F0008, .rw, 0x00000000, 0xFFFFFFFF, 0x00000000, 0x00000000, 1, 0x0, 19, 0x4, .cls 9⟩,
  -- PERF_CHAIN19
  ⟨0x0F0054, .rw, 0x00000000, 0x7FFFFFFF, 0x00000000, 0x00000000, 1, 0x0, 1, 0x0, .cls 9⟩,
  -- PERF_TALLY_CTRL
  ⟨0x0F0060, .rw, 0x00000000, 0x00000003, 0x00000004, 0x00000000, 1, 0x0, 1, 0x0, .cls 9⟩,
  -- PERF_TALLY_PERIOD
  ⟨0x0F0064, .rw, 0x000003E8, 0x0000FFFF, 0x00000000, 0x00000000, 1, 0x0, 1, 0x0, .cls 9⟩,
  -- PERF_TALLY_REGION
  ⟨0x0F0068, .rw, 0x000000FF, 0x000000FF, 0x00000000, 0x00000000, 1, 0x0, 1, 0x0, .tally⟩,
  -- PERF_TALLY_SLOTS
  ⟨0x0F006C, .rw, 0x00000001, 0x0000FFFF, 0x00000000, 0x00000000, 1, 0x0, 1, 0x0, .cls 9⟩,
  -- PERF_TALLY_STATUS, _COUNT, _MISS
  ⟨0x0F0070, .ro, 0x00000000, 0x00000000, 0x00000000, 0x00000000, 1, 0x0, 3, 0x4, .free⟩,
  -- PERF_SAMP_CTRL
  ⟨0x0F0080, .rw, 0x00000000, 0x001FFF03, 0x00000004, 0x00000000, 1, 0x0, 1, 0x0, .cls 9⟩,
  -- PERF_SAMP_PERIOD
  ⟨0x0F0084, .rw, 0x00010000, 0x00FFFFFF, 0x00000000, 0x00000000, 1, 0x0, 1, 0x0, .cls 9⟩,
  -- PERF_SAMP_WIDX
  ⟨0x0F0088, .ro, 0x00000000, 0x00000000, 0x00000000, 0x00000000, 1, 0x0, 1, 0x0, .free⟩,
  -- PERF_SAMP_SEED
  ⟨0x0F008C, .rw, 0x00000001, 0xFFFFFFFF, 0x00000000, 0x00000000, 1, 0x0, 1, 0x0, .cls 9⟩,
  -- PERF_CNT_LO n, PERF_CNT_HI n
  ⟨0x0F1000, .ro, 0x00000000, 0x00000000, 0x00000000, 0x00000000, 1, 0x0, 1280, 0x4, .free⟩,
  -- sample buffer
  ⟨0x0F8000, .ro, 0x00000000, 0x00000000, 0x00000000, 0x00000000, 1, 0x0, 8192, 0x4, .free⟩]

/-- The PERF block (R482). -/
def regsPERF : List RegRow := regsPERF0

/-- The DC block, part 0 (R482). -/
def regsDC0 : List RegRow := [
  -- DC_CTRL
  ⟨0x100000, .rw, 0x00000010, 0x00000019, 0x00000020, 0x00000000, 1, 0x0, 1, 0x0, .cls 7⟩,
  -- DC_STATUS, DC_RATE
  ⟨0x100004, .ro, 0x00000000, 0x00000000, 0x00000000, 0x00000000, 1, 0x0, 2, 0x4, .free⟩,
  -- DC_LOWRATE
  ⟨0x10000C, .rw, 0x00000020, 0x000000FF, 0x00000000, 0x00000000, 1, 0x0, 1, 0x0, .cls 7⟩,
  -- DC_TIMING
  ⟨0x100010, .rw, 0x00100064, 0x03FFFFFF, 0x00000000, 0x00000000, 1, 0x0, 1, 0x0, .cls 7⟩,
  -- DC_QOS
  ⟨0x100014, .rw, 0x00141244, 0x00FFFFFF, 0x00000000, 0x00000000, 1, 0x0, 1, 0x0, .cls 7⟩,
  -- DC_AGE
  ⟨0x100018, .rw, 0x000007D0, 0x0000FFFF, 0x00000000, 0x00000000, 1, 0x0, 1, 0x0, .cls 7⟩,
  -- DC_SCRUB
  ⟨0x10001C, .rw, 0x00000018, 0x000000FF, 0x00000000, 0x00000000, 1, 0x0, 1, 0x0, .cls 7⟩,
  -- DC_CE_THRESH
  ⟨0x100020, .rw, 0x00000010, 0x0000FFFF, 0x00000000, 0x00000000, 1, 0x0, 1, 0x0, .cls 7⟩,
  -- DC_ECC_LOG, DC_ECC_ADDR_LO, _HI
  ⟨0x100024, .ro, 0x00000000, 0x00000000, 0x00000000, 0x00000000, 1, 0x0, 3, 0x4, .free⟩,
  -- DC_CH_STATUS m, _ROUNDS m, _ABANDON m, _DEFER_MAX m
  ⟨0x100100, .ro, 0x00000000, 0x00000000, 0x00000000, 0x00000000, 2, 0x100, 4, 0x4, .free⟩]

/-- The DC block (R482). -/
def regsDC : List RegRow := regsDC0

/-- The TW block, part 0 (R482). -/
def regsTW0 : List RegRow := [
  -- TW_CTRL
  ⟨0x110000, .rw, 0x00000010, 0x00000018, 0x00000007, 0x00000000, 1, 0x0, 1, 0x0, .twCtrl⟩,
  -- TW_STATUS
  ⟨0x110004, .ro, 0x00000000, 0x00000000, 0x00000000, 0x00001000, 1, 0x0, 1, 0x0, .cls 10⟩,
  -- TW_CFG
  ⟨0x110008, .rw, 0x0BB81770, 0xFFFFFFFF, 0x00000000, 0x00000000, 1, 0x0, 1, 0x0, .cls 10⟩,
  -- TW_EPOCH ... TW_HOST_DROP
  ⟨0x11000C, .ro, 0x00000000, 0x00000000, 0x00000000, 0x00000000, 1, 0x0, 13, 0x4, .free⟩,
  -- TW_LINK_STATUS q, _LAT q, _RESENT q, _BAD q
  ⟨0x110100, .ro, 0x00000000, 0x00000000, 0x00000000, 0x00000000, 2, 0x10, 4, 0x4, .free⟩]

/-- The TW block (R482). -/
def regsTW : List RegRow := regsTW0

/-- The TK block, part 0 (R482). -/
def regsTK0 : List RegRow := [
  -- TK_CTRL
  ⟨0x120000, .rw, 0x00000A10, 0x0000FF32, 0x00000001, 0x00000000, 1, 0x0, 1, 0x0, .cls 7⟩,
  -- TK_STATUS, TK_RATE, TK_OFFSET
  ⟨0x120004, .ro, 0x00000000, 0x00000000, 0x00000000, 0x00000000, 1, 0x0, 3, 0x4, .free⟩,
  -- TK_SET_SEC_LO
  ⟨0x120010, .rw, 0x00000000, 0xFFFFFFFF, 0x00000000, 0x00000000, 1, 0x0, 1, 0x0, .cls 7⟩,
  -- TK_SET_SEC_HI
  ⟨0x120014, .rw, 0x00000000, 0x0000FFFF, 0x00000000, 0x00000000, 1, 0x0, 1, 0x0, .cls 7⟩,
  -- TK_SET_NS
  ⟨0x120018, .rw, 0x00000000, 0x3FFFFFFF, 0x00000000, 0x00000000, 1, 0x0, 1, 0x0, .cls 7⟩,
  -- TK_SNAP_CTRL
  ⟨0x120020, .w1s, 0x00000000, 0x00000001, 0x00000000, 0x00000000, 1, 0x0, 1, 0x0, .free⟩,
  -- TK_SNAP_STATUS and six snapshot words
  ⟨0x120024, .ro, 0x00000000, 0x00000000, 0x00000000, 0x00000000, 1, 0x0, 7, 0x4, .free⟩,
  -- TK_DOM_CFG d
  ⟨0x120100, .rw, 0x00030003, 0x000F0F1F, 0x00000000, 0x00000000, 2, 0x40, 1, 0x0, .cls 7⟩,
  -- TK_DOM_STATUS d ... TK_DOM_LOSSES d
  ⟨0x120104, .ro, 0x00000000, 0x00000000, 0x00000000, 0x00000000, 2, 0x40, 7, 0x4, .free⟩,
  -- TK_PORT_ASYM q, _INGRESS q, _EGRESS q
  ⟨0x120200, .rw, 0x00000000, 0xFFFFFFFF, 0x00000000, 0x00000000, 2, 0x20, 3, 0x4, .cls 7⟩,
  -- TK_PORT_RX q, _TX q, _BAD q
  ⟨0x12020C, .ro, 0x00000000, 0x00000000, 0x00000000, 0x00000000, 2, 0x20, 3, 0x4, .free⟩,
  -- TP_CTRL n
  ⟨0x120400, .rw, 0x00000000, 0x0000001C, 0x00000003, 0x00000000, 8, 0x20, 1, 0x0, .cls 2⟩,
  -- TP_START_SEC_LO n
  ⟨0x120404, .rw, 0x00000000, 0xFFFFFFFF, 0x00000000, 0x00000000, 8, 0x20, 1, 0x0, .cls 2⟩,
  -- TP_START_SEC_HI n
  ⟨0x120408, .rw, 0x00000000, 0x0000FFFF, 0x00000000, 0x00000000, 8, 0x20, 1, 0x0, .cls 2⟩,
  -- TP_START_NS n
  ⟨0x12040C, .rw, 0x00000000, 0x3FFFFFFF, 0x00000000, 0x00000000, 8, 0x20, 1, 0x0, .cls 2⟩,
  -- TP_PERIOD n
  ⟨0x120410, .rw, 0x3B9ACA00, 0xFFFFFFFF, 0x00000000, 0x00000000, 8, 0x20, 1, 0x0, .cls 2⟩,
  -- TP_WIDTH n
  ⟨0x120414, .rw, 0x000003E8, 0xFFFFFFFF, 0x00000000, 0x00000000, 8, 0x20, 1, 0x0, .cls 2⟩,
  -- TP_STATUS n, TP_COUNT n
  ⟨0x120418, .ro, 0x00000000, 0x00000000, 0x00000000, 0x00000000, 8, 0x20, 2, 0x4, .free⟩,
  -- TC_CTRL c
  ⟨0x120600, .rw, 0x00000000, 0x00000003, 0x00000000, 0x00000000, 4, 0x20, 1, 0x0, .cls 3⟩,
  -- TC_POP c
  ⟨0x120604, .rc, 0x80000000, 0x00000000, 0x00000000, 0x00000000, 4, 0x20, 1, 0x0, .cls 3⟩]

/-- The TK block, part 1 (R482). -/
def regsTK1 : List RegRow := [
  -- TC_SEC_LO c ... TC_OVF c
  ⟨0x120608, .ro, 0x00000000, 0x00000000, 0x00000000, 0x00000000, 4, 0x20, 6, 0x4, .free⟩]

/-- The TK block (R482). -/
def regsTK : List RegRow := regsTK0 ++ regsTK1

/-- The HK block, part 0 (R482). -/
def regsHK0 : List RegRow := [
  -- HK_CTRL
  ⟨0x130000, .rw, 0x00000000, 0x00000003, 0x00000000, 0x00000000, 1, 0x0, 1, 0x0, .hkCtrl⟩,
  -- HK_STATUS
  ⟨0x130004, .ro, 0x00000000, 0x00000000, 0x00000000, 0x00000000, 1, 0x0, 1, 0x0, .free⟩,
  -- HK_GOV_CFG
  ⟨0x130008, .rw, 0x00640064, 0x00FF03FF, 0x00000000, 0x00000000, 1, 0x0, 1, 0x0, .cls 7⟩,
  -- HK_VSET
  ⟨0x13000C, .ro, 0x03840320, 0x00000000, 0x00000000, 0x00000000, 1, 0x0, 1, 0x0, .free⟩,
  -- HK_THROTTLE, HK_LEAD, HK_FABRIC
  ⟨0x130010, .ro, 0x00000000, 0x00000000, 0x00000000, 0x00000000, 1, 0x0, 3, 0x4, .free⟩,
  -- HK_TJ
  ⟨0x13001C, .ro, 0x80008000, 0x00000000, 0x00000000, 0x00000000, 1, 0x0, 1, 0x0, .free⟩,
  -- HK_ROUNDS, HK_INHIBITS
  ⟨0x130020, .ro, 0x00000000, 0x00000000, 0x00000000, 0x00000000, 1, 0x0, 2, 0x4, .free⟩,
  -- HK_DIE
  ⟨0x130040, .ro, 0x00008000, 0x00000000, 0x00000000, 0x00000000, 1, 0x0, 24, 0x4, .free⟩,
  -- HK_SUPPLY
  ⟨0x1300C0, .ro, 0x00000000, 0x00000000, 0x00000000, 0x00000000, 1, 0x0, 8, 0x4, .free⟩,
  -- HK_LINK_LEAD k
  ⟨0x130100, .ro, 0x00000000, 0x00000000, 0x00000000, 0x00000000, 1, 0x0, 32, 0x4, .free⟩,
  -- HK_INHIBIT
  ⟨0x130200, .ro, 0x00000000, 0x00000000, 0x00000000, 0x00000000, 1, 0x0, 8, 0x4, .free⟩]

/-- The HK block (R482). -/
def regsHK : List RegRow := regsHK0

/-- The LANE block, part 0 (R482). -/
def regsLANE0 : List RegRow := [
  -- LANE_CTRL n
  ⟨0x140000, .rw, 0x00000030, 0x000000F3, 0x00000300, 0x00000000, 36, 0x40, 1, 0x0, .cls 7⟩,
  -- LANE_STATUS n
  ⟨0x140004, .ro, 0x00000000, 0x00000000, 0x00000000, 0x00000000, 36, 0x40, 1, 0x0, .free⟩,
  -- LANE_TXEQ n
  ⟨0x140008, .rw, 0x0004010C, 0x000F070F, 0x00000000, 0x00000000, 36, 0x40, 1, 0x0, .cls 7⟩,
  -- LANE_RXEQ n
  ⟨0x14000C, .rw, 0x00000108, 0x0000010F, 0x00000000, 0x00000000, 36, 0x40, 1, 0x0, .cls 7⟩,
  -- LANE_UPAT_LO n, _HI n
  ⟨0x140010, .rw, 0x00000000, 0xFFFFFFFF, 0x00000000, 0x00000000, 36, 0x40, 2, 0x4, .cls 7⟩,
  -- LANE_TDUR n
  ⟨0x140018, .rw, 0x00000064, 0x0000FFFF, 0x00000000, 0x00000000, 36, 0x40, 1, 0x0, .cls 7⟩,
  -- LANE_ERR n ... LANE_LOL_CNT n
  ⟨0x14001C, .ro, 0x00000000, 0x00000000, 0x00000000, 0x00000000, 36, 0x40, 6, 0x4, .free⟩,
  -- LANE_REF_STATUS
  ⟨0x140C00, .ro, 0x00000000, 0x00000000, 0x00000000, 0x00000000, 1, 0x0, 1, 0x0, .free⟩,
  -- LANE_REFO_EN
  ⟨0x140C04, .ro, 0xFFFFFFFF, 0x00000000, 0x00000000, 0x00000000, 1, 0x0, 1, 0x0, .free⟩]

/-- The LANE block (R482). -/
def regsLANE : List RegRow := regsLANE0

/-- The rows of the block an offset lies in (R475). -/
def blockRows (b : Nat) : List RegRow :=
  match b with
  | 0 => regsSYS
  | 1 => regsHOST
  | 2 => regsDMA
  | 3 => regsFORME
  | 4 => regsJOB
  | 5 => regsCMP
  | 6 => regsSCR
  | 7 => regsNZ
  | 8 => regsENC
  | 9 => regsFIR
  | 10 => regsBL
  | 11 => regsCAM
  | 12 => regsISP
  | 13 => regsLOOP
  | 14 => regsCC
  | 15 => regsPERF
  | 16 => regsDC
  | 17 => regsTW
  | 18 => regsTK
  | 19 => regsHK
  | 20 => regsLANE
  | _ => []

/-- The row of an offset, with its instance numbers; none for a reserved offset (R475). -/
def regRow (off : Nat) : Option (RegRow × Nat × Nat) := findRow (blockRows (off / 0x10000)) off

/-- The value a register holds at reset (R482); a reserved offset reads 0. -/
def regReset (off : Nat) : Word :=
  match regRow off with
  | some (r, _, _) => r.reset
  | none => 0

/-- The HOST and DMA blocks and the snapshot and capture registers are private to each context (R176, R205, R378, R423, R424); the
shared registers of the HOST block are not. -/
def isPrivate (off : Nat) : Bool :=
  (0x010000 ≤ off && off < 0x0100C0) || (0x011000 ≤ off && off < 0x020200)
    || (0x080020 ≤ off && off < 0x080050) || (0x090010 ≤ off && off < 0x090030)
    || (0x120020 ≤ off && off < 0x120040)
    || (0x120600 ≤ off && off < 0x120680 && 8 ≤ off % 32 && off % 32 < 28)

/-- Where the register file holds a register: private registers once per context. -/
def regKey (ctx off : Nat) : Nat := if isPrivate off then (ctx + 1) * 0x1000000 + off else off

/-- What an unlisted entry of the register file reads as: its register's reset value. -/
def regDefault (key : Nat) : Word := regReset (key % 0x1000000)

end Sys2Proof.Machine
end

