-- ==== Sys2Proof/Machine/Sparse.lean ====
section
/-!
DEFINITION. The sparse store: a list of (index, value) entries with indexes strictly rising and no entry equal to
what an unlisted index reads as. Every register file, memory and table of the device is held in this one form.
-/
namespace Sys2Proof.Machine

/-- What index `k` reads as: its entry, or the default of an unlisted index. -/
def Sparse.get {α : Type} (dflt : Nat → α) : Sparse α → Nat → α
  | [], k => dflt k
  | (i, v) :: m, k => if i = k then v else Sparse.get dflt m k

/-- The entry list with index `k` dropped. -/
def Sparse.erase {α : Type} : Sparse α → Nat → Sparse α
  | [], _ => []
  | (i, v) :: m, k => if i = k then Sparse.erase m k else (i, v) :: Sparse.erase m k

/-- The entry list with index `k` holding `v`, kept in rising order. -/
def Sparse.put {α : Type} : Sparse α → Nat → α → Sparse α
  | [], k, v => [(k, v)]
  | (i, w) :: m, k, v =>
    if k < i then (k, v) :: (i, w) :: m
    else if i = k then (k, v) :: m
    else (i, w) :: Sparse.put m k v

/-- The store after index `k` is written with `v`: writing the default removes the entry. -/
def Sparse.set {α : Type} [DecidableEq α] (dflt : Nat → α) (m : Sparse α) (k : Nat) (v : α) : Sparse α :=
  if v = dflt k then Sparse.erase m k else Sparse.put m k v

/-- Every index is above `lo`, the indexes rise strictly, and no entry equals its default. -/
def Sparse.wfFrom {α : Type} [DecidableEq α] (dflt : Nat → α) : Nat → Sparse α → Bool
  | _, [] => true
  | lo, (i, v) :: m => decide (lo ≤ i) && decide (v ≠ dflt i) && Sparse.wfFrom dflt (i + 1) m

/-- The canonical form of a store. -/
def Sparse.wf {α : Type} [DecidableEq α] (dflt : Nat → α) (m : Sparse α) : Bool :=
  Sparse.wfFrom dflt 0 m

/-- Consecutive values written from index `k` up. -/
def Sparse.setList {α : Type} [DecidableEq α] (dflt : Nat → α) (m : Sparse α) (k : Nat) : List α → Sparse α
  | [] => m
  | v :: vs => Sparse.setList dflt (Sparse.set dflt m k v) (k + 1) vs

/-- `n` consecutive values from index `k` up. -/
def Sparse.getList {α : Type} (dflt : Nat → α) (m : Sparse α) (k : Nat) : Nat → List α
  | 0 => []
  | n + 1 => Sparse.get dflt m k :: Sparse.getList dflt m (k + 1) n

/-- The store with every index from `lo` to `hi - 1` back at its default. -/
def Sparse.clear {α : Type} (m : Sparse α) (lo hi : Nat) : Sparse α :=
  m.filter (fun e => !(decide (lo ≤ e.1) && decide (e.1 < hi)))

end Sys2Proof.Machine
end

