-- ==== Sys2Proof/Machine/State.lean ====
section
/-!
DEFINITION. The state of the LRT8256: every register, store, queue, buffer, counter, mode and pin the spec gives the
device, the head endpoints it drives, the queue of waiting commands, and the model's own bookkeeping (the time of the
last command, the free-value counter, the log of what left the device). Plain data throughout.
-/
namespace Sys2Proof.Machine

/-- Why the machine stops with a fault. -/
inductive Fault where
  /-- The command is, or carries, a host error: the rule named by the number calls its outcome UNPREDICTABLE under
  R2. Raised by the meaning that meets it. Safe: no claim follows from a stopped run. -/
  | hostError (rule : Nat)
  /-- The command names a unit the device does not have (a link above 31, a core above 7). Raised by any meaning with
  a unit number among its operands. Safe. -/
  | noSuchUnit
deriving DecidableEq, Repr

/-- Why the machine refuses a command. -/
inductive Refusal where
  /-- The command has no meaning yet. Raised by a refused arm of exec only. Safe. -/
  | notModelled (mnemonic : String)
deriving DecidableEq, Repr

/-! ### What leaves the device -/

/-- The contents of a twin frame (R382). -/
inductive TwinFrame where
  | hello (m : Hello)
  | beat (m : Beat)
  | ckpt (f : List Byte)
  | mirror (off : Nat) (bursts : List Byte) (poison : Bool)
  | state (x : TwinItem)
  /-- 0 request, 1 acknowledgement with its seam, 2 abort. -/
  | revert (kind : Nat) (seam : Int)
  | idig (l : List IntDigest)
  | ack (seq : Word)
  | probe
  | probeEcho
deriving DecidableEq, Repr

/-- One thing the outside sees of the device, in the order it happens. -/
inductive Out where
  /-- A write into the memory of a context's host over PCIe (R365, R371). -/
  | hostWrite (ctx addr : Nat) (bs : List Byte)
  /-- A read of host memory asked for over PCIe (R369). -/
  | hostRead (ctx addr n : Nat)
  /-- An MSI-X message (R366). -/
  | msix (ctx vec : Nat)
  /-- A datagram sent on an Ethernet port to an address and port (R359). -/
  | datagram (q : Nat) (ip : Word) (port : Nat) (bs : List Byte)
  /-- An ARP or ICMP reply (R357). -/
  | arpReply (q : Nat) (ip : Word) (mac own : Nat)
  | icmpReply (q : Nat) (ip : Word) (bs : List Byte)
  /-- A frame or ordered set sent on a bar link (R211 to R216). -/
  | barFrame (k : Nat) (bs : List Byte)
  /-- A frame or ordered set an endpoint sends on one of its ports (R224 to R233). -/
  | epFrame (k : Nat) (x : Port) (bs : List Byte)
  /-- A frame sent on a twin link: its sequence number where it is numbered, and its contents (R382). -/
  | twinFrame (q : Nat) (seq : Option Word) (f : TwinFrame)
  /-- A nozzle line fired by a head of an endpoint: head position, instant in ps, line, codes (R217, R218). -/
  | jet (k : Nat) (head : Nat) (ps : Nat) (line : Word) (codes : List Nat)
  /-- An output pin reaches a level (R202, R419, R442). -/
  | pin (name : Nat) (idx : Nat) (level : Bool)
  /-- A DREF output takes a 12-bit code; none is the high-impedance state (R283, R285). -/
  | dref (row : Nat) (code : Option Nat)
  /-- VSET is driven to a level in mV (R429). -/
  | vset (mv : Nat)
  /-- A DRAM command of a channel: 0 refresh, 1 retraining burst, 2 self-refresh entry, 3 exit, 4 set-point change. -/
  | dramCmd (m : Nat) (kind : Nat)
  /-- A CCI transfer on a camera port (R249). -/
  | cci (p : Nat) (cmd : Word) (wdata : Word)
  /-- A PTP message sent on a port: type, domain, contents (R413 to R417). -/
  | ptp (q : Nat) (kind : Nat) (dom : Nat) (seq : Nat) (sec ns : Nat) (corr : Int)
  /-- An Announce sent on a port (R417). -/
  | announce (q : Nat) (dom : Nat) (seq : Nat) (body : AnnounceBody)
  /-- The value a read answers with, where the read is a command of its own. -/
  | answer (w : Writer) (off : Nat) (v : Word)
  /-- One transmitted bit of a lane inverted (R455). -/
  | bitFlip (lane : Nat)
deriving DecidableEq, Repr

/-! ### The forme in force (chapter 02) -/

/-- GEOM (R42). -/
structure Geom where
  lpi : Nat
  seamMode : Nat
  seamLog2 : Nat
  planeMask : Nat
  xImg : Nat
  wImg : Nat
  selvL : Nat
  selvR : Nat
  maxRate : Nat
  stopMs : Nat
  gutterUse : Bool
  reanchor : Bool
deriving DecidableEq, Repr

/-- PLANE of one colour plane (R43). -/
structure PlaneCfg where
  c : Nat
  rowMode : Nat
  dropBits : Nat
  input : Nat
  codec : Nat
  region : Nat
  fallback : Nat
  preRes : Nat
deriving DecidableEq, Repr

/-- One ROW record (R44). -/
structure RowCfg where
  dR : Nat
  inUse : Bool
deriving DecidableEq, Repr

/-- One HEAD record (R45); `npi1200` is FORMAT bit 0 and `bits` its bits 2:1. -/
structure HeadCfg where
  slot : Nat
  row : Nat
  link : Nat
  port : Nat
  place : Nat
  dH : Int
  nozzles : Nat
  npi1200 : Bool
  bits : Nat
  tLow : Int
  tHigh : Int
deriving DecidableEq, Repr

/-- One LINK record (R46). -/
structure LinkCfg where
  inUse : Bool
  idleOk : Bool
  dualPort : Bool
  minBuf : Nat
  maxLat : Nat
deriving DecidableEq, Repr

/-- One DRAM region (R47): KIND 0 JOB, 1 FRAME, 2 CORE, 3 HOST, 4 MIRROR, 5 STAGE; base and size in 64 KiB units. -/
structure Region where
  id : Nat
  kind : Nat
  owner : Nat
  base : Nat
  size : Nat
deriving DecidableEq, Repr

/-- The DRAM section (R47). -/
structure DramCfg where
  chMask : Nat
  rate : Nat
  map : Nat
  capGib : Nat
  regions : List Region
deriving DecidableEq, Repr

/-- One OWN record (R48). -/
structure OwnRec where
  cls : Nat
  first : Nat
  count : Nat
  owner : Nat
deriving DecidableEq, Repr

/-- One camera channel (R49). -/
structure ChanCfg where
  port : Nat
  vc : Nat
  cls : Nat
  priv : Nat
  owner : Nat
  dt : Nat
  trig : Nat
  width : Nat
  height : Nat
  region : Nat
deriving DecidableEq, Repr

/-- The CAM section (R49). -/
structure CamCfg where
  portMask : Nat
  lanes : List Nat
  rates : List Nat
  chans : List ChanCfg
deriving DecidableEq, Repr

/-- One CORE section (R50): ROLE 0 SUPERVISOR, 1 NOZZLE, 2 DENSITY, 3 REGISTRATION, 4 OEM, 5 IDLE. -/
structure CoreCfg where
  core : Nat
  role : Nat
  entry : Nat
  code : List Byte
  data : List Byte
deriving DecidableEq, Repr

/-- The TWIN section (R51). -/
structure TwinCfg where
  twin : Bool
  rank : Nat
  force : Bool
  holdoff : Nat
deriving DecidableEq, Repr

/-- The SYSCFG section (R52). -/
structure SysCfg where
  enc0Scale : Nat
  indexPeriod : Nat
  indexTol : Nat
  enc1Use : Bool
  encoSrc : Nat
  encoDiv : Nat
  td0Domain : Nat
  td1Domain : Nat
  tstepUs : Nat
  refoSpread : Bool
deriving DecidableEq, Repr

/-- The RUN section (R53). -/
structure RunCfg where
  scrMode : List Nat
  powerMode : Nat
  ladder : Nat
  grace : Nat
  lWarn : Nat
  lAsk : Nat
  lEnforce : Nat
  hkMs : Nat
deriving DecidableEq, Repr

/-- One TONE record (R54). -/
structure ToneRec where
  head : Nat
  points : List Nat
deriving DecidableEq, Repr

/-- One SCREEN sub-block (R55): KIND 0 MATRIX, 1 WEIGHTS, 2 SEED, 3 DROPMAP. -/
structure ScreenBlk where
  kind : Nat
  index : Nat
  planeMask : Nat
  body : List Byte
deriving DecidableEq, Repr

/-- One POLICY block (R56). -/
structure PolicyBlk where
  core : Nat
  bytes : List Byte
deriving DecidableEq, Repr

/-- The live sections an image carries (R40): what a LIVE image brings, or a FULL image starts with. -/
structure LiveCfg where
  run : Option RunCfg
  tone : List ToneRec
  screen : List ScreenBlk
  policy : List PolicyBlk
deriving DecidableEq, Repr

/-- A FULL forme as loaded (R40 to R56). -/
structure Forme where
  id : Nat
  rev : Nat
  geom : Geom
  planes : List PlaneCfg
  rows : List RowCfg
  heads : List HeadCfg
  links : List LinkCfg
  dram : DramCfg
  bind : List Nat
  own : List OwnRec
  cam : Option CamCfg
  cores : List CoreCfg
  twin : TwinCfg
  sys : SysCfg
  live : LiveCfg
deriving DecidableEq, Repr

/-- A fused key slot (R37). -/
structure KeySlot where
  hash : List Byte
  programmed : Bool
  revoked : Bool
deriving DecidableEq, Repr

/-- The load in progress (R58, R60, R61): from its GO until LOAD_END. -/
structure LoadJob where
  live : Bool
  /-- 0 slot A, 1 slot B, 2 host memory, 3 the boot load over both slots (R57). -/
  src : Nat
  ctx : Nat
  addr : Nat
  len : Nat
  atLine : Bool
deriving DecidableEq, Repr

/-- The flash writer's request in progress (R66). -/
structure FlashJob where
  target : Nat
  ctx : Nat
  addr : Nat
  len : Nat
  /-- A round has found the junction outside its window (R435). -/
  halted : Bool
deriving DecidableEq, Repr

/-- What chapter 02 gives the device beside its registers. -/
structure FormeDev where
  forme : Option Forme
  /-- RUN, TONE and POLICY in force device-wide; TONE and SCREEN by row and plane stand with their users. -/
  run : Option RunCfg
  baseDigest : List Byte
  liveDigest : List Byte
  /-- The live digests before each binding, newest first (R39, R394). -/
  oldDigests : List (List Byte)
  /-- LIVE images bound or waiting, by their digests, as a twin baseline sends them (R392). -/
  images : List (List Byte × List Byte)
  /-- The live values in force or bound to come (R61). -/
  cur : LiveCfg
  /-- The boot load is still to come (R57, R466). -/
  boot : Bool
  load : Option LoadJob
  flashJob : Option FlashJob
  keys : List KeySlot
  flash : Sparse Byte
  /-- LIVE images bound or waiting and not yet applied by every row are the updates of kind FORME (R63). -/
  slot : Nat
deriving DecidableEq, Repr

/-! ### Seams (R26 to R31) -/

/-- The line an update is bound to: a plain line, or the start of repeat `k`, which dry lines may move (R28). -/
inductive SeamRef where
  | line (s : Int)
  | repStart (k : Nat) (bound : Int)
deriving DecidableEq, Repr

/-- A matrix placed in the matrix store (R102). -/
structure MatrixRec where
  index : Nat
  planeMask : Nat
  w : Nat
  h : Nat
  base : Nat
deriving DecidableEq, Repr

/-- What an update brings in. -/
inductive Payload where
  /-- A LIVE image (R62). -/
  | live (l : LiveCfg) (digest : List Byte) (mats : List MatrixRec)
  /-- A nozzle batch: index and word of each record, and head words (R136, R138). -/
  | nozzle (recs : List (Nat × Word))
  /-- A registration batch: kind-index key and value of each record (R186). -/
  | reg (recs : List (Word × Word))
  /-- A DREF batch: row and code of each record (R284). -/
  | dref (recs : List (Nat × Nat))
  /-- The rungs the ladder brings in (R117, R441). -/
  | rungs (n : Nat)
  /-- The hand-over of a reversion (R403). -/
  | handover
deriving DecidableEq, Repr

/-- A staged update: bound to a seam, or waiting for one (R28, R29). -/
structure Update where
  /-- Block code of its EV_SEAM source (R472). -/
  block : Nat
  tag : Nat
  /-- Who staged it: a context 0-3, or 0x10 + n for core n, or 0xFF for the device. -/
  by_ : Nat
  seam : Option SeamRef
  payload : Payload
  /-- Rows it affects, and those of them that have applied it. -/
  rows : List Nat
  applied : List Nat
  /-- Planes whose screening it changes, and those whose screening has passed its seam (R102, R113). -/
  planes : List Nat
  planesDone : List Nat
  /-- The rows of the whole batch group it was submitted with (R319); empty for an update of its own. -/
  group : List Nat := []
deriving DecidableEq, Repr

/-! ### Jobs, stores and swath fetch (chapter 03) -/

/-- JOB_STATUS.STATE (R87). -/
inductive Phase where
  | idle | running | draining
deriving DecidableEq, Repr

/-- One posted queue entry (R82). -/
structure QEntry where
  image : Nat
  gutter : Nat
  last : Bool
  /-- The next twin sequence number when it was posted (R393). -/
  seq : Word
deriving DecidableEq, Repr

/-- A plane's job queue: the entries of this job in order, and the counts JQ_STATUS reports (R82, R87). -/
structure JobQueue where
  entries : List QEntry
  posted : Nat
  /-- Entries retired because their last line was fired, and entries retired unprinted (R84, R86). -/
  done : Nat
  gone : Nat
deriving DecidableEq, Repr

/-- An empty queue. -/
def JobQueue.empty : JobQueue := { entries := [], posted := 0, done := 0, gone := 0 }

/-- A committed repeat: B_k, N_k and G_k, dry lines included in the gutter (R24, R83); `dry` of the gutter's last
lines are dry. -/
structure Repeat where
  b : Int
  n : Nat
  g : Nat
  dry : Nat
deriving DecidableEq, Repr

/-- The jobs of the device (R82 to R87). -/
structure JobDev where
  phase : Phase
  p0 : Int
  queues : Sparse JobQueue
  reps : List Repeat
  /-- STOP has been seen, or the repeat whose lead entry has LAST set has committed (R86). -/
  stop : Bool
  endLine : Option Int
  /-- The planned start of the repeat for which the queue has run dry (R83). -/
  dryFrom : Option Int
  dryFlag : Bool
  dryLines : Nat
  /-- The first line a row of the job prepares, and the line each row has last begun to prepare. -/
  first : Int
  prep : Sparse Int
  /-- Rows that have fired the end line, or had it fall to them late. -/
  doneRows : List Nat
deriving DecidableEq, Repr

/-- State of a store slot: the values latched at OPEN, the bytes waiting, the next strip and its place, the strip
index so far, and the saved history (R73, R79, R81). -/
structure StoreSlot where
  plane : Nat
  dest : Nat
  limit : Nat
  lines : Nat
  wc : Nat
  kind : Nat
  bits : Nat
  raw : Bool
  taken : Nat
  buf : List Byte
  strip : Nat
  off : Nat
  index : List Nat
  prev : List Byte
  window : List Byte
deriving DecidableEq, Repr

/-- A swath fetch port and its decompressor (R88 to R90): the repeat and strip they stand at, the bytes fetched and
not yet decoded, the history, the lines decoded and not yet screened. -/
structure Swath where
  rep : Nat
  strip : Nat
  held : Nat
  fetched : Nat
  panic : Bool
  /-- Since when it panics, and whether this episode has raised EV_PANIC (R342). -/
  panicAt : Nat
  panicTold : Bool
  /-- How far the time in panic has been counted (R323). -/
  panicSince : Nat
  /-- The fetched bursts that were uncorrectable (R351). -/
  badBursts : List Nat
  /-- Lines still to be decoded only to be discarded (R91, R398). -/
  skip : Nat
  prev : List Byte
  window : List Byte
  lines : List (List Byte)
deriving DecidableEq, Repr

/-- A port with nothing fetched. -/
def Swath.empty : Swath :=
  { rep := 0, strip := 0, held := 0, fetched := 0, panic := false, panicAt := 0, panicTold := false, panicSince := 0, badBursts := [], skip := 0, prev := [], window := [],
    lines := [] }

/-! ### Screening (chapter 04) -/

/-- The screening state of a plane: its resting mode, the sub-blocks in force for it, its matrices, the rungs in
force for it, its error rows, the line it screens next and the counters (R106, R113, R119). -/
structure ScrPlane where
  resting : Nat
  blks : List ScreenBlk
  mats : List MatrixRec
  rungs : Nat
  p1 : List Int
  p2 : List Int
  next : Int
  /-- The image line in the decompressor's output that substrate lines now come from, and the repeat's line it is. -/
  cur : List Byte
  curLine : Option (Nat × Nat)
  clip : Word
  esat : Word
  edrop : Word
  lines : Word
  seam : Word
  /-- Density (or codes, PRESCREENED) carried into the next line by the DUPLEX partner rule (R133, R135). -/
  carry : List (Nat × Nat)
  carryLine : Int
  /-- Screened lines the back row has not yet prepared: the delay ring (R92), each the nozzle index and code of every
  nozzle that does not fire code 0. -/
  ring : List (Int × List (Nat × Nat))
deriving DecidableEq, Repr

/-- A plane with no forme. -/
def ScrPlane.empty : ScrPlane :=
  { resting := 0, blks := [], mats := [], rungs := 0, p1 := [], p2 := [], next := 0, cur := [], curLine := none,
    clip := 0, esat := 0, edrop := 0, lines := 0, seam := 0, carry := [], carryLine := 0, ring := [] }

/-- The screening block: the matrix store with the half in force, the set in force device-wide, and the planes. -/
structure ScrDev where
  matrix : Sparse (BitVec 16)
  upper : Bool
  set : List MatrixRec
  planes : Sparse ScrPlane
deriving DecidableEq, Repr

/-! ### Nozzle compensation (chapter 05) -/

/-- A ledger save in progress (R151): the copy it writes, and whether a batch was applied meanwhile. -/
structure SaveJob where
  copyB : Bool
  stale : Bool
  halted : Bool
deriving DecidableEq, Repr

/-- Nozzle compensation: the table and head words in force (by row, R136), the host batch buffer (R139), the identity
each endpoint reported, the ledger in use and its save, and the tone curves in force by head. -/
structure NzDev where
  table : Sparse Word
  heads : Sparse Word
  hbuf : List (Word × Word)
  hbufOvf : Bool
  ids : Sparse Nat
  tone : Sparse (List Nat)
  copy : Nat
  save : Option SaveJob
  saveWait : Bool
deriving DecidableEq, Repr

/-! ### The web encoders (chapter 06) -/

/-- One encoder: filtered levels, count, the last two counts, the speed window and the wire watch (R156 to R163);
stamps are instants in ps. -/
structure EncSide where
  a : Bool
  b : Bool
  z : Bool
  k : Int
  lastT : Nat
  prevT : Nat
  lastSign : Int
  prevSign : Int
  winStart : Nat
  winLen : Nat
  winN : Nat
  winFirst : Nat
  winSign : Int
  winMixed : Bool
  quiet : Nat
  speed : Int
  disA : Option Nat
  disB : Option Nat
  disZ : Option Nat
  illegal : Word
  illegalRound : Nat
deriving DecidableEq, Repr

/-- An encoder at rest at count 0. -/
def EncSide.zero : EncSide :=
  { a := false, b := false, z := false, k := 0, lastT := 0, prevT := 0, lastSign := 0, prevSign := 0, winStart := 0,
    winLen := 10, winN := 0, winFirst := 0, winSign := 0, winMixed := false, quiet := 0, speed := 0, disA := none,
    disB := none, disZ := none, illegal := 0, illegalRound := 0 }

/-- A stretch span in progress (R170, R171): where K_0 and ENC1's interpolated count (in 1/65,536) stood at its
start. -/
structure Span where
  k0 : Int
  k1 : Int
  log2 : Nat
deriving DecidableEq, Repr

/-- The encoder block (R157 to R175). -/
structure EncDev where
  e0 : EncSide
  e1 : EncSide
  kmax : Int
  kb : Int
  armed : Bool
  /-- The 16-bit fraction carried while ENC1 drives K_0 (R160). -/
  fbFrac : Nat
  fallback : Bool
  span : Option Span
  encoA : Bool
  encoB : Bool
  encoGather : Int
  encoSrc : Nat
  encoDiv : Nat
deriving DecidableEq, Repr

/-! ### Line synthesis and firing (chapter 07) -/

/-- A line in a head's lead buffer (R194, R195): its substrate line, fire position, codes once screened, whether they
are fallback indices (R98), whether its LINE frame has been sent, and whether an SRAM error spoilt it (R469). -/
structure PrepLine where
  s : Int
  f : Int
  codes : Option (List Nat)
  fb : Bool
  sent : Bool
  ue : Bool
deriving DecidableEq, Repr

/-- A committed FIRE (R190, R191): its line, fire position, the block that carries it counted in 6.4 ns, its offset in
100 ps, the fire instant in ps, its blank flag, and the payload its line was sent with. -/
structure Committed where
  s : Int
  f : Int
  block : Nat
  off : Nat
  fireAt : Nat
  blank : Bool
  payload : List Byte
deriving DecidableEq, Repr

/-- The firing state of a head (R182 to R196). -/
structure HeadFire where
  tgt : Int
  e : Int
  x : Int
  lines : List PrepLine
  /-- F and fire instant in ps of the last committed FIRE that fires or blanks a line, and the last line committed and
  the last line whose FIRE has been sent. -/
  last : Option (Int × Nat)
  commit : Option Committed
  done : Int
  fired : Int
deriving DecidableEq, Repr

/-- A head with no line. -/
def HeadFire.zero : HeadFire :=
  { tgt := 0, e := 0, x := 0, lines := [], last := none, commit := none, done := 0, fired := 0 }

/-- A run of late lines (R197): its first line with the fire position of the lowest-numbered late head, its cause, its
length, and its last line so far. -/
structure LateRun where
  f : Int
  s : Int
  cause : Nat
  n : Nat
  head : Nat
  last : Int
deriving DecidableEq, Repr

/-- The registration and reporting state of a row (R182, R197): its target and the anchor in force for it, the
correction for the line it prepares, the run of late lines open, lines judged late so far. -/
structure RowFire where
  tgt : Int
  latest : Int
  anchor : Int
  c : Int
  run : Option LateRun
  late : Word
  /-- The last line whose FIRE was sent (FIR_ROW_LINE, R205), and the fire instant of that FIRE in ps (R285). -/
  fired : Int
  firedAt : Nat
  /-- The rungs the row has applied (R27, R117), and the line of the last seam it has applied (R394). -/
  rungs : Nat
  seam : Word
deriving DecidableEq, Repr

/-- A row with every correction 0. -/
def RowFire.zero : RowFire :=
  { tgt := 0, latest := 0, anchor := 0, c := 0, run := none, late := 0, fired := 0, firedAt := 0, rungs := 0, seam := 0 }

/-- A compare unit (R199 to R203): the targets of committed repeats not yet reached, the line a LINE unit was armed
for, the number of PERIODIC pulses behind it, whether it waits for a job, the output's active level and the end of the
pulse in progress. -/
structure Compare where
  targets : List Int
  line : Option Int
  m : Nat
  waiting : Bool
  active : Bool
  pulseEnd : Nat
  skipTold : Bool
  /-- DISARM waits for the pulse in progress (R205). -/
  disarm : Bool
deriving DecidableEq, Repr

/-- An idle unit. -/
def Compare.zero : Compare :=
  { targets := [], line := none, m := 0, waiting := false, active := false, pulseEnd := 0, skipTold := false, disarm := false }

/-- The line synthesiser, firing timers, registration and compares (R177 to R205). -/
structure FirDev where
  /-- Position at the last count, in 2^-32 fu (R177). -/
  pos : Int
  gain : Nat
  pmax : Int
  anchor : Int
  /-- The anchor term as a row at the datum takes it (R199), the target it follows, and the line it stands for. -/
  anchorNow : Int
  anchorTgt : Int
  anchorLine : Int
  /-- Anchor changes whose seam has not yet stood at the datum, and stretch gains whose position P has not reached
  (R184, R199). -/
  anchors : List (SeamRef × Int)
  gains : List (SeamRef × Nat)
  /-- The prediction refresh (R190): its instant, the position in 2^-32 fu and the rate it took. -/
  refT : Nat
  refPos : Int
  refR : Int
  stopped : Bool
  ps : Int
  /-- The instant and P from which the stop-detect time runs (R15). -/
  advT : Nat
  advP : Int
  rows : Sparse RowFire
  heads : Sparse HeadFire
  pcs : Sparse Compare
  hbuf : List (Word × Word)
  hbufOvf : Bool
deriving DecidableEq, Repr

/-! ### Host contexts and DMA (chapter 13) -/

/-- A datagram sent and not yet acknowledged (R362). -/
structure Unacked where
  seq : Word
  bytes : List Byte
  sends : Nat
  sentAt : Nat
deriving DecidableEq, Repr

/-- A host context (R354 to R366): its event sequence number, the event records not yet announced, when each
interrupt source last signalled and which are held, and its datagram transport. -/
structure HostCtx where
  evSeq : Word
  unann : Nat
  oldest : Nat
  lastIrq : Sparse Nat
  held : List Nat
  peer : Option (Word × Nat)
  lastHeard : Nat
  nextOut : Word
  expect : Word
  unacked : List Unacked
  waiting : List (List Byte)
  ahead : List (Word × List Byte)
  answers : List (Word × List Byte)
  /-- Tags of RD_REQs not yet answered (R360). -/
  reads : List Word
deriving DecidableEq, Repr

/-- A context nothing has used yet. -/
def HostCtx.zero : HostCtx :=
  { evSeq := 0, unann := 0, oldest := 0, lastIrq := [], held := [], peer := none, lastHeard := 0, nextOut := 0,
    expect := 0, unacked := [], waiting := [], ahead := [], answers := [], reads := [] }

/-- A DMA descriptor as fetched (R368). -/
structure Desc where
  addr : Nat
  src : Nat
  dst : Nat
  next : Nat
  len : Nat
  srcSpace : Nat
  dstSpace : Nat
  mode : Nat
  elem : Nat
  nplane : Nat
  plane : Nat
  stride : Nat
  end_ : Bool
  irq : Bool
  wb : Bool
deriving DecidableEq, Repr

/-- A DMA channel (R367 to R376); its state, result and counts stand in DM_STATUS, DM_RESIDUE and DM_DONE. -/
structure DmaCh where
  next : Nat
  desc : Option Desc
  moved : Nat
  pending : Option Nat
deriving DecidableEq, Repr

/-- A channel that has run nothing. -/
def DmaCh.zero : DmaCh := { next := 0, desc := none, moved := 0, pending := none }

/-- The host contexts and the DMA engine. -/
structure HostDev where
  ctxs : Sparse HostCtx
  chans : Sparse DmaCh
  /-- The weighted round robin: the context served last, the bursts it may still make, and the local channel each context
  served last (R371). -/
  rrCtx : Nat
  rrLeft : Nat
  rrChan : Sparse Nat
  /-- MAC addresses of the two ports, from fuses (R358). -/
  macs : List Nat
deriving DecidableEq, Repr

/-! ### The local clock (R406, R407) -/

/-- The local clock: its value in 2^-40 ns at an instant, the rate correction y in 1/65,536 ppm, and the time epoch;
from the instant it runs at 1 + y. -/
structure Clock where
  val : Nat
  since : Nat
  y : Int
  epoch : Nat
deriving DecidableEq, Repr

/-! ### The control cores (chapter 11) -/

/-- CC_STATUS.STATE (R313). -/
inductive CoreSt where
  | idle | running | waiting | halted | fault | watch
deriving DecidableEq, Repr

/-- A batch a core has submitted and the device holds for its group (R319); `over` where its count exceeds the size of its
staging store (R318). -/
structure HeldBatch where
  kind : Nat
  tag : Nat
  atLine : Bool
  recs : List (Word × Word)
  tooLong : Bool
deriving DecidableEq, Repr

/-- The control and status registers of a core that hold state (R308). -/
structure Csrs where
  inexc : Bool
  patched : Bool
  evec : Word
  epc : Word
  cause : Nat
  eaddr : Word
  sig : Word
  sigen : Word
  timerCmp : Word
  /-- The next value of the whole timer, in µs, at which TIMER_LO reaches TIMER_CMP (R310). -/
  timerAt : Nat
  wdog : Word
  mailIn : Word
  mailOut : Word
  inSeq : Nat
  outSeq : Nat
  recmask : Word
  policyCur : Word
  policySeq : Word
  dwin : Word
  batchAddr : Word
  batchN : Word
  batchResult : Word
  batchSeam : Word
  batchAt : Word
deriving DecidableEq, Repr

/-- A core's control registers at START (R313). -/
def Csrs.zero : Csrs :=
  { inexc := false, patched := false, evec := 0, epc := 0, cause := 0, eaddr := 0, sig := 0, sigen := 0, timerCmp := 0, timerAt := 4294967296,
    wdog := 0, mailIn := 0, mailOut := 0, inSeq := 0, outSeq := 0, recmask := 0, policyCur := 0, policySeq := 0,
    dwin := 0, batchAddr := 0, batchN := 0, batchResult := 0, batchSeam := 0, batchAt := 0 }

/-- A tagged instruction that has retired or been squashed (R327): address, word, FLAGS, data address, and the core's
counter of retired slots. -/
structure SampTag where
  pc : Word
  insn : Word
  flags : Nat
  daddr : Word
  retired : Word
deriving DecidableEq, Repr

/-- A control core: its run state, scalar registers s1 to s31, vector lanes v0 to v7 (at 8 × register + lane), pc,
control registers, local memory, the sampler's countdown and tag, and the watchdog's last kick (while HALTED, how long
before the halt it was). -/
structure Core where
  st : CoreSt
  /-- Before a twin WATCH or a HALT: whether WAITING is resumed. -/
  wasWaiting : Bool
  s : Sparse Word
  v : Sparse (BitVec 16)
  pc : Word
  csr : Csrs
  lmem : Sparse Byte
  kickAt : Nat
  /-- From when the present WAIT or halt is not yet in its counter (R320, R323). -/
  since : Nat
  held : List HeldBatch
  /-- The sampler: retired instructions left to the next tag, the next instruction to issue is tagged, and the tagged
  instruction once it has run (R326). -/
  countdown : Nat
  tagNext : Bool
  tag : Option SampTag
deriving DecidableEq, Repr

/-- A core that has not started. -/
def Core.zero : Core :=
  { st := .idle, wasWaiting := false, s := [], v := [], pc := 0, csr := .zero, lmem := [], kickAt := 0, since := 0, held := [],
    countdown := 0, tagNext := false, tag := none }

/-- The counters, the sampler and the tally (R322 to R330). -/
structure PerfDev where
  /-- The 640 counters of 48 bits (R322, R323). -/
  cnt : Sparse Nat
  /-- The sampler's generator, and whether STOP mode has ended the run (R326, R328). -/
  gen : Word
  stopped : Bool
  /-- The sample buffer: 1,024 records of 32 bytes (R327). -/
  buf : Sparse Byte
  /-- The tally dump in progress: its slot, its address and its bytes (R329, R330). -/
  dump : Option (Nat × Nat × List Byte)
  /-- Dumps begun since EN was set, and when the tally period runs from. -/
  dumps : Nat
  periodAt : Nat
deriving DecidableEq, Repr

/-- The cores, the shared memory with its record ring, and what chapter 11 gives beside them. -/
structure CoresDev where
  cores : Sparse Core
  shared : Sparse Byte
  recW : Nat
  seamLast : Word
  /-- When the forme loaded: the start of TIMER (R308). -/
  loadedAt : Nat
deriving DecidableEq, Repr

/-! ### Drive references (chapter 10) -/

/-- A drive-reference output (R283 to R286): the code in force, whether it drives, the codes waiting for their seam
instants, each with the row's last line before its seam, the read-back and its runs of bad and good rounds. -/
structure DrefRow where
  now : Nat
  drive : Bool
  fault : Bool
  step : List (Nat × Int)
  stepT : Nat
  /-- The row's last line before the seam of the last step (R285). -/
  last : Option Int
  rb : Nat
  bad : Nat
  good : Nat
  spill : Word
deriving DecidableEq, Repr

/-- An output at its reset code, not driven. -/
def DrefRow.zero : DrefRow :=
  { now := 0x800, drive := false, fault := false, step := [], stepT := 0, last := none, rb := 0, bad := 0, good := 0, spill := 0 }

/-! ### Head endpoints (chapter 08) -/

/-- A held ARM (R215, R216): its MASK and BLANK, and the heads still in the set once tags are resolved. -/
structure EpArm where
  mask : Nat
  blank : Nat
  heads : Nat
deriving DecidableEq, Repr

/-- A stored LINE (R211, R213). -/
structure EpLine where
  s : Word
  bits : Nat
  fallback : Bool
  payload : List Byte
deriving DecidableEq, Repr

/-- A digest block of a head as its lines gather (R221, R223): block number, lines counted, missed and skipped lines,
the CRC-32C register, and the marks SWITCH, SLIP and TAGERR. -/
structure EpDig where
  block : Word
  count : Nat
  missed : Nat
  crc : BitVec 32
  switch : Bool
  slip : Bool
  tagErr : Bool
deriving DecidableEq, Repr

/-- A digest block with no line yet. -/
def EpDig.zero : EpDig :=
  { block := 0, count := 0, missed := 0, crc := 0xFFFFFFFF, switch := false, slip := false, tagErr := false }

/-- A closed block whose ECHO waits for its DIGEST, for at most 20 µs (R223). -/
structure EpEcho where
  head : Nat
  dig : EpDig
  closedAt : Nat
deriving DecidableEq, Repr

/-- HEADCFG of a head on a port (R233). -/
structure EpCfg where
  nozzles : Nat
  bits : Nat
  step : Nat
  xlate : List Nat
deriving DecidableEq, Repr

/-- A head as one port sees it (R213, R216): next line, HEADCFG, stored lines, highest line ever stored. -/
structure EpHP where
  next : Word
  cfg : EpCfg
  lines : List EpLine
  high : Option Word
deriving DecidableEq, Repr

/-- A head no port has spoken of. -/
def EpHP.zero : EpHP :=
  { next := 0, cfg := { nozzles := 0, bits := 0, step := 1, xlate := [0, 0, 0, 0] }, lines := [], high := none }

/-- A head (R227, R228): its firing port, the switch pending with its line (none for ANYLINE), the line of a pending
RELEASE, whether the last pending switch was made, lines fired and missed, and its digest block. -/
structure EpHead where
  firing : Option Port
  sw : Option (Port × Option Word)
  rel : Option Word
  switched : Bool
  fired : Word
  missed : Word
  dig : EpDig
deriving DecidableEq, Repr

/-- A head at power-up. -/
def EpHead.zero : EpHead :=
  { firing := none, sw := none, rel := none, switched := false, fired := 0, missed := 0, dig := .zero }

/-- One port of an endpoint: its heads, held ARMs by q, the EIDLE hold (R452), and its REFO or a supply out of limits
(R238). -/
structure EpPort where
  hps : Sparse EpHP
  arms : Sparse (Option EpArm)
  eidle : Bool
  out : Bool
deriving DecidableEq, Repr

/-- A port at power-up. -/
def EpPort.zero : EpPort := { hps := [], arms := [], eidle := false, out := false }

/-- What an endpoint reports of itself in CAPS (R232); the maker of the endpoint chooses it (log entry 11). -/
structure EpCaps where
  version : Nat
  features : Nat
  nhead : Nat
  bufLines : Nat
  lat : Nat
  rxlat : Nat
  txlat : Nat
  offres : Nat
  ids : List Nat
  nozzles : List Nat
  formats : List Nat
  maxrate : List Nat
deriving DecidableEq, Repr

/-- A lane test of an endpoint (R458): the port and OP, PATS, DUR and USER of the frame that began it. -/
structure EpTest where
  port : Port
  op : Nat
  pats : Nat
  dur : Nat
  user : Nat
deriving DecidableEq, Repr

/-- A head endpoint: its claim register C, the port and line of the claim in C, its ports and heads, counters, lane
test, the last DIGEST of each port and head, and the ECHOs that wait. -/
structure Endpoint where
  c : Nat
  cport : Port
  le : Option Word
  caps : EpCaps
  pa : EpPort
  pb : EpPort
  heads : Sparse EpHead
  tagErr : Nat
  crcErr : Nat
  test : Option EpTest
  digs : List (Port × Nat × Word × Nat × Word)
  echoes : List EpEcho
deriving DecidableEq, Repr

/-- Capabilities of the endpoints the reset state names (log entry 11). -/
def EpCaps.zero : EpCaps :=
  { version := 0x10, features := 7, nhead := 8, bufLines := 64, lat := 200, rxlat := 0, txlat := 0, offres := 0,
    ids := List.replicate 8 0, nozzles := List.replicate 8 4096, formats := List.replicate 8 0x1F,
    maxrate := List.replicate 8 160 }

/-- An endpoint at power-up. -/
def Endpoint.zero : Endpoint :=
  { c := 0, cport := .a, le := none, caps := .zero, pa := .zero, pb := .zero, heads := [], tagErr := 0, crcErr := 0,
    test := none, digs := [], echoes := [] }

/-! ### The DRAM controller (chapter 12) -/

/-- A DRAM channel beside its registers: the pauses issued of the retraining round in progress (R343), since when a
pause waits behind panic, when the last pause was issued, whether the channel is in self-refresh (R347), the corrected
errors of this housekeeping round (R352), and the temperature at the last round. -/
structure DramCh where
  round : Option Nat
  due : Option Nat
  lastPause : Option Nat
  selfRefresh : Bool
  temp : Option Int
  /-- The temperature last read. -/
  read : Option Int
deriving DecidableEq, Repr

/-- A channel that has done nothing. -/
def DramCh.zero : DramCh := { round := none, due := none, lastPause := none, selfRefresh := false, temp := none, read := none }

/-- The controller: its channels, the DRAM header in force (R336), the corrected errors of this housekeeping round and
whether they have been reported (R352). -/
structure DramDev where
  chans : Sparse DramCh
  header : Option (Nat × Nat × Nat × Nat)
  ce : Nat
deriving DecidableEq, Repr


/-! ### The twin (chapter 14) -/

/-- A twin frame sent and not yet acknowledged (R382). -/
structure TwinSent where
  seq : Word
  frame : TwinFrame
  at_ : Nat
deriving DecidableEq, Repr

/-- A twin link (R384): a valid HELLO has been heard since its lane locked, when the last valid frame came, and the
latency values it has. -/
structure TwinPort where
  heard : Bool
  last : Nat
  lats : List Nat
deriving DecidableEq, Repr

/-- A link nothing has been heard on. -/
def TwinPort.zero : TwinPort := { heard := false, last := 0, lats := [] }

/-- An ECHO BLOCK the standby has heard and not yet judged (R396). -/
structure TwinEcho where
  link : Nat
  head : Nat
  first : Word
  count : Nat
  digest : Word
  at_ : Nat
deriving DecidableEq, Repr

/-- The twin block beside its registers (R382 to R403). -/
structure TwinDev where
  ports : Sparse TwinPort
  peer : Option Hello
  nextSeq : Word
  applied : Word
  unacked : List TwinSent
  waiting : List TwinFrame
  ahead : List (Word × TwinFrame)
  ckpt : Option (List Byte)
  /-- When the last valid BEAT came, and the latencies and position settling of R391. -/
  lastBeat : Nat
  beatHeard : Bool
  dk : Option Int
  dkRun : Nat
  posBad : Nat
  far : Bool
  /-- The baseline has come whole; the first checkpoint has been applied with equal live digest; a resync for unequal
  live digests has been made (R388, R395). -/
  baseline : Bool
  ckptOk : Bool
  resynced : Bool
  /-- IDIGs with their arrival, ECHO BLOCKs unjudged, the last mismatched block of a head, and the overdue blocks of a
  head in a row with the last one judged (R396, R397). -/
  idigs : List (Nat × IntDigest)
  echoes : List TwinEcho
  mism : List (Nat × Nat × Nat)
  overdue : List (Nat × Nat × Nat × Nat)
  /-- Heads a STATUS showed firing from the active unit's port, by link, and the heads (8 × link + position) in echo
  failure. -/
  shown : Sparse Nat
  fails : List Nat
  /-- The instant of the decision, the resume line of each plane, the links a take-over or reversion has claimed, and
  whether EV_TAKEOVER has been raised (R398, R399). -/
  td : Option Nat
  resume : Sparse Int
  claimed : List Nat
  told : Bool
  /-- Since when READY has held (R388), and the hand-over seam (R403). -/
  readySince : Option Nat
  seam : Option Int
  /-- The peer has claimed above this unit: the unit stops and becomes STANDBY (R402). -/
  deposed : Bool
  /-- The cause of the unit's last take-over, 0 none (R382), the last block each head has been heard on, when the last
  STATUS of each link came (R396, R397), and whether REVERT_NOW has ended the hold-off (R405). -/
  tookCause : Nat
  blocks : Sparse Nat
  statusAt : Sparse Nat
  noHold : Bool
  /-- The epoch this unit claims with since it last became active (R386, R399). -/
  epoch : Option Nat
deriving DecidableEq, Repr

/-- A unit that has heard nothing of a twin. -/
def TwinDev.zero : TwinDev :=
  { ports := [], peer := none, nextSeq := 1, applied := 0, unacked := [], waiting := [], ahead := [], ckpt := none,
    lastBeat := 0, beatHeard := false, dk := none, dkRun := 0, posBad := 0, far := false, baseline := false,
    ckptOk := false, resynced := false, idigs := [], echoes := [], mism := [], overdue := [], shown := [], fails := [],
    td := none, resume := [], claimed := [], told := false, readySince := none, seam := none, deposed := false,
    tookCause := 0, blocks := [], statusAt := [], noHold := false, epoch := none }

/-! ### Bar links (chapter 08) and lanes (chapter 17) -/

/-- A digest block of a head as the device gathers it (R221): its number, the lines for which ARMs were sent, and the
CRC-32C register over their payloads. -/
structure LinkDig where
  block : Int
  count : Nat
  crc : BitVec 32
deriving DecidableEq, Repr

/-- A bar link beside its registers (R213 to R236): the next set number q, the last valid CAPS and when it came, the
claim register heard and the unit's own claim (0 none), the latency values in ps (newest first), CONFIG failures in a
row, when the present state was entered, PROBEs out (sequence, instant), PROBEs still to send and the next sequence,
digest blocks by head position and DIGESTs sent (position, FIRST, COUNT, DIGEST), lines to resend (slot, line),
positions owed a TICK before their next ARM, the loss of the claim with its switch line (none for every line), firing
ports in the last STATUS, and when the last frame or ordered set was sent. -/
structure BarLink where
  q : Nat
  caps : List Byte
  capsAt : Option Nat
  claim : Nat
  own : Nat
  lats : List Nat
  fails : Nat
  since : Nat
  probes : List (Nat × Nat)
  left : Nat
  seq : Nat
  lastProbe : Nat
  digs : Sparse (Option LinkDig)
  sent : List (Nat × Word × Nat × Word)
  resend : List (Nat × Int)
  tickFor : List Nat
  lost : Option (Option Int)
  firing : List Nat
  busyAt : Nat
deriving DecidableEq, Repr

/-- A link at reset. -/
def BarLink.zero : BarLink :=
  { q := 0, caps := [], capsAt := none, claim := 0, own := 0, lats := [], fails := 0, since := 0, probes := [], left := 0,
    seq := 0, lastProbe := 0, digs := [], sent := [], resend := [], tickFor := [], lost := none, firing := [], busyAt := 0 }

/-- A lane test in progress (R456): its mode, when it ends, and the state its transmitter returns to. -/
structure LaneTest where
  mode : Nat
  endAt : Nat
  phy : Nat
deriving DecidableEq, Repr

/-- A lane beside its registers (R448 to R456): since when its receiver has stood as it stands, its last event, since
when its transmitter leaves the deep state, the test in progress, bits compared (48 bits). -/
structure Lane where
  since : Nat
  evAt : Option Nat
  exitAt : Option Nat
  test : Option LaneTest
  bits : Nat
deriving DecidableEq, Repr

/-- A lane at reset. -/
def Lane.zero : Lane := { since := 0, evAt := none, exitAt := none, test := none, bits := 0 }

/-! ### Slack, heat and housekeeping (chapter 16) -/

/-- The plumb, governor, housekeeping and ladder beside their registers (R426 to R441). -/
structure HkDev where
  /-- The least lead of each link since the last tick and since the last round's end, where a commit took one (R427). -/
  tickLead : Sparse (Option Nat)
  roundLead : Sparse (Option Nat)
  /-- Heads that count toward lead (R427). -/
  counting : List Nat
  /-- When each link last took a lead (R323). -/
  leadAt : Sparse Nat
  /-- Heads whose HK frame came since the last HK_REQ, heads that have reported since link-up, and rounds in a row a
  head has stood inside its inner window (R237, R434). -/
  fresh : List Nat
  heard : List Nat
  good : Sparse Nat
  /-- Ticks in a row with a near-full lead, and the last tick (R430). -/
  lowerRun : Nat
  tickAt : Nat
  /-- Rounds in a row with VDD_CORE off (or back on) its set point, and with each supply on the other side of its
  limits (R429, R470). -/
  vsetRun : Nat
  supplyRun : Sparse Nat
  /-- The last round, and HK_MS as that round took it (R433). -/
  roundAt : Nat
  /-- Heat enforce, and a commit below L_ENFORCE in this round (R437, R438). -/
  heatEnf : Bool
  low : Bool
  /-- Grace time counted in ps, and the instant up to which it is (R438). -/
  grace : Nat
  graceAt : Nat
  /-- Rungs taken, last first, each with whether it acted at a seam (R439); a rung's update not yet applied by the most
  upstream row; when the last acting one was applied, or VOLTAGE reached the ceiling; since when no ask cause and no
  lead below L_WARN has been seen, counted from the last rung applied (R441). -/
  taken : List (Nat × Bool)
  waiting : Bool
  applied : Option Nat
  base : Nat
  clean : Nat
  /-- The fused counts of the temperature sensors at T1 and T2 and of the reference oscillators (R426, R432). -/
  fuses : List (Nat × Nat)
  oscFuses : List Nat
deriving DecidableEq, Repr

/-! ### Network time (chapter 15) -/

/-- A master heard in a domain (R414): its port identity, the port it was heard on, its last Announce and when that
came, how many it sent, and its Announce interval as log2 s. -/
structure PtpParent where
  src : Nat
  port : Nat
  body : AnnounceBody
  at_ : Nat
  count : Nat
  interval : Int
deriving DecidableEq, Repr

/-- A PTP domain beside its registers (R414): masters heard, the parent and the grandmaster followed, offset
measurements made, the last Sync with its arrival and sent time with corrections in 2^-16 ns and its interval, a
two-step Sync that waits for its Follow_Up (sequence, arrival, correction), meanPathDelay in 2^-16 ns, the latest
offset in 2^-16 ns, when the last Sync came, since when it is LOCKED, requests out (port, sequence, egress time in 2^-16 ns) and a
two-step peer answer (sequence, egress, arrival, receipt and correction). -/
structure PtpDom where
  masters : List PtpParent
  parent : Option (Nat × Nat)
  gm : Option AnnounceBody
  n : Nat
  sync : Option (Int × Int)
  syncAt : Option Nat
  syncLog : Int
  two : Option (Nat × Int × Int)
  delay : Int
  theta : Int
  lockedAt : Option Nat
  reqs : List (Nat × Nat × Int)
  peer : Option (Nat × Int × Int × Int × Int)
deriving DecidableEq, Repr

/-- A domain that has heard nothing. -/
def PtpDom.zero : PtpDom :=
  { masters := [], parent := none, gm := none, n := 0, sync := none, syncAt := none, syncLog := 0, two := none, delay := 0,
    theta := 0, lockedAt := none, reqs := [], peer := none }

/-- A time-pulse unit beside its registers (R419): the index of its next target, its output's level, the end of the
pulse in progress, and a DISARM that waits for it. -/
structure TimePulse where
  m : Nat
  active : Bool
  pulseEnd : Nat
  disarm : Bool
deriving DecidableEq, Repr

/-- An idle unit. -/
def TimePulse.zero : TimePulse := { m := 0, active := false, pulseEnd := 0, disarm := false }

/-- A queued capture (R422): seconds, nanoseconds, epoch, edge, P. -/
structure Capture where
  sec : Nat
  ns : Nat
  epoch : Nat
  falling : Bool
  p : Int
deriving DecidableEq, Repr

/-- A time-capture input (R422): its queue, oldest first, and whether an edge has been dropped since the last pop. -/
structure TimeCap where
  queue : List Capture
  ovf : Bool
deriving DecidableEq, Repr

/-- An input with nothing queued. -/
def TimeCap.zero : TimeCap := { queue := [], ovf := false }

/-- Timekeeping beside its registers: the domain numbers and the step threshold of the last FULL load (R407), the
domains, the step that waits (cause 1 TD0, 2 TD1, 3 host), units and inputs, the next sequence number by port, kind and
domain, and the requests answered in the present second by port (R417). -/
structure TkDev where
  nums : List Nat
  tstepUs : Nat
  doms : Sparse PtpDom
  pend : Option Nat
  tps : Sparse TimePulse
  tcs : Sparse TimeCap
  seqs : Sparse Nat
  answered : Sparse (Nat × Nat)
deriving DecidableEq, Repr


/-! ### Cameras (chapter 09) -/

/-- A hit of a channel's trigger unit (R247, R248): latched P and TD0 time, when, and T − O − A_d. -/
structure CamHit where
  pos : Int
  sec : Nat
  nsw : Word
  at_ : Nat
  base : Int
deriving DecidableEq, Repr

/-- A line of an exposure in a port's buffer (R246, R260): its arrival number, unpacked samples, a CRC error, how many
samples were received, and a whole fill line, which uses no buffer. -/
structure CamLine where
  seq : Nat
  exp : Nat
  idx : Nat
  px : List Nat
  bad : Bool
  real : Nat
  fill : Bool
deriving DecidableEq, Repr

/-- A line of the mosaic after step 4 (R251): samples, a CRC error or an absent exposure, columns received in every
exposure. -/
structure CamMosaic where
  px : List Nat
  bad : Bool
  real : Nat
deriving DecidableEq, Repr

/-- A frame from its Frame Start until its record is written (R245 to R267): the tag it took, the profile, window and
lookup settings handed over to it, and what has arrived. -/
structure CamFrame where
  num : Nat
  fn : Nat
  isOpen : Bool
  last : Nat
  pos : Int
  sec : Nat
  nsw : Word
  view : Word
  untrig : Bool
  nojob : Bool
  profile : Nat
  isp : Sparse Word
  lut : Sparse (BitVec 16)
  dpc : List (Nat × Nat)
  emb : Option (List Byte)
  /-- Long packets of each exposure so far. -/
  counts : List Nat
  kinds : List Nat
  crcErr : Nat
  eccCorr : Nat
  long : Bool
  cut : Bool
  lines : List CamLine
  mosaic : List CamMosaic
deriving DecidableEq, Repr

/-- A channel (R245, R247, R270): its frames whose record is still to come, oldest first, the frame number, its hits,
oldest first, and the next export slot. -/
structure CamChan where
  frames : List CamFrame
  num : Nat
  hits : List CamHit
  slot : Nat
deriving DecidableEq, Repr

/-- A channel with no frame. -/
def CamChan.zero : CamChan := { frames := [], num := 0, hits := [], slot := 0 }

/-- A camera port (R242, R249, R259): frame starts and lanes found since the FULL load, a shadow register written since
the last hand-over, CCI commands with their write data and results waiting, the LUTs in force and their back copies
(at 16,384 × profile + 3 × entry + component), profiles whose copies wait to be exchanged, and the defect list. -/
structure CamPort where
  starts : Nat
  lanes : Nat
  dirty : Bool
  cmds : List (Word × Word)
  results : List Word
  front : Sparse (BitVec 16)
  back : Sparse (BitVec 16)
  swap : List Nat
  dpc : Sparse Word
deriving DecidableEq, Repr

/-- A port at reset. -/
def CamPort.zero : CamPort :=
  { starts := 0, lanes := 0, dirty := false, cmds := [], results := [], front := [], back := [], swap := [], dpc := [] }

/-- The cameras: ports, channels (at 16 × port + VC), and the number of the next line to arrive. -/
structure CamDev where
  ports : Sparse CamPort
  chans : Sparse CamChan
  seq : Nat
deriving DecidableEq, Repr
/-! ### The whole device -/

/-- The device: everything but the head endpoints and the queue of waiting commands. -/
structure Dev where
  /-- The instant of the last command, in ps since power-on (log entry 1). -/
  now : Nat
  /-- The internal reset is asserted (R464). -/
  inReset : Bool
  /-- The free-value counter (the model's own field, log entry 3). -/
  free : Nat
  /-- What has left the device, newest first (the model's own field, log entry 4). -/
  out : List Out
  regs : Sparse Word
  /-- Per-context holding registers of the latching LO registers (R479), keyed like the register file. -/
  latch : Sparse Word
  dram : Sparse Byte
  poison : Sparse Bool
  clock : Clock
  fm : FormeDev
  ups : List Update
  job : JobDev
  stores : Sparse (Option StoreSlot)
  swath : Sparse Swath
  scr : ScrDev
  nz : NzDev
  enc : EncDev
  fir : FirDev
  host : HostDev
  cc : CoresDev
  perf : PerfDev
  dref : Sparse DrefRow
  dc : DramDev
  tw : TwinDev
  links : Sparse BarLink
  lanes : Sparse Lane
  hk : HkDev
  tk : TkDev
  cam : CamDev
deriving DecidableEq, Repr

/-- The whole state: the queue of waiting commands (first in, first out), the head endpoints by link, the device. -/
structure State where
  pending : List Instr
  eps : Sparse Endpoint
  dev : Dev
deriving DecidableEq, Repr


/-! ### Reset -/

/-- The device right after its power-on reset is released: every register at its reset value, memories and queues empty,
flash erased, no forme, VSET driven and EN0's transmitter on its way up (R462, R466); what the spec gives no reset value for stands at the value log entry 46 names. -/
def Dev.reset : Dev :=
  { now := 0, inReset := false, free := 0, out := [.vset 800],
    regs := [(0x140884, 3)], latch := [], dram := [], poison := [],
    clock := { val := 0, since := 0, y := 0, epoch := 0 },
    fm := { forme := none, run := none, baseDigest := [], liveDigest := [], oldDigests := [], images := [],
            cur := { run := none, tone := [], screen := [], policy := [] }, boot := true, load := none, flashJob := none,
            keys := List.replicate 4 { hash := List.replicate 32 0, programmed := false, revoked := false },
            flash := [], slot := 0 },
    ups := [],
    job := { phase := .idle, p0 := 0, queues := [], reps := [], stop := false, endLine := none, dryFrom := none,
             dryFlag := false, dryLines := 0, first := 0, prep := [], doneRows := [] },
    stores := [], swath := [],
    scr := { matrix := [], upper := false, set := [], planes := [] },
    nz := { table := [], heads := [], hbuf := [], hbufOvf := false, ids := [], tone := [], copy := 0, save := none,
            saveWait := false },
    enc := { e0 := .zero, e1 := .zero, kmax := 0, kb := 0, armed := false, fbFrac := 0, fallback := false, span := none,
             encoA := false, encoB := false, encoGather := 0, encoSrc := 0, encoDiv := 1 },
    fir := { pos := 0, gain := 1073741824, pmax := 0, anchor := 0, anchorNow := 0, anchorTgt := 0, anchorLine := 0,
             anchors := [], gains := [], refT := 0, refPos := 0, refR := 0, stopped := true, ps := 0, advT := 0, advP := 0,
             rows := [], heads := [], pcs := [], hbuf := [], hbufOvf := false },
    host := { ctxs := [], chans := [], rrCtx := 3, rrLeft := 0, rrChan := [], macs := [0, 0] },
    cc := { cores := [], shared := [], recW := 0, seamLast := 0, loadedAt := 0 },
    perf := { cnt := [], gen := 0, stopped := false, buf := [], dump := none, dumps := 0, periodAt := 0 },
    dref := [],
    dc := { chans := [], header := none, ce := 0 },
    tw := .zero, links := [], lanes := [(34, { Lane.zero with exitAt := some 0 })],
    hk := { tickLead := [], roundLead := [], counting := [], leadAt := [], fresh := [], heard := [], good := [],
            lowerRun := 0, tickAt := 0, vsetRun := 0, supplyRun := [], roundAt := 0, heatEnf := false, low := false,
            grace := 0, graceAt := 0, taken := [], waiting := false, applied := none, base := 0, clean := 0,
            fuses := List.replicate 24 (480, 1760), oscFuses := List.replicate 8 1024 },
    tk := { nums := [], tstepUs := 0, doms := [], pend := none, tps := [], tcs := [], seqs := [], answered := [] },
    cam := { ports := [], chans := [], seq := 0 } }

/-- The machine right after reset: no command waits, and the endpoints stand as at their power-up. -/
def State.reset : State := { pending := [], eps := [], dev := .reset }

end Sys2Proof.Machine
end

