-- ==== Sys2Proof/Machine/Ops.lean ====
section
/-!
DEFINITION. The shared operations of the device: registers, time and position, ownership, host memory, interrupts,
events, and how a command's effect on the device is lifted to the whole state.
-/
namespace Sys2Proof.Machine

/-- What a meaning answers. -/
abbrev Res := Host.Outcome State Fault Refusal

/-- An effect that may meet a host error. -/
abbrev Eff := Except Fault Dev

/-- The outcome UNPREDICTABLE under R2, by the rule that says so. -/
def hostError (rule : Nat) : Eff := .error (.hostError rule)

/-! ### Registers (R475 to R482) -/

/-- A register of the shared window. -/
def Dev.reg (d : Dev) (off : Nat) : Word := Sparse.get regDefault d.regs off

/-- The device with a register of the shared window replaced. -/
def Dev.setReg (d : Dev) (off : Nat) (v : Word) : Dev := { d with regs := Sparse.set regDefault d.regs off v }

/-- A context's own copy of a private register, or the shared register. -/
def Dev.regOf (d : Dev) (ctx off : Nat) : Word := d.reg (regKey ctx off)

/-- The device with a context's own copy of a register replaced. -/
def Dev.setRegOf (d : Dev) (ctx off : Nat) (v : Word) : Dev := d.setReg (regKey ctx off) v

/-- A counter register moved on by `n`, modulo 2^32. -/
def Dev.bumpBy (d : Dev) (off n : Nat) : Dev := d.setReg off (d.reg off + BitVec.ofNat 32 n)

/-- A counter register moved on by one. -/
def Dev.bump (d : Dev) (off : Nat) : Dev := d.bumpBy off 1

/-- A field of a register replaced. -/
def Dev.setRegFld (d : Dev) (off lo len v : Nat) : Dev := d.setReg off (setFld (d.reg off) lo len v)

/-- Counter `n` moved on by `k` wraps or events, modulo 2^48; its own wraps go to the next counter where PERF_CHAIN says
so (R322, R325). -/
def countGo (chained : Nat → Bool) : Nat → Sparse Nat → Nat → Nat → Sparse Nat
  | 0, m, _, _ => m
  | fuel + 1, m, n, k =>
    let v := Sparse.get (fun _ => 0) m n + k
    let m := Sparse.set (fun _ => 0) m n (v % 281474976710656)
    if chained n && decide (281474976710656 ≤ v) then countGo chained fuel m (n + 1) (v / 281474976710656) else m

/-- Counter n chains into counter n + 1 (R325). -/
def Dev.chained (d : Dev) (n : Nat) : Bool := flag (d.reg (0x0F0008 + 4 * (n / 32))) (n % 32)

/-- `k` events of counter `n` (R322, R323): a chained counter has stopped counting its own event. -/
def Dev.count (d : Dev) (n k : Nat) : Dev :=
  if 0 < n && d.chained (n - 1) then d
  else { d with perf := { d.perf with cnt := countGo d.chained 640 d.perf.cnt n k } }

/-- A result window's status word with VALID set, SEQ moved on, and the rest as given (R4, R480). -/
def windowNext (old rest : Word) : Word :=
  setFld (setFld rest 31 1 1) 23 8 (fld old 23 8 + 1)

/-- A result window whose result is not ready: VALID 0, SEQ kept (R4). -/
def windowBusy (old rest : Word) : Word :=
  setFld (setFld rest 31 1 0) 23 8 (fld old 23 8)

/-- A fresh free value (log entry 3). -/
def Dev.takeFree (d : Dev) : Nat × Dev := (Config.freeValue d.free, { d with free := d.free + 1 })

/-- A word the spec does not state: a free value (log entry 3). -/
def Dev.freeWord (d : Dev) : Word × Dev := (BitVec.ofNat 32 (Config.freeValue d.free), { d with free := d.free + 1 })

/-- One more thing leaves the device. -/
def Dev.emit (d : Dev) (o : Out) : Dev := { d with out := o :: d.out }

/-- The device at the instant of a command: time never runs back (log entry 1). -/
def Dev.at (d : Dev) (t : Nat) : Dev := { d with now := max d.now t }

/-! ### Lifting -/

/-- A command that acts on the device: its effect at its instant, nothing while the reset is asserted (R463). -/
def onDev (t : Nat) (f : Dev → Dev) (s : State) : Res :=
  let d := s.dev.at t
  .next { s with dev := if d.inReset then d else f d }

/-- The same for an effect that may be a host error. -/
def onDevE (t : Nat) (f : Dev → Eff) (s : State) : Res :=
  let d := s.dev.at t
  if d.inReset then .next { s with dev := d }
  else
    match f d with
    | .ok d' => .next { s with dev := d' }
    | .error e => .fault e

/-- A command that names a unit: it stops where the device has no such unit. -/
def onUnit (ok : Bool) (t : Nat) (f : Dev → Dev) (s : State) : Res :=
  if ok then onDev t f s else .fault .noSuchUnit

/-- The same for an effect that may be a host error. -/
def onUnitE (ok : Bool) (t : Nat) (f : Dev → Eff) (s : State) : Res :=
  if ok then onDevE t f s else .fault .noSuchUnit

/-! ### Sub-states held in sparse stores -/

/-- A plane's job queue. -/
def Dev.queue (d : Dev) (c : Nat) : JobQueue := Sparse.get (fun _ => .empty) d.job.queues c
def Dev.setQueue (d : Dev) (c : Nat) (q : JobQueue) : Dev :=
  { d with job := { d.job with queues := Sparse.set (fun _ => .empty) d.job.queues c q } }
/-- A store slot's open store. -/
def Dev.store (d : Dev) (s : Nat) : Option StoreSlot := Sparse.get (fun _ => none) d.stores s
def Dev.setStore (d : Dev) (s : Nat) (x : Option StoreSlot) : Dev :=
  { d with stores := Sparse.set (fun _ => none) d.stores s x }
/-- A plane's swath fetch port. -/
def Dev.port (d : Dev) (c : Nat) : Swath := Sparse.get (fun _ => .empty) d.swath c
def Dev.setPort (d : Dev) (c : Nat) (p : Swath) : Dev := { d with swath := Sparse.set (fun _ => .empty) d.swath c p }
/-- A plane's screening state. -/
def Dev.plane (d : Dev) (c : Nat) : ScrPlane := Sparse.get (fun _ => .empty) d.scr.planes c
def Dev.setPlane (d : Dev) (c : Nat) (p : ScrPlane) : Dev :=
  { d with scr := { d.scr with planes := Sparse.set (fun _ => .empty) d.scr.planes c p } }
/-- A head's firing state. -/
def Dev.headFire (d : Dev) (h : Nat) : HeadFire := Sparse.get (fun _ => .zero) d.fir.heads h
def Dev.setHeadFire (d : Dev) (h : Nat) (x : HeadFire) : Dev :=
  { d with fir := { d.fir with heads := Sparse.set (fun _ => .zero) d.fir.heads h x } }
/-- A row's registration state. -/
def Dev.rowFire (d : Dev) (r : Nat) : RowFire := Sparse.get (fun _ => .zero) d.fir.rows r
def Dev.setRowFire (d : Dev) (r : Nat) (x : RowFire) : Dev :=
  { d with fir := { d.fir with rows := Sparse.set (fun _ => .zero) d.fir.rows r x } }
/-- A compare unit. -/
def Dev.pc (d : Dev) (n : Nat) : Compare := Sparse.get (fun _ => .zero) d.fir.pcs n
def Dev.setPc (d : Dev) (n : Nat) (x : Compare) : Dev :=
  { d with fir := { d.fir with pcs := Sparse.set (fun _ => .zero) d.fir.pcs n x } }
/-- A host context. -/
def Dev.ctx (d : Dev) (h : Nat) : HostCtx := Sparse.get (fun _ => .zero) d.host.ctxs h
def Dev.setCtx (d : Dev) (h : Nat) (x : HostCtx) : Dev :=
  { d with host := { d.host with ctxs := Sparse.set (fun _ => .zero) d.host.ctxs h x } }
/-- A DMA channel. -/
def Dev.chan (d : Dev) (n : Nat) : DmaCh := Sparse.get (fun _ => .zero) d.host.chans n
def Dev.setChan (d : Dev) (n : Nat) (x : DmaCh) : Dev :=
  { d with host := { d.host with chans := Sparse.set (fun _ => .zero) d.host.chans n x } }

/-- A camera port, and a channel of it (port and VC). -/
def Dev.camPort (d : Dev) (p : Nat) : CamPort := Sparse.get (fun _ => .zero) d.cam.ports p
def Dev.setCamPort (d : Dev) (p : Nat) (x : CamPort) : Dev :=
  { d with cam := { d.cam with ports := Sparse.set (fun _ => .zero) d.cam.ports p x } }
def Dev.camChan (d : Dev) (p vc : Nat) : CamChan := Sparse.get (fun _ => .zero) d.cam.chans (16 * p + vc)
def Dev.setCamChan (d : Dev) (p vc : Nat) (x : CamChan) : Dev :=
  { d with cam := { d.cam with chans := Sparse.set (fun _ => .zero) d.cam.chans (16 * p + vc) x } }

/-! ### DRAM and flash bytes -/

/-- What a byte of DRAM that nothing has written since the fill reads as (R336). -/
def dramDefault (_ : Nat) : Byte := 0
/-- What an erased byte of flash reads as (log entry 5). -/
def flashDefault (_ : Nat) : Byte := 0xFF

def Dev.dramRead (d : Dev) (a n : Nat) : List Byte := Sparse.getList dramDefault d.dram a n
/-- A write of DRAM: whole bursts rewritten are good again (R350). -/
def Dev.dramWrite (d : Dev) (a : Nat) (bs : List Byte) : Dev :=
  { d with
    dram := Sparse.setList dramDefault d.dram a bs,
    poison := Sparse.clear d.poison ((a + 63) / 64) ((a + bs.length) / 64) }
/-- A burst whose read is uncorrectable until it is rewritten whole (R350). -/
def Dev.poisoned (d : Dev) (a n : Nat) : Bool :=
  (List.range ((a + n + 63) / 64 - a / 64)).any (fun i => Sparse.get (fun _ => false) d.poison (a / 64 + i))
def Dev.flashRead (d : Dev) (a n : Nat) : List Byte := Sparse.getList flashDefault d.fm.flash a n
/-- Programming flash clears bits only: a programmed byte is the old one and the new one together. -/
def Dev.flashProgram (d : Dev) (a : Nat) (bs : List Byte) : Dev :=
  let old := d.flashRead a bs.length
  { d with fm := { d.fm with flash := Sparse.setList flashDefault d.fm.flash a (List.zipWith (· &&& ·) old bs) } }
/-- Erasing a 4 KiB sector sets every byte to 0xFF (R66). -/
def Dev.flashErase (d : Dev) (sector : Nat) : Dev :=
  { d with fm := { d.fm with flash := Sparse.clear d.fm.flash (sector * 4096) (sector * 4096 + 4096) } }

/-! ### Time and position -/

/-- One sample of REFIN, 1.6 ns, in ps (R155). -/
def samplePs : Nat := 1600

/-- The local clock in 2^-40 ns at the last sample at or before an instant (R407). -/
def Clock.valAt (c : Clock) (t : Nat) : Nat :=
  let e : Int := ((t / samplePs * samplePs : Nat) : Int) - ((c.since / samplePs * samplePs : Nat) : Int)
  (((c.val : Int) + e * 1099511627776 * (65536000000 + c.y) / (1000 * 65536000000)).toNat)

/-- Seconds of the local clock. -/
def Dev.clockSec (d : Dev) : Nat := d.clock.valAt d.now / 1099511627776 / 1000000000
/-- Nanoseconds of the local clock. -/
def Dev.clockNs (d : Dev) : Nat := d.clock.valAt d.now / 1099511627776 % 1000000000
/-- The 16-bit fraction of the local clock. -/
def Dev.clockFrac (d : Dev) : Nat := d.clock.valAt d.now / 16777216 % 65536
/-- The nanoseconds word of a record: bits 31:30 the low two bits of the time epoch (R365, R406). -/
def Dev.clockNsWord (d : Dev) : Word := BitVec.ofNat 32 (d.clockNs + d.clock.epoch % 4 * 1073741824)

/-- The fraction φ of an encoder at an instant, in 1/65,536 count (R163). -/
def EncSide.phi (e : EncSide) (t : Nat) : Nat :=
  if e.speed = 0 || decide (e.speed * e.lastSign < 0) || e.lastSign = 0 then 0
  else min 65535 (65536 * e.speed.natAbs * ((t - e.lastT) / samplePs) / (16 * 625000000))

/-- φ with the sign of the speed. -/
def EncSide.phiSigned (e : EncSide) (t : Nat) : Int := if e.speed < 0 then -(e.phi t : Int) else e.phi t

/-- ENC0's A or B pair is in wire disagree (R159). -/
def EncDev.held (e : EncDev) : Bool := e.e0.disA.isSome || e.e0.disB.isSome

/-- The fraction of a count by which the position stands past K_0: φ, or the fraction carried while fallback drives K_0
or a disagree holds it (R160, R177). -/
def EncDev.frac0 (e : EncDev) (t : Nat) : Int :=
  if e.fallback || e.held then e.fbFrac else e.e0.phiSigned t

/-- The forme in force. -/
def Dev.forme (d : Dev) : Option Forme := d.fm.forme

/-- The count increment I in 2^-32 fu per count (R177). -/
def Dev.inc (d : Dev) : Nat :=
  match d.forme with
  | some f => f.sys.enc0Scale * d.fir.gain / 1073741824
  | none => 0

/-- The position in 2^-32 fu (R177). -/
def Dev.posNow (d : Dev) : Int := d.fir.pos + d.enc.frac0 d.now * (d.inc : Int) / 65536

/-- The web position P (R11, R177). -/
def Dev.p (d : Dev) : Int := d.posNow / 4294967296

/-- The ratio Q of the last posted stretch span, 0 before any (R170). -/
def Dev.ratio (d : Dev) : Nat := if flag (d.reg 0x080078) 31 then (d.reg 0x08007C).toNat else 0

/-- The web rate r in fu/s (R179). -/
def Dev.webRate (d : Dev) : Int :=
  let v : Int :=
    if d.enc.fallback then
      (if d.ratio = 0 then 0 else d.enc.e1.speed * 16777216 / (d.ratio : Int))
    else if d.enc.held then 0 else d.enc.e0.speed
  v * (d.inc : Int) / 68719476736

/-- P_max raised to the present P (R180). -/
def Dev.touchMax (d : Dev) : Dev := { d with fir := { d.fir with pmax := max d.fir.pmax d.p } }

/-- The substrate line at a web position (R12). -/
def Dev.lineAt (d : Dev) (p : Int) : Int := (p - d.job.p0) / 64

/-- A 32-bit substrate line resolved against the line `near` (R13). -/
def resolveLine (near : Int) (w : Word) : Int := near + lineDiff w (low32 near)

/-! ### What the forme says -/

/-- A job is loaded while the state is not IDLE (R60). -/
def Dev.printing (d : Dev) : Bool := d.job.phase != .idle

/-- The record of a colour plane in use. -/
def Forme.plane (f : Forme) (c : Nat) : Option PlaneCfg := f.planes.find? (fun p => p.c == c)
/-- The record of a head slot. -/
def Forme.head (f : Forme) (h : Nat) : Option HeadCfg := f.heads.find? (fun x => x.slot == h)
/-- The heads of a row. -/
def Forme.rowHeads (f : Forme) (r : Nat) : List HeadCfg := f.heads.filter (fun x => x.row == r)
/-- The heads of a bar link. -/
def Forme.linkHeads (f : Forme) (k : Nat) : List HeadCfg := f.heads.filter (fun x => x.link == k)
/-- The record of a bar link. -/
def Forme.link (f : Forme) (k : Nat) : LinkCfg :=
  f.links.getD k { inUse := false, idleOk := false, dualPort := false, minBuf := 0, maxLat := 0 }
/-- D_r of a row. -/
def Forme.dR (f : Forme) (r : Nat) : Nat := (f.rows.getD r { dR := 0, inUse := false }).dR
/-- The rows in use, in row order (R16). -/
def Forme.rowsInUse (f : Forme) : List Nat :=
  (List.range 16).filter (fun r => (f.rows.getD r { dR := 0, inUse := false }).inUse)
/-- The rows in use of a plane. -/
def Forme.planeRows (f : Forme) (c : Nat) : List Nat := f.rowsInUse.filter (fun r => r / 2 == c)
/-- The most upstream row of a list: the smallest D_r, the lowest number first. -/
def Forme.upstream (f : Forme) : List Nat → Option Nat
  | [] => none
  | r :: rs =>
    match f.upstream rs with
    | none => some r
    | some q => if f.dR r ≤ f.dR q then some r else some q
/-- The most downstream row of a list: the largest D_r. -/
def Forme.downstream (f : Forme) : List Nat → Option Nat
  | [] => none
  | r :: rs =>
    match f.downstream rs with
    | none => some r
    | some q => if f.dR q < f.dR r then some r else some q
/-- The lowest-numbered plane in use (R82). -/
def Forme.leadPlane (f : Forme) : Nat := ((List.range 8).find? (fun c => bit f.geom.planeMask c)).getD 0
/-- A core's section. -/
def Forme.core (f : Forme) (n : Nat) : Option CoreCfg := f.cores.find? (fun c => c.core == n)
/-- A core's role; a core without a section is IDLE (R40). -/
def Forme.role (f : Forme) (n : Nat) : Nat := match f.core n with | some c => c.role | none => 5
/-- A DRAM region by its ID. -/
def Forme.region (f : Forme) (i : Nat) : Option Region := f.dram.regions.find? (fun r => r.id == i)
/-- The line pitch in lines per inch (R42). -/
def Geom.lpiVal (g : Geom) : Nat := 600 * (g.lpi + 1)
/-- The resolution of a plane's input: contone ppi, or PRE_RES (R25, R43). -/
def PlaneCfg.ppi (p : PlaneCfg) : Nat := 300 * 2 ^ (if p.input = 3 then p.preRes else p.input)
/-- Cross-web factor f_x (R25). -/
def PlaneCfg.fx (p : PlaneCfg) : Nat := 1200 / p.ppi
/-- Along-web factor f_y (R25). -/
def Forme.fy (f : Forme) (p : PlaneCfg) : Nat := f.geom.lpiVal / p.ppi
/-- Bytes per contone or code line W_c (R68). -/
def Forme.wc (f : Forme) (p : PlaneCfg) : Nat :=
  let px := (f.geom.wImg + p.fx - 1) / p.fx
  if p.input = 3 then (px * p.dropBits + 7) / 8 else px
/-- A row fires every line, or the lines of its parity in DUPLEX (R18, R20): the distance between its lines. -/
def Forme.rowStep (f : Forme) (r : Nat) : Nat :=
  match f.plane (r / 2) with | some p => if p.rowMode = 2 then 2 else 1 | none => 1
/-- The first line a row fires at or after a line (R20, R27). -/
def Forme.rowLine (f : Forme) (r : Nat) (s : Int) : Int :=
  if f.rowStep r = 2 then (if s % 2 = (r % 2 : Nat) then s else s + 1) else s

/-! ### Ownership (R48, R354, R363) -/

/-- The owner of a resource: HC0 with no forme or no record; none for the queue of a plane not in use (R80). -/
def Dev.owner (d : Dev) (cls idx : Nat) : Option Nat :=
  match d.forme with
  | none => some 0
  | some f =>
    if cls = 0 && !(bit f.geom.planeMask idx) then none
    else
      match f.own.find? (fun o => o.cls == cls && decide (o.first ≤ idx) && decide (idx < o.first + o.count)) with
      | some o => some o.owner
      | none => some 0

/-- The attachment of a context: 0 PE0, 1 PE1, 2 EN0, 3 EN1, none unbound. With no forme HC0 has PE0 and EN0 (R354):
what the device itself sends goes to EN0 while a peer is latched there (log entry 6). -/
def Dev.attach (d : Dev) (h : Nat) : Option Nat :=
  match d.forme with
  | none => if h = 0 then (if (d.ctx 0).peer.isSome then some 2 else some 0) else none
  | some f =>
    let b := f.bind.getD h 0xFF
    if b ≤ 3 then some b else none

/-- The contexts bound to a port (R354). -/
def Dev.boundTo (d : Dev) (h a : Nat) : Bool :=
  match d.forme with
  | none => h == 0 && (a == 0 || a == 2)
  | some f => f.bind.getD h 0xFF == a

/-- The contexts that are bound. -/
def Dev.boundCtxs (d : Dev) : List Nat := (List.range 4).filter (fun h => (d.attach h).isSome)

/-- The context whose window a writer sees and for which it acts: a core's lending context (R298, R481). -/
def Dev.actsFor (d : Dev) (w : Writer) : Nat :=
  match w with
  | .host h => h
  | .core n => (d.owner 8 n).getD 0

/-- The context whose private registers a writer sees: a core of no OEM role sees HC0's window (R481). -/
def Dev.window (d : Dev) (w : Writer) : Nat :=
  match w with
  | .host h => h
  | .core n =>
    match d.forme with
    | some f => if f.role n = 4 then (d.owner 8 n).getD 0 else 0
    | none => 0

/-- A writer has the rights of a context: the context itself, or an OEM core it lends (R298). -/
def Dev.speaksFor (d : Dev) (w : Writer) (h : Nat) : Bool :=
  match w with
  | .host g => g == h
  | .core n =>
    match d.forme with
    | some f => f.role n == 4 && d.owner 8 n == some h
    | none => false

/-- The source half-word of a writer's rejections (R472). -/
def Writer.source (w : Writer) : Nat :=
  match w with
  | .host h => 0x0100 + h
  | .core n => 0x0E00 + n

/-! ### Host memory, datagrams and interrupts (R359 to R366) -/

/-- A datagram's bytes (R359). -/
def datagram (op ctx flags : Nat) (seq ack : Word) (addr tag : Nat) (body : List Byte) : List Byte :=
  let h := leBytes 2 0x594C ++ leBytes 1 0x10 ++ leBytes 1 op ++ leBytes 1 ctx ++ leBytes 1 flags
    ++ leBytes 2 body.length ++ leBytes 4 seq.toNat ++ leBytes 4 ack.toNat ++ leBytes 8 addr ++ leBytes 4 tag
    ++ leBytes 4 0 ++ body
  h ++ leBytes 4 (crc32c h).toNat

/-- The Ethernet port of a context's attachment. -/
def Dev.enPort (d : Dev) (h : Nat) : Option Nat :=
  match d.attach h with
  | some 2 => some 0
  | some 3 => some 1
  | _ => none

/-- A datagram to a context's peer: numbered, kept until acknowledged, at most 64 unacknowledged (R362). -/
def Dev.sendNumbered (d : Dev) (h op addr tag : Nat) (body : List Byte) : Dev :=
  let c := d.ctx h
  match c.peer, d.enPort h with
  | some (ip, pt), some q =>
    let bs := datagram op h 0 c.nextOut c.expect addr tag body
    let c := { c with nextOut := c.nextOut + 1 }
    if c.unacked.length < 64 then
      let u : Unacked := { seq := c.nextOut - 1, bytes := bs, sends := 1, sentAt := d.now }
      ((d.setCtx h { c with unacked := c.unacked ++ [u] }).emit (.datagram q ip pt bs)).count (608 + 8 * h + 7) 1
    else d.setCtx h { c with waiting := c.waiting ++ [bs] }
  | _, _ => d

/-- The device can reach a context's host memory: over PCIe, or over Ethernet with a peer latched (R361). -/
def Dev.hostReachable (d : Dev) (h : Nat) : Bool :=
  match d.attach h with
  | some a => if a ≤ 1 then true else (d.ctx h).peer.isSome
  | none => false

/-- WR_DATA datagrams of at most 8,192 bytes each (R360). -/
def Dev.sendWrites (d : Dev) (h addr : Nat) : List (List Byte) → Dev
  | [] => d
  | b :: bs => (d.sendNumbered h 0x91 addr 0 b).sendWrites h (addr + b.length) bs

/-- A write into a context's host memory. -/
def Dev.hostWrite (d : Dev) (h addr : Nat) (bs : List Byte) : Dev :=
  match d.enPort h with
  | some _ => d.sendWrites h addr (chunks 8192 bs)
  | none => d.emit (.hostWrite h addr bs)

/-- RD_REQ datagrams for `n` bytes, at most 8,192 each; the tag's upper bits are not stated (R360). -/
def Dev.sendReads (d : Dev) (h addr n : Nat) : Nat → Dev
  | 0 => d
  | fuel + 1 =>
    if n = 0 then d
    else
      let k := min n 8192
      let (x, d) := d.takeFree
      let tag := k + 16384 * (x % 262144)
      let c := d.ctx h
      let d := (d.setCtx h { c with reads := c.reads ++ [BitVec.ofNat 32 tag] }).sendNumbered h 0x90 addr tag []
      d.sendReads h (addr + k) (n - k) fuel

/-- The device asks a context's host for memory: the bytes come with the command that uses them (log entry 36). -/
def Dev.hostRead (d : Dev) (h addr n : Nat) : Dev :=
  match d.enPort h with
  | some _ => if (d.ctx h).peer.isSome then d.sendReads h addr n (n / 8192 + 1) else d
  | none => if (d.attach h).isSome then d.emit (.hostRead h addr n) else d

/-- Bits of HOST_IRQ_MOD: GAP in ps and COUNT (R366, R378). -/
def Dev.irqGap (d : Dev) (h : Nat) : Nat := fld (d.regOf h 0x010048) 0 16 * 1000000
def Dev.irqCount (d : Dev) (h : Nat) : Nat := fld (d.regOf h 0x010048) 16 8

/-- A source's signal is sent now: the MSI-X message under its mask, or one IRQ datagram (R366). -/
def Dev.sendIrq (d : Dev) (h : Nat) (srcs : List Nat) : Dev :=
  match d.enPort h with
  | some _ =>
    d.sendNumbered h 0x92 0 0 (leBytes 4 ((srcs.map (fun s => 2 ^ s)).sum))
  | none =>
    srcs.foldl (fun d s =>
      let vec := fld (d.regOf h (0x010080 + 4 * s)) 0 5
      if flag (d.regOf h (0x01100C + 16 * vec)) 0 then
        d.setRegOf h 0x011200 (setFlag (d.regOf h 0x011200) vec true)
      else (d.emit (.msix h vec)).count (608 + 8 * h + 5) 1) d

/-- Interrupt source `s` of context `h` fires (R366): its pending bit is set; when mapped and enabled it signals now,
or at the end of the gap, or when a peer is latched again (R361). -/
def Dev.fireIrq (d : Dev) (h s : Nat) : Dev :=
  let d := d.setRegOf h 0x01004C (setFlag (d.regOf h 0x01004C) s true)
  if flag (d.regOf h (0x010080 + 4 * s)) 31 then
    let c := d.ctx h
    let last := Sparse.get (fun _ => 0) c.lastIrq s
    if (last ≠ 0 && decide (d.now < last + d.irqGap h)) || !(d.hostReachable h) then
      d.setCtx h { c with held := if c.held.contains s then c.held else c.held ++ [s] }
    else
      (d.setCtx h { c with
        lastIrq := Sparse.set (fun _ => 0) c.lastIrq s (d.now + 1),
        unann := if s = 0 then 0 else c.unann }).sendIrq h [s]
  else d

/-! ### Events (R365, R472, R473) -/

/-- The 32 bytes of an event record (R365). -/
def eventBytes (code src : Nat) (seq : Word) (p : Int) (sec : Nat) (nsw w6 w7 : Word) : List Byte :=
  leBytes 2 code ++ leBytes 2 src ++ leBytes 4 seq.toNat ++ leBytes 4 (low32 p).toNat ++ leBytes 4 (high32 p).toNat
    ++ leBytes 4 sec ++ leBytes 4 nsw.toNat ++ leBytes 4 w6.toNat ++ leBytes 4 w7.toNat

/-- An event record for one context, at a web position: it takes the context's next sequence number; it is written
and counted, or dropped and counted (R365). -/
def Dev.raiseAt (d : Dev) (h : Nat) (p : Int) (code src : Nat) (w6 w7 : Word) : Dev :=
  let c := d.ctx h
  let seq := c.evSeq
  let d := d.setCtx h { c with evSeq := seq + 1 }
  let size := 2 ^ fld (d.regOf h 0x010018) 0 5
  let widx := d.regOf h 0x01001C
  let used := (widx - d.regOf h 0x010020).toNat
  if !(flag (d.regOf h 0x010004) 0) || decide (size ≤ used) || !(d.hostReachable h) then
    let d := d.setRegOf h 0x010024 (d.regOf h 0x010024 + 1)
    d.setRegOf h 0x010008 (setFlag (d.regOf h 0x010008) 0 true)
  else
    let base := (d.regOf h 0x010010).toNat + (d.regOf h 0x010014).toNat * 4294967296
    let bs := eventBytes code src seq p (d.clockSec % 4294967296) d.clockNsWord w6 w7
    let d := d.hostWrite h (base + 32 * (widx.toNat % size)) bs
    let d := (d.setRegOf h 0x01001C (widx + 1)).count (608 + 8 * h + 3) 1
    let wb := (d.regOf h 0x010028).toNat + (d.regOf h 0x01002C).toNat * 4294967296
    let d := if wb = 0 then d else d.hostWrite h wb (leBytes 4 (widx + 1).toNat)
    let c := d.ctx h
    let d := d.setCtx h { c with unann := c.unann + 1, oldest := if c.unann = 0 then d.now else c.oldest }
    if d.irqCount h ≤ c.unann + 1 then d.fireIrq h 0 else d

/-- An event for one context at the present position. -/
def Dev.raiseTo (d : Dev) (h : Nat) (code src : Nat) (w6 w7 : Word) : Dev := d.raiseAt h d.p code src w6 w7

/-- An event for a list of contexts, once each. -/
def Dev.raiseList (d : Dev) (hs : List Nat) (code src : Nat) (w6 w7 : Word) : Dev :=
  hs.eraseDups.foldl (fun d h => d.raiseTo h code src w6 w7) d

/-- An event that goes to every bound context. -/
def Dev.raiseAll (d : Dev) (code src : Nat) (w6 w7 : Word) : Dev := d.raiseList d.boundCtxs code src w6 w7

/-- An event that concerns an owned resource goes to its owner. -/
def Dev.raiseOwner (d : Dev) (cls idx : Nat) (code src : Nat) (w6 w7 : Word) : Dev :=
  match d.owner cls idx with
  | some h => d.raiseTo h code src w6 w7
  | none => d

/-- A bar link. -/
def Dev.bl (d : Dev) (k : Nat) : BarLink := Sparse.get (fun _ => .zero) d.links k
def Dev.setBl (d : Dev) (k : Nat) (b : BarLink) : Dev := { d with links := Sparse.set (fun _ => .zero) d.links k b }

end Sys2Proof.Machine
end

