-- ==== Sys2Proof/Machine/CoreBase.lean ====
section
/-!
DEFINITION. The cores' state and the deliveries other blocks make to them: signals (R309), policy blocks (R316).
-/
namespace Sys2Proof.Machine

/-- TW_STATUS.STATE (R385). -/
def Dev.twState (d : Dev) : Nat := fld (d.reg 0x110004) 0 4

/-- The unit is in a watch state: its print path, pipelines and CC1 to CC7 are powered down, and it raises no print
events (R389). -/
def Dev.watching (d : Dev) : Bool :=
  let st := d.twState
  (decide (4 ≤ st) && decide (st ≤ 7)) || (st == 9 && d.tw.claimed.isEmpty)

/-- A control core. -/
def Dev.core (d : Dev) (n : Nat) : Core := Sparse.get (fun _ => .zero) d.cc.cores n
def Dev.setCore (d : Dev) (n : Nat) (c : Core) : Dev :=
  { d with cc := { d.cc with cores := Sparse.set (fun _ => .zero) d.cc.cores n c } }

/-- The WAIT and halt counters of a core brought up to date (R320, R323): a core in WATCH, unpowered, holds them (R322). -/
def Dev.settleCore (d : Dev) (n : Nat) : Dev :=
  let c := d.core n
  let us := d.now / 1000000 - c.since / 1000000
  let d := d.setCore n { c with since := d.now }
  match c.st with
  | .waiting => d.count (16 * n + 4) us
  | .halted | .fault => d.count (16 * n + 5) us
  | _ => d

/-- A core's run state changes. -/
def Dev.setCoreSt (d : Dev) (n : Nat) (st : CoreSt) : Dev :=
  let d := d.settleCore n
  d.setCore n { d.core n with st := st }

/-- What a byte of the cores' memories that nothing has written reads as (R465). -/
def sramDefault (_ : Nat) : Byte := 0

/-- Signal bit `b` of a core is set (R309). -/
def Dev.signalCore (d : Dev) (n b : Nat) : Dev :=
  let c := d.core n
  d.setCore n { c with csr := { c.csr with sig := setFlag c.csr.sig b true } }

/-- Bytes written into shared memory at an offset (R300). -/
def Dev.sharedWrite (d : Dev) (off : Nat) (bs : List Byte) : Dev :=
  { d with cc := { d.cc with shared := Sparse.setList sramDefault d.cc.shared off bs } }

/-- HK_THROTTLE's STATE and causes (R442): bit 0 LEAD, bit 1 HEAT, bit 2 POLICY. -/
def Dev.thState (d : Dev) : Nat := fld (d.reg 0x130010) 0 2
def Dev.thCauses (d : Dev) : Nat := fld (d.reg 0x130010) 5 3

/-- Grace time is counted up to now: while an ask cause holds and the web moves, or HEAT or POLICY holds (R438). -/
def Dev.graceCount (d : Dev) : Dev :=
  let run := d.thCauses != 0 && (!d.fir.stopped || 2 ≤ d.thCauses)
  { d with hk := { d.hk with grace := if run then d.hk.grace + (d.now - d.hk.graceAt) else d.hk.grace, graceAt := d.now } }

end Sys2Proof.Machine
end

