-- ==== Sys2Proof/Machine/Crypto.lean ====
section
/-!
DEFINITION. The two cryptographic functions the forme rules name: SHA-256 (R37, R39) and Ed25519 verification by
RFC 8032 (R37, R38), with the SHA-512 it uses. The algorithms are taken from their published standards (log entry 2).
-/
namespace Sys2Proof.Machine

/-- Round constants of SHA-256, part 0. -/
def sha256K0 : List (BitVec 32) := [
  0x428A2F98, 0x71374491, 0xB5C0FBCF, 0xE9B5DBA5, 0x3956C25B, 0x59F111F1, 0x923F82A4, 0xAB1C5ED5,
  0xD807AA98, 0x12835B01, 0x243185BE, 0x550C7DC3, 0x72BE5D74, 0x80DEB1FE, 0x9BDC06A7, 0xC19BF174]

/-- Round constants of SHA-256, part 1. -/
def sha256K1 : List (BitVec 32) := [
  0xE49B69C1, 0xEFBE4786, 0x0FC19DC6, 0x240CA1CC, 0x2DE92C6F, 0x4A7484AA, 0x5CB0A9DC, 0x76F988DA,
  0x983E5152, 0xA831C66D, 0xB00327C8, 0xBF597FC7, 0xC6E00BF3, 0xD5A79147, 0x06CA6351, 0x14292967]

/-- Round constants of SHA-256, part 2. -/
def sha256K2 : List (BitVec 32) := [
  0x27B70A85, 0x2E1B2138, 0x4D2C6DFC, 0x53380D13, 0x650A7354, 0x766A0ABB, 0x81C2C92E, 0x92722C85,
  0xA2BFE8A1, 0xA81A664B, 0xC24B8B70, 0xC76C51A3, 0xD192E819, 0xD6990624, 0xF40E3585, 0x106AA070]

/-- Round constants of SHA-256, part 3. -/
def sha256K3 : List (BitVec 32) := [
  0x19A4C116, 0x1E376C08, 0x2748774C, 0x34B0BCB5, 0x391C0CB3, 0x4ED8AA4A, 0x5B9CCA4F, 0x682E6FF3,
  0x748F82EE, 0x78A5636F, 0x84C87814, 0x8CC70208, 0x90BEFFFA, 0xA4506CEB, 0xBEF9A3F7, 0xC67178F2]

/-- Round constants of SHA-256. -/
def sha256K : List (BitVec 32) := sha256K0 ++ sha256K1 ++ sha256K2 ++ sha256K3

/-- Initial hash words of SHA-256. -/
def sha256Init : List (BitVec 32) := [
  0x6A09E667, 0xBB67AE85, 0x3C6EF372, 0xA54FF53A,
  0x510E527F, 0x9B05688C, 0x1F83D9AB, 0x5BE0CD19]

/-- The next word of the message schedule, from the words so far, newest first. -/
def sha256Next (ws : List (BitVec 32)) : BitVec 32 :=
  let w15 := ws.getD 14 0
  let w2 := ws.getD 1 0
  ws.getD 15 0 + (w15.rotateRight 7 ^^^ w15.rotateRight 18 ^^^ (w15 >>> 3))
    + ws.getD 6 0 + (w2.rotateRight 17 ^^^ w2.rotateRight 19 ^^^ (w2 >>> 10))

/-- The message schedule grown by `n` words, newest first. -/
def sha256Grow : Nat → List (BitVec 32) → List (BitVec 32)
  | 0, ws => ws
  | n + 1, ws => sha256Grow n (sha256Next ws :: ws)

/-- One round on the eight working words. -/
def sha256Round (v : List (BitVec 32)) (kw : BitVec 32 × BitVec 32) : List (BitVec 32) :=
  match v with
  | [a, b, c, d, e, f, g, h] =>
    let t1 := h + (e.rotateRight 6 ^^^ e.rotateRight 11 ^^^ e.rotateRight 25)
      + ((e &&& f) ^^^ (~~~ e &&& g)) + kw.1 + kw.2
    let t2 := (a.rotateRight 2 ^^^ a.rotateRight 13 ^^^ a.rotateRight 22)
      + ((a &&& b) ^^^ (a &&& c) ^^^ (b &&& c))
    [t1 + t2, a, b, c, d + t1, e, f, g]
  | v => v

/-- The hash words after one block of 64 bytes. -/
def sha256Block (h : List (BitVec 32)) (blk : List Byte) : List (BitVec 32) :=
  let ws := (chunks 4 blk).map (fun b => BitVec.ofNat 32 (beNat b))
  let sched := (sha256Grow 48 ws.reverse).reverse
  List.zipWith (· + ·) h ((sha256K.zip sched).foldl sha256Round h)

/-- The message with its padding. -/
def sha256Pad (m : List Byte) : List Byte :=
  let z := (64 - (m.length + 1 + 8) % 64) % 64
  m ++ 0x80#8 :: (List.replicate z 0#8 ++ beBytes 8 (m.length * 8))

/-- SHA-256 of a byte string: 32 bytes. -/
def sha256 (m : List Byte) : List Byte :=
  ((chunks 64 (sha256Pad m)).foldl sha256Block sha256Init).flatMap (fun w => beBytes 4 w.toNat)

/-- Round constants of SHA-512, part 0. -/
def sha512K0 : List (BitVec 64) := [
  0x428A2F98D728AE22, 0x7137449123EF65CD, 0xB5C0FBCFEC4D3B2F, 0xE9B5DBA58189DBBC,
  0x3956C25BF348B538, 0x59F111F1B605D019, 0x923F82A4AF194F9B, 0xAB1C5ED5DA6D8118,
  0xD807AA98A3030242, 0x12835B0145706FBE, 0x243185BE4EE4B28C, 0x550C7DC3D5FFB4E2,
  0x72BE5D74F27B896F, 0x80DEB1FE3B1696B1, 0x9BDC06A725C71235, 0xC19BF174CF692694]

/-- Round constants of SHA-512, part 1. -/
def sha512K1 : List (BitVec 64) := [
  0xE49B69C19EF14AD2, 0xEFBE4786384F25E3, 0x0FC19DC68B8CD5B5, 0x240CA1CC77AC9C65,
  0x2DE92C6F592B0275, 0x4A7484AA6EA6E483, 0x5CB0A9DCBD41FBD4, 0x76F988DA831153B5,
  0x983E5152EE66DFAB, 0xA831C66D2DB43210, 0xB00327C898FB213F, 0xBF597FC7BEEF0EE4,
  0xC6E00BF33DA88FC2, 0xD5A79147930AA725, 0x06CA6351E003826F, 0x142929670A0E6E70]

/-- Round constants of SHA-512, part 2. -/
def sha512K2 : List (BitVec 64) := [
  0x27B70A8546D22FFC, 0x2E1B21385C26C926, 0x4D2C6DFC5AC42AED, 0x53380D139D95B3DF,
  0x650A73548BAF63DE, 0x766A0ABB3C77B2A8, 0x81C2C92E47EDAEE6, 0x92722C851482353B,
  0xA2BFE8A14CF10364, 0xA81A664BBC423001, 0xC24B8B70D0F89791, 0xC76C51A30654BE30,
  0xD192E819D6EF5218, 0xD69906245565A910, 0xF40E35855771202A, 0x106AA07032BBD1B8]

/-- Round constants of SHA-512, part 3. -/
def sha512K3 : List (BitVec 64) := [
  0x19A4C116B8D2D0C8, 0x1E376C085141AB53, 0x2748774CDF8EEB99, 0x34B0BCB5E19B48A8,
  0x391C0CB3C5C95A63, 0x4ED8AA4AE3418ACB, 0x5B9CCA4F7763E373, 0x682E6FF3D6B2B8A3,
  0x748F82EE5DEFB2FC, 0x78A5636F43172F60, 0x84C87814A1F0AB72, 0x8CC702081A6439EC,
  0x90BEFFFA23631E28, 0xA4506CEBDE82BDE9, 0xBEF9A3F7B2C67915, 0xC67178F2E372532B]

/-- Round constants of SHA-512, part 4. -/
def sha512K4 : List (BitVec 64) := [
  0xCA273ECEEA26619C, 0xD186B8C721C0C207, 0xEADA7DD6CDE0EB1E, 0xF57D4F7FEE6ED178,
  0x06F067AA72176FBA, 0x0A637DC5A2C898A6, 0x113F9804BEF90DAE, 0x1B710B35131C471B,
  0x28DB77F523047D84, 0x32CAAB7B40C72493, 0x3C9EBE0A15C9BEBC, 0x431D67C49C100D4C,
  0x4CC5D4BECB3E42B6, 0x597F299CFC657E2A, 0x5FCB6FAB3AD6FAEC, 0x6C44198C4A475817]

/-- Round constants of SHA-512. -/
def sha512K : List (BitVec 64) := sha512K0 ++ sha512K1 ++ sha512K2 ++ sha512K3 ++ sha512K4

/-- Initial hash words of SHA-512. -/
def sha512Init : List (BitVec 64) := [
  0x6A09E667F3BCC908, 0xBB67AE8584CAA73B, 0x3C6EF372FE94F82B, 0xA54FF53A5F1D36F1,
  0x510E527FADE682D1, 0x9B05688C2B3E6C1F, 0x1F83D9ABFB41BD6B, 0x5BE0CD19137E2179]

/-- The next word of the message schedule, from the words so far, newest first. -/
def sha512Next (ws : List (BitVec 64)) : BitVec 64 :=
  let w15 := ws.getD 14 0
  let w2 := ws.getD 1 0
  ws.getD 15 0 + (w15.rotateRight 1 ^^^ w15.rotateRight 8 ^^^ (w15 >>> 7))
    + ws.getD 6 0 + (w2.rotateRight 19 ^^^ w2.rotateRight 61 ^^^ (w2 >>> 6))

/-- The message schedule grown by `n` words, newest first. -/
def sha512Grow : Nat → List (BitVec 64) → List (BitVec 64)
  | 0, ws => ws
  | n + 1, ws => sha512Grow n (sha512Next ws :: ws)

/-- One round on the eight working words. -/
def sha512Round (v : List (BitVec 64)) (kw : BitVec 64 × BitVec 64) : List (BitVec 64) :=
  match v with
  | [a, b, c, d, e, f, g, h] =>
    let t1 := h + (e.rotateRight 14 ^^^ e.rotateRight 18 ^^^ e.rotateRight 41)
      + ((e &&& f) ^^^ (~~~ e &&& g)) + kw.1 + kw.2
    let t2 := (a.rotateRight 28 ^^^ a.rotateRight 34 ^^^ a.rotateRight 39)
      + ((a &&& b) ^^^ (a &&& c) ^^^ (b &&& c))
    [t1 + t2, a, b, c, d + t1, e, f, g]
  | v => v

/-- The hash words after one block of 128 bytes. -/
def sha512Block (h : List (BitVec 64)) (blk : List Byte) : List (BitVec 64) :=
  let ws := (chunks 8 blk).map (fun b => BitVec.ofNat 64 (beNat b))
  let sched := (sha512Grow 64 ws.reverse).reverse
  List.zipWith (· + ·) h ((sha512K.zip sched).foldl sha512Round h)

/-- The message with its padding. -/
def sha512Pad (m : List Byte) : List Byte :=
  let z := (128 - (m.length + 1 + 16) % 128) % 128
  m ++ 0x80#8 :: (List.replicate z 0#8 ++ beBytes 16 (m.length * 8))

/-- SHA-512 of a byte string: 64 bytes. -/
def sha512 (m : List Byte) : List Byte :=
  ((chunks 128 (sha512Pad m)).foldl sha512Block sha512Init).flatMap (fun w => beBytes 8 w.toNat)

/-- The field prime of edwards25519. -/
def edP : Nat := 2 ^ 255 - 19
/-- The order of its base point. -/
def edL : Nat := 2 ^ 252 + 27742317777372353535851937790883648493
/-- The curve constant d. -/
def edD : Nat := 0x52036cee2b6ffe738cc740797779e89800700a4d4141d8ab75eb4dca135978a3
/-- A square root of -1. -/
def edI : Nat := 0x2b8324804fc1df0b2b4d00993dfbd7a72f431806ad2fe478c4ee1b274a0ea0b0
/-- The base point. -/
def edB : Nat × Nat := (0x216936d3cd6e53fec0a4e231fdd6dc5c692cc7609525a7b2c9562d608f25d51a,
  0x6666666666666666666666666666666666666666666666666666666666666658)

/-- b^e modulo the field prime, over `fuel` bits of the exponent. -/
def edPow : Nat → Nat → Nat → Nat
  | 0, _, _ => 1
  | fuel + 1, b, e =>
    let r := edPow fuel (b * b % edP) (e / 2)
    if e % 2 = 1 then r * b % edP else r

/-- A point in extended coordinates (X, Y, Z, T). -/
structure EdPoint where
  x : Nat
  y : Nat
  z : Nat
  t : Nat
deriving DecidableEq, Repr

/-- Addition of two points. -/
def edAdd (a b : EdPoint) : EdPoint :=
  let aa := (a.y + edP - a.x) * (b.y + edP - b.x) % edP
  let bb := (a.y + a.x) * (b.y + b.x) % edP
  let cc := 2 * a.t * b.t % edP * edD % edP
  let dd := 2 * a.z * b.z % edP
  let e := (bb + edP - aa) % edP
  let f := (dd + edP - cc) % edP
  let g := (dd + cc) % edP
  let h := (bb + aa) % edP
  { x := e * f % edP, y := g * h % edP, z := f * g % edP, t := e * h % edP }

/-- A multiple of a point, over `fuel` bits. -/
def edMul : Nat → Nat → EdPoint → EdPoint
  | 0, _, _ => { x := 0, y := 1, z := 1, t := 0 }
  | fuel + 1, n, q =>
    let r := edMul fuel (n / 2) (edAdd q q)
    if n % 2 = 1 then edAdd r q else r

/-- Two points are the same point. -/
def edEq (a b : EdPoint) : Bool :=
  a.x * b.z % edP == b.x * a.z % edP && a.y * b.z % edP == b.y * a.z % edP

/-- The x coordinate of a point from its y and its sign bit. -/
def edRecover (y sign : Nat) : Option Nat :=
  if edP ≤ y then none
  else
    let u := (y * y + edP - 1) % edP
    let v := (edD * (y * y % edP) + 1) % edP
    let x2 := u * edPow 256 v (edP - 2) % edP
    if x2 = 0 then (if sign = 1 then none else some 0)
    else
      let x := edPow 256 x2 ((edP + 3) / 8)
      let x := if x * x % edP = x2 then x else x * edI % edP
      if x * x % edP ≠ x2 then none
      else some (if x % 2 = sign then x else edP - x)

/-- The point that 32 bytes spell. -/
def edDecode (bs : List Byte) : Option EdPoint :=
  let n := leNat bs
  let y := n % 2 ^ 255
  (edRecover y (n / 2 ^ 255)).map (fun x => { x := x, y := y, z := 1, t := x * y % edP })

/-- Ed25519 verification of a 64-byte signature over a message under a 32-byte public key (RFC 8032, R38). -/
def ed25519Verify (pub msg sig : List Byte) : Bool :=
  let rb := sig.take 32
  let s := leNat (slice sig 32 32)
  match edDecode pub, edDecode rb with
  | some a, some r =>
    if edL ≤ s then false
    else
      let k := leNat (sha512 (rb ++ pub ++ msg)) % edL
      let base : EdPoint := { x := edB.1, y := edB.2, z := 1, t := edB.1 * edB.2 % edP }
      edEq (edMul 256 s base) (edAdd r (edMul 256 k a))
  | _, _ => false

end Sys2Proof.Machine
end

