-- ==== Sys2Proof/Machine/Seams.lean ====
section
/-!
DEFINITION. Seams (R26 to R31): where an update is bound, what is in force for a line, and how a row applies an
update. Nozzle batches (R136 to R138), registration batches (R186, R187), DREF batches (R284), LIVE images (R62),
rungs (R117) and the hand-over (R403) all pass through here.
-/
namespace Sys2Proof.Machine

/-- The line a row has last begun to prepare; a job begins at its first line (log entry 7). -/
def Dev.prep (d : Dev) (r : Nat) : Int := Sparse.get (fun _ => d.job.first - 1) d.job.prep r
def Dev.setPrep (d : Dev) (r : Nat) (s : Int) : Dev :=
  { d with job := { d.job with prep := Sparse.set (fun _ => d.job.first - 1) d.job.prep r s } }

/-- A drive-reference output. -/
def Dev.drefRow (d : Dev) (r : Nat) : DrefRow := Sparse.get (fun _ => .zero) d.dref r
def Dev.setDrefRow (d : Dev) (r : Nat) (x : DrefRow) : Dev := { d with dref := Sparse.set (fun _ => .zero) d.dref r x }

/-! ### Repeats -/

/-- The line after a repeat's gutter: where the next repeat starts (R24). -/
def Repeat.stop (r : Repeat) : Int := r.b + r.n + r.g

/-- Where the next repeat to commit is planned to start (R24, R83). -/
def JobDev.nextB (j : JobDev) : Int := match j.reps.getLast? with | some r => r.stop | none => 0

/-- The line of a seam as it stands now (R28); none for the start of a repeat that has not committed. -/
def JobDev.seamLine (j : JobDev) : SeamRef → Option Int
  | .line s => some s
  | .repStart k _ => (j.reps[k]?).map (·.b)

/-- The line a bound seam is reported at (R28). -/
def SeamRef.reported : SeamRef → Int
  | .line s => s
  | .repStart _ b => b

/-- A seam is one seam whatever the reasons: two references to the same line are the same seam (R26). -/
def JobDev.sameSeam (j : JobDev) (a b : SeamRef) : Bool :=
  match j.seamLine a, j.seamLine b with
  | some x, some y => x == y
  | none, none => a == b
  | _, _ => false

/-- No row of a list has yet begun to prepare the seam at a line (R27, R28). -/
def Dev.unbegun (d : Dev) (f : Forme) (rows : List Nat) (s : Int) : Bool :=
  rows.all (fun r => decide (d.prep r < f.rowLine r s))

/-- The earliest committed repeat start after the first that no row of the list has begun, from repeat k on. -/
def Dev.nextRepStart (d : Dev) (f : Forme) (rows : List Nat) : Nat → List Repeat → Option SeamRef
  | _, [] => none
  | k, r :: rs => if 1 ≤ k && d.unbegun f rows r.b then some (.repStart k r.b) else d.nextRepStart f rows (k + 1) rs

/-- The earliest seam at a repeat start (R26): a committed one, or the start of the repeat yet to commit. -/
def Dev.repSeam (d : Dev) (f : Forme) (rows : List Nat) : Option SeamRef :=
  match d.nextRepStart f rows 0 d.job.reps with
  | some s => some s
  | none => if d.job.stop then none else some (.repStart d.job.reps.length d.job.nextB)

/-- The earliest multiple of the seam interval that no row of the list has begun (R26). -/
def Dev.intervalSeam (d : Dev) (f : Forme) (rows : List Nat) : Int :=
  let i : Int := 2 ^ f.geom.seamLog2
  let m := (rows.map (fun r => d.prep r)).foldl max 0
  let c := (m / i) * i
  if 0 < c && d.unbegun f rows c then c else c + i

/-- The earliest seam for an update that affects a list of rows (R26, R28). -/
def Dev.nextSeam (d : Dev) (f : Forme) (rows : List Nat) : Option SeamRef :=
  let rep := d.repSeam f rows
  if f.geom.seamMode = 1 then
    let c := d.intervalSeam f rows
    match rep with
    | some (.repStart k b) => if b ≤ c then some (.repStart k b) else some (.line c)
    | _ => some (.line c)
  else rep

/-- A line a host or core names for a stopped web (R26): resolved against the line the most upstream affected row is
preparing, and taken if no affected row has begun it. -/
def Dev.namedSeam (d : Dev) (f : Forme) (rows : List Nat) (w : Word) : Option SeamRef :=
  match f.upstream rows with
  | some r =>
    let s := resolveLine (d.prep r) w
    if d.fir.stopped && d.unbegun f rows s then some (.line s) else none
  | none => none

/-! ### Updates in flight (R29) -/

/-- Every affected row has applied the update. -/
def Update.rowsDone (u : Update) : Bool := u.rows.all (fun r => u.applied.contains r)
/-- It has nothing more to change: rows and planes have all passed. -/
def Update.spent (u : Update) : Bool := u.rowsDone && u.planes.all (fun c => u.planesDone.contains c)
/-- The rows that decide its seam: its own, or those of its batch group (R28, R319). -/
def Update.bindRows (u : Update) : List Nat := if u.group.isEmpty then u.rows else u.group
/-- It is bound and not yet applied by every affected row. -/
def Update.inFlight (u : Update) : Bool := u.seam.isSome && !u.rowsDone

/-- The distinct seams that carry an update in flight. -/
def Dev.seamsInFlight (d : Dev) : List SeamRef :=
  (d.ups.filter Update.inFlight).foldl (fun acc u =>
    match u.seam with
    | some s => if acc.any (d.job.sameSeam s) then acc else acc ++ [s]
    | none => acc) []

/-- A seam is free of the limit of 32 (R29). -/
def Dev.seamFree (d : Dev) (s : SeamRef) : Bool :=
  let l := d.seamsInFlight
  l.any (d.job.sameSeam s) || decide (l.length < 32)

/-- Records an update holds in its staging store. -/
def Payload.records : Payload → Nat
  | .nozzle rs => rs.length
  | .reg rs => rs.length
  | .dref rs => rs.length
  | _ => 0

/-- An update brings matrices (R102). -/
def Payload.hasMats : Payload → Bool
  | .live l _ _ => l.screen.any (fun b => b.kind == 0)
  | _ => false

/-- Updates of a block not yet applied by every affected row: NZ_INFLIGHT, FIR_INFLIGHT, LOOP_INFLIGHT, LIVE_INFLIGHT. -/
def Dev.inflight (d : Dev) (block : Nat) : List Update :=
  d.ups.filter (fun u => u.block == block && !u.rowsDone)

/-- Staging records in use in a block's store (R137, R187, R284). -/
def Dev.staged (d : Dev) (block : Nat) : Nat := ((d.inflight block).map (fun u => u.payload.records)).sum

/-- Records free in the nozzle, registration and DREF staging stores. -/
def Dev.nzFree (d : Dev) : Nat := 131072 - d.staged 0x07
def Dev.firFree (d : Dev) : Nat := 8192 - d.staged 0x09
def Dev.drefFree (d : Dev) : Nat := 256 - d.staged 0x0D

/-! ### Nozzle words (R121 to R124, R136) -/

/-- The blank nozzle word (R123). -/
def blankWord : Word := 0x04000400
/-- What an unlisted nozzle word reads as. -/
def nzDefault (_ : Nat) : Word := blankWord
/-- What an unlisted head word reads as. -/
def nzHeadDefault (_ : Nat) : Word := 0x00000400

/-- A nozzle word after one record: the fields its SEL names are taken from its value (R136). -/
def nzMerge (old : Word) (sel : Nat) (v : Word) : Word :=
  let m : Word := (if bit sel 0 then 0x00000FFF else 0) ||| (if bit sel 1 then 0x000FF000 else 0)
    ||| (if bit sel 2 then 0x07F00000 else 0) ||| (if bit sel 3 then 0x38000000 else 0)
    ||| (if bit sel 4 then 0x80000000 else 0)
  (old &&& ~~~ m) ||| (v &&& m)

/-- The head slot a record's index belongs to (R121, R122). -/
def nzHeadOf (idx : Nat) : Nat := if idx < 0x100000 then idx / 4096 else idx - 0x100000

/-- A word after one record of a batch, if the record is for that index. -/
def nzStep (idx : Nat) (old : Word) (rc : Nat × Word) : Word :=
  if rc.1 % 0x200000 = idx then
    (if idx < 0x100000 then nzMerge old (rc.1 / 0x200000 % 32) rc.2 else rc.2)
  else old

/-- Updates of a payload kind whose seam a line has reached and which a row has not yet applied itself, in seam and
staging order: what is in force for that line over what the row has applied (R27, R30). -/
def Dev.pendingFor (d : Dev) (r : Nat) (s : Int) : List Update :=
  let l := d.ups.filterMap (fun u =>
    match u.seam.bind d.job.seamLine with
    | some x => if u.rows.contains r && !(u.applied.contains r) && decide (x ≤ s) then some (x, u) else none
    | none => none)
  (sortBy (fun a => a.1) l).map (·.2)

/-- The word in force for an index of row `r`'s heads on line `s` (R124, R140). -/
def Dev.nzWordAt (d : Dev) (r idx : Nat) (s : Int) : Word :=
  let base := if idx < 0x100000 then Sparse.get nzDefault d.nz.table idx
    else Sparse.get nzHeadDefault d.nz.heads (idx - 0x100000)
  (d.pendingFor r s).foldl (fun w u =>
    match u.payload with
    | .nozzle rs => rs.foldl (nzStep idx) w
    | _ => w) base

/-- The points of the identity tone curve (R125). -/
def identityTone : List Nat :=
  (List.range 33).map (fun k => if k = 32 then 65520 else (2 * 65520 * 8 * k + 255) / 510)

/-- The tone curve in force for a head on a line (R54, R62). -/
def Dev.toneAt (d : Dev) (r h : Nat) (s : Int) : List Nat :=
  (d.pendingFor r s).foldl (fun t u =>
    match u.payload with
    | .live l _ _ => (match l.tone.find? (fun x => x.head == h) with | some x => x.points | none => t)
    | _ => t) (Sparse.get (fun _ => identityTone) d.nz.tone h)

/-- A head's placement trim after the XTRIM records of a batch (R183, R186). -/
def xtrimAfter (h : Nat) (x : Int) (rs : List (Word × Word)) : Int :=
  rs.foldl (fun x rc => if fld rc.1 12 4 = 2 && fld rc.1 0 12 = h then signed 13 (fld rc.2 0 13) else x) x

/-- A head's placement trim after a list of updates, in their order. -/
def xtrimThrough (h : Nat) (x : Int) (us : List Update) : Int :=
  us.foldl (fun x u => match u.payload with | .reg rs => xtrimAfter h x rs | _ => x) x

/-- The placement trim in force for a head on a line (R183). -/
def Dev.xtrimAt (d : Dev) (r h : Nat) (s : Int) : Int := xtrimThrough h (d.headFire h).x (d.pendingFor r s)

/-- A record written into the table and head words in force. -/
def NzDev.apply (z : NzDev) (rc : Nat × Word) : NzDev :=
  let idx := rc.1 % 0x200000
  if idx < 0x100000 then
    { z with table := Sparse.set nzDefault z.table idx (nzStep idx (Sparse.get nzDefault z.table idx) rc) }
  else { z with heads := Sparse.set nzHeadDefault z.heads (idx - 0x100000) rc.2 }

/-! ### Applying -/

/-- One registration record taken by row `r` (R182, R183, R186). -/
def Dev.applyReg (d : Dev) (f : Forme) (r : Nat) (rc : Word × Word) : Dev :=
  let i := fld rc.1 0 12
  match fld rc.1 12 4 with
  | 0 => if i = r then (let x := d.rowFire r; d.setRowFire r { x with tgt := sgn rc.2, latest := sgn rc.2 }) else d
  | 1 =>
    (match f.head i with
     | some h => if h.row = r then d.setHeadFire i { d.headFire i with tgt := signed 16 (fld rc.2 0 16) } else d
     | none => d)
  | 2 =>
    (match f.head i with
     | some h => if h.row = r then d.setHeadFire i { d.headFire i with x := signed 13 (fld rc.2 0 13) } else d
     | none => d)
  | 4 =>
    (let x := d.rowFire r
     let d := d.setRowFire r { x with anchor := x.anchor + sgn rc.2 }
     if f.upstream f.rowsInUse = some r then { d with fir := { d.fir with anchor := d.fir.anchor + sgn rc.2 } } else d)
  | _ => d

/-- A new stretch gain in force: P continues without a step (R184). -/
def Dev.setGain (d : Dev) (g : Nat) : Dev := { d with fir := { d.fir with gain := g } }

/-- A policy block delivered to its core: written into the half not in force, POLICY_CUR flipped, POLICY_SEQ moved on,
SIG.POLICY set (R316). Blocks of IDLE cores and cores without a section are never delivered (R56). -/
def Dev.deliverPolicy (d : Dev) (f : Forme) (b : PolicyBlk) : Dev :=
  if f.role b.core = 5 then d
  else
    let c := d.core b.core
    let half := 1 - fld c.csr.policyCur 0 1
    let d := d.sharedWrite (0x100000 + 0x20000 * b.core + 0x10000 * half) b.bytes
    let c := { c with csr := { c.csr with
      policyCur := BitVec.ofNat 32 (half + ((b.bytes.length + 15) / 16) * 65536),
      policySeq := c.csr.policySeq + 1 } }
    (d.setCore b.core c).signalCore b.core 1

/-- The device-wide RUN items and POLICY blocks of a LIVE image take effect (R62). -/
def Dev.applyDeviceWide (d : Dev) (f : Forme) (l : LiveCfg) : Dev :=
  let d := match l.run with
    | some r => { d with fm := { d.fm with run := some r } }
    | none => d
  l.policy.foldl (fun d b => d.deliverPolicy f b) d

/-- The row's last line before a seam line (R285). -/
def Forme.lineBefore (f : Forme) (r : Nat) (s : Int) : Int := f.rowLine r s - f.rowStep r

/-- A DREF code given to its row: stepped at its seam instant, or at once (R284, R285). -/
def Dev.applyDref (d : Dev) (r code : Nat) (before : Option Int) : Dev :=
  let x := d.drefRow r
  match before with
  | some s => d.setDrefRow r { x with step := x.step.filter (fun y => y.2 != s) ++ [(code, s)] }
  | none =>
    let d := d.setDrefRow r { x with now := code, step := [], stepT := d.now, last := none }
    if x.drive then d.emit (.dref r (some code)) else d

/-- What row `r` takes of an update it applies (R27). -/
def Dev.applyRow (d : Dev) (f : Forme) (r : Nat) (u : Update) (sl : Option Int) : Dev :=
  match u.payload with
  | .live l _ _ =>
    let d := { d with nz := { d.nz with tone := l.tone.foldl (fun m x =>
      if (match f.head x.head with | some h => h.row == r | none => false)
      then Sparse.set (fun _ => identityTone) m x.head x.points else m) d.nz.tone } }
    if f.upstream f.rowsInUse = some r then d.applyDeviceWide f l else d
  | .nozzle rs =>
    let mine := rs.filter (fun rc =>
      match f.head (nzHeadOf (rc.1 % 0x200000)) with | some h => h.row == r | none => false)
    let d := { d with nz := mine.foldl NzDev.apply d.nz }
    (match d.nz.save with
     | some j => { d with nz := { d.nz with save := some { j with stale := true } } }
     | none => d)
  | .reg rs => rs.foldl (fun d rc => d.applyReg f r rc) d
  | .dref rs => rs.foldl (fun d rc =>
      if rc.1 = r then d.applyDref r rc.2 (sl.map (f.lineBefore r)) else d) d
  | .rungs n =>
    let d := d.setRowFire r { d.rowFire r with rungs := n }
    if f.upstream f.rowsInUse = some r then
      { d with hk := { d.hk with waiting := false, applied := some d.now, base := d.now } }
    else d
  | .handover => d

/-- The EV_SEAM record of an update: detail word 6 its tag, word 7 the line it was applied at (R28, R138; which words
carry them is log entry 8); none in a watch state (R389). -/
def Dev.raiseSeam (d : Dev) (u : Update) (s : Word) : Dev :=
  if d.watching then d else
  d.raiseAll 0x0001 (u.block * 256 + (if u.block = 0x03 then 0 else 0xFF)) (BitVec.ofNat 32 (u.tag % 65536)) s

/-- SEAM_LAST takes the seam the most upstream in-use row has applied, and SIG.SEAM is set (R308, R309). -/
def Dev.noteSeam (d : Dev) (s : Word) : Dev :=
  if d.cc.seamLast = s then d
  else (List.range 8).foldl (fun d n => d.signalCore n 2) { d with cc := { d.cc with seamLast := s } }

/-- Row `r` applies one update bound to the seam line `s` (R27, R28). -/
def Dev.applyOne (d : Dev) (f : Forme) (r : Nat) (u : Update) (s : Int) : Dev :=
  let d := d.applyRow f r u (some s)
  let d := d.setRowFire r { d.rowFire r with seam := low32 s }
  let d := if f.upstream u.rows = some r then d.raiseSeam u (low32 s) else d
  let d := if f.downstream u.rows = some r then d.raiseSeam u (low32 s) else d
  let d := if f.upstream f.rowsInUse = some r then d.noteSeam (low32 s) else d
  { d with ups := d.ups.map (fun v =>
      if v == u then { v with applied := v.applied ++ [r] } else v) }

/-- Every update a row has reached at a line, applied in seam and staging order; spent updates leave. -/
def Dev.applySeams (d : Dev) (f : Forme) (r : Nat) (s : Int) : Dev :=
  let d := (d.pendingFor r s).foldl (fun d u =>
    match u.seam.bind d.job.seamLine with
    | some x => d.applyOne f r u x
    | none => d) d
  { d with ups := d.ups.filter (fun u => !u.spent) }

/-- The new matrix set a LIVE image brings, placed in the half not in force (R102): where each matrix starts. -/
def placeMats (base : Nat) : List (Nat × Nat × Nat × Nat) → List MatrixRec
  | [] => []
  | (i, m, w, h) :: rest =>
    { index := i, planeMask := m, w := w, h := h, base := base } :: placeMats (base + (w * h + 31) / 32 * 32) rest

/-- The entries of a MATRIX sub-block's body (R101). -/
def matrixEntries (body : List Byte) : List (BitVec 16) :=
  (chunks 2 (body.drop 8)).map (fun b => BitVec.ofNat 16 (leNat b))

/-- What an unlisted matrix store entry reads as (R119, R465). -/
def matrixDefault (_ : Nat) : BitVec 16 := 0

/-- The matrices of a list of sub-blocks placed in the store from an entry up, in ascending index, together with the
retained matrices of the set in force (R102). -/
def Dev.placeSet (d : Dev) (start : Nat) (blks : List ScreenBlk) : Dev × List MatrixRec :=
  let new := (blks.filter (fun b => b.kind == 0)).map (fun b =>
    (b.index, b.planeMask, u16 b.body 0, u16 b.body 2, matrixEntries b.body))
  let kept := (d.scr.set.filter (fun m => !(new.any (fun n => n.1 == m.index)))).map (fun m =>
    (m.index, m.planeMask, m.w, m.h, Sparse.getList matrixDefault d.scr.matrix m.base (m.w * m.h)))
  let all := sortBy (fun a => (a.1 : Int)) (new ++ kept)
  let recs := placeMats start (all.map (fun a => (a.1, a.2.1, a.2.2.1, a.2.2.2.1)))
  let store := (all.zip recs).foldl (fun m (a, rc) =>
    Sparse.setList matrixDefault (Sparse.clear m rc.base (rc.base + (rc.w * rc.h + 31) / 32 * 32)) rc.base a.2.2.2.2)
    d.scr.matrix
  ({ d with scr := { d.scr with matrix := store } }, recs)

/-- A live digest takes a LIVE image in as it is bound: the SHA-256 of the old digest and the image's (R39). -/
def Dev.takeDigest (d : Dev) (dig : List Byte) : Dev :=
  { d with fm := { d.fm with liveDigest := sha256 (d.fm.liveDigest ++ dig), oldDigests := d.fm.liveDigest :: d.fm.oldDigests } }

/-- What binding an update does at once: a LIVE image's digest is taken in and its matrices placed (R39, R102). -/
def Dev.onBound (d : Dev) (p : Payload) : Dev × Payload :=
  match p with
  | .live l dig _ =>
    let d := d.takeDigest dig
    if l.screen.any (fun b => b.kind == 0) then
      let start := if d.scr.upper then 0 else 786432
      let (d, recs) := d.placeSet start l.screen
      ({ d with scr := { d.scr with set := recs, upper := !d.scr.upper } }, .live l dig recs)
    else (d, .live l dig d.scr.set)
  | p => (d, p)

/-- The old half is free for a new matrix set: no earlier image's matrices are still to be passed (R102). -/
def Dev.matsFree (d : Dev) : Bool :=
  !(d.ups.any (fun u => u.payload.hasMats && u.seam.isSome && !(u.planes.all (fun c => u.planesDone.contains c))))

/-- A seam for one update, free of the limit and, for matrices, of the old half (R28, R29, R102). -/
def Dev.bindTo (d : Dev) (f : Forme) (rows : List Nat) (mats : Bool) (named : Option Word) : Option SeamRef :=
  let s := match named.bind (d.namedSeam f rows) with
    | some s => some s
    | none => d.nextSeam f rows
  match s with
  | some s => if d.seamFree s && (!mats || d.matsFree) then some s else none
  | none => none

/-- A core's batch or group has been decided (R318): the seam, and the first time RESULT, VALID, SEQ and SIG.BATCH. -/
def Dev.batchDecided (d : Dev) (n r : Nat) (s : Word) : Dev :=
  let c := d.core n
  let old := c.csr.batchResult
  let d := d.setCore n { c with csr := { c.csr with
    batchSeam := s, batchResult := if flag old 31 then old else windowNext old (setFld old 20 3 r) } }
  if flag old 31 then d else d.signalCore n 3

/-- The register that shows the bound seam of an update of a block (R28); cores' batches show theirs themselves; a rung
taken (or lifted: `by_` 0xFE) raises its EV_SLOW_ENFORCE with the seam (R442). -/
def Dev.showSeam (d : Dev) (u : Update) (s : Word) : Dev :=
  if u.block = 0x13 then d.raiseAll 0x0004 0x13FF (BitVec.ofNat 32 (fld (d.reg 0x130010) 0 8 + (if u.by_ = 0xFE then 256 else 0))) s
  else if u.by_ < 4 then
    (match u.block with
     | 0x03 => d.setReg 0x030060 s
     | 0x07 => d.setReg 0x070014 s
     | 0x09 => d.setReg 0x090054 s
     | _ => d)
  else if 0x10 ≤ u.by_ && u.by_ < 0x18 then d.batchDecided (u.by_ - 0x10) (if d.printing then 0 else 3) s
  else d

/-- The stretch gains and anchor changes of a bound batch wait for their positions (R184, R199). -/
def Dev.holdGains (d : Dev) (s : SeamRef) (p : Payload) : Dev :=
  match p with
  | .reg rs =>
    let g := (rs.filter (fun rc => fld rc.1 12 4 == 3)).map (fun rc => (s, rc.2.toNat))
    let a := (rs.filter (fun rc => fld rc.1 12 4 == 4)).map (fun rc => (s, sgn rc.2))
    { d with fir := { d.fir with gains := d.fir.gains ++ g, anchors := d.fir.anchors ++ a } }
  | _ => d

/-- An update joins those staged: bound to its seam, or waiting for one (R28, R29). -/
def Dev.stage (d : Dev) (f : Forme) (u : Update) (bindRows : List Nat) (named : Option Word) : Dev :=
  match d.bindTo f bindRows u.payload.hasMats named with
  | some s =>
    let (d, p) := d.onBound u.payload
    let u := { u with seam := some s, payload := p }
    let d := (d.showSeam u (low32 s.reported)).holdGains s p
    { d with ups := d.ups ++ [u] }
  | none => { d with ups := d.ups ++ [{ u with seam := none }] }

/-- Waiting updates are bound, in staging order, once a seam is free for them (R29, R102). -/
def Dev.bindWaitingGo (f : Forme) : Nat → Dev → Dev
  | 0, d => d
  | n + 1, d =>
    match d.ups.find? (fun u => u.seam.isNone) with
    | none => d
    | some u =>
      match d.bindTo f u.bindRows u.payload.hasMats none with
      | none => d
      | some s =>
        let (d, p) := d.onBound u.payload
        let d := (d.showSeam u (low32 s.reported)).holdGains s p
        Dev.bindWaitingGo f n { d with ups := d.ups.map (fun v => if v == u then { u with seam := some s, payload := p } else v) }

def Dev.bindWaiting (d : Dev) (f : Forme) : Dev := Dev.bindWaitingGo f d.ups.length d

/-- The modes a plane rests in: SCR_MODE of the RUN section. -/
def RunCfg.mode (r : RunCfg) (c : Nat) : Nat := r.scrMode.getD c 0

/-- The sub-blocks in force for planes after a SCREEN section brings others: one of the same kind and index stands in
place of the old one, the rest stay (R62, R102; log entry 9). -/
def mergeBlks (old new : List ScreenBlk) : List ScreenBlk :=
  old.filter (fun b => !(new.any (fun n => n.kind == b.kind && n.index == b.index))) ++ new

/-- The error rows of a plane generated from its seed: `k` entries of each (R108). -/
def seedRow : Nat → Word → List Int × Word
  | 0, y => ([], y)
  | n + 1, y =>
    let y := y ^^^ (y <<< 13)
    let y := y ^^^ (y >>> 17)
    let y := y ^^^ (y <<< 5)
    let (r, y') := seedRow n y
    ((((y >>> 22).toNat : Int) - 512) :: r, y')

end Sys2Proof.Machine
end

