-- ==== Sys2Proof/Machine/Comp.lean ====
section
/-!
DEFINITION. Columns and compensation: which nozzle serves a column (R8, R16 to R22), stitch blending, tone, gain and
dead-nozzle substitution (R120 to R135).
-/
namespace Sys2Proof.Machine

/-- A head's nozzle pitch in columns (R8). -/
def HeadCfg.pitch (h : HeadCfg) : Nat := if h.npi1200 then 1 else 2

/-- The data column of nozzle 0 of a head whose placement is trimmed by `x` sixteenths (R8, R183). -/
def HeadCfg.col0 (h : HeadCfg) (x : Int) : Int := ((h.place : Int) + x + 8) / 16

/-- The residual of a placement in sixteenths (R8). -/
def HeadCfg.residual (h : HeadCfg) : Int := ((h.place : Int) + 8) % 16 - 8

/-- The nozzle of a head that takes its data from column `c`, if any (R8). -/
def HeadCfg.nozzleAt (h : HeadCfg) (x : Int) (c : Nat) : Option Nat :=
  let e := (c : Int) - h.col0 x
  if 0 ≤ e && e % (h.pitch : Int) = 0 then
    let n := (e / (h.pitch : Int)).toNat
    if n < h.nozzles then some n else none
  else none

/-- The column of a head's nozzle (R8). -/
def HeadCfg.colOf (h : HeadCfg) (x : Int) (n : Nat) : Int := h.col0 x + n * h.pitch

/-- A nozzle that serves a column, with its word in force. -/
structure Serving where
  slot : Nat
  noz : Nat
  word : Word
deriving DecidableEq, Repr

/-- Fields of a nozzle word (R121). -/
def nzDead (w : Word) : Bool := flag w 31
def nzNoRecv (w : Word) : Bool := flag w 29
def nzSplit (w : Word) : Nat := fld w 27 2
def nzShare (w : Word) : Nat := fld w 20 7
def nzOffset (w : Word) : Int := signed 8 (fld w 12 8)
def nzGain (w : Word) : Nat := fld w 0 12

/-- The nozzles of row `r` that serve column `c` on line `s`, the head with the lower placement first (R127). -/
def Dev.serving (d : Dev) (f : Forme) (r : Nat) (s : Int) (c : Nat) : List Serving :=
  let hs := sortBy (fun h => (h.place : Int)) (f.rowHeads r)
  hs.filterMap (fun h =>
    (h.nozzleAt (d.xtrimAt r h.slot s) c).map (fun n =>
      { slot := h.slot, noz := n, word := d.nzWordAt r (h.slot * 4096 + n) s }))

/-- The chooser's hash of column and line, 0 to 63 (R127). -/
def chooserHash (x : Nat) (s : Int) : Nat :=
  let y : BitVec 32 := BitVec.ofNat 32 x * 0x9E3779B1#32 + low32 s * 0x85EBCA77#32
  ((y ^^^ (y >>> 15)) >>> 26).toNat

/-- The pick between two live nozzles of a stitch zone by their shares (R127). -/
def choosePair (h : Nat) (a b : Serving) : Serving :=
  let sa := nzShare a.word
  let sb := nzShare b.word
  let (sa, sb) := if sa + sb = 0 then (32, 32) else (sa, sb)
  if h * (sa + sb) < 64 * sa then a else b

/-- The nozzle the chooser picks for a column, none where the column is dead for the row (R127, R131). -/
def choose (x : Nat) (s : Int) : List Serving → Option Serving
  | [] => none
  | [a] => if nzDead a.word then none else some a
  | a :: b :: _ =>
    if nzDead a.word && nzDead b.word then none
    else if nzDead a.word then some b
    else if nzDead b.word then some a
    else some (choosePair (chooserHash x s) a b)

/-- The nozzle the chooser would have picked with DEAD ignored (R131). -/
def chooseNominal (x : Nat) (s : Int) : List Serving → Option Serving
  | [] => none
  | [a] => some a
  | a :: b :: _ => some (choosePair (chooserHash x s) a b)

/-- The rows that may fire a plane's column on a line: the firing row of R95, both rows of an INTERLEAVED plane. -/
def Forme.firingRows (p : PlaneCfg) (s : Int) : List Nat :=
  match p.rowMode with
  | 0 => [2 * p.c]
  | 1 => [2 * p.c, 2 * p.c + 1]
  | _ => if s % 2 = 0 then [2 * p.c] else [2 * p.c + 1]

/-- The nozzles of the firing row of a column on line `s`, in the state in force for line `st`. -/
def Dev.firingNozzles (d : Dev) (f : Forme) (p : PlaneCfg) (s st : Int) (x : Nat) : List Serving :=
  match (Forme.firingRows p s).filterMap (fun r =>
    match d.serving f r st x with | [] => none | l => some l) with
  | l :: _ => l
  | [] => []

/-- A column is served by the plane when a nozzle of one of its rows maps to it (R94). -/
def Dev.planeServes (d : Dev) (f : Forme) (p : PlaneCfg) (s : Int) (x : Nat) : Bool :=
  (f.planeRows p.c).any (fun r => (f.rowHeads r).any (fun h => (h.nozzleAt (d.xtrimAt r h.slot s) x).isSome))

/-- The diffusion sequence: the served columns inside the image width, rising (R103). -/
def Dev.sequence (d : Dev) (f : Forme) (p : PlaneCfg) (s : Int) : List Nat :=
  ((List.range f.geom.wImg).map (· + f.geom.xImg)).filter (d.planeServes f p s)

/-! ### Tone, gain and offset (R125, R126) -/

/-- The tone curve's value for a contone byte (R125). -/
def toneValue (pts : List Nat) (b : Nat) : Nat :=
  let k := min (b / 8) 31
  let p0 : Int := pts.getD k 0
  let p1 : Int := pts.getD (k + 1) 0
  if k < 31 then (p0 + (p1 - p0) * ((b : Int) - 8 * k) / 8).toNat
  else (p0 + (p1 - p0) * ((b : Int) - 248) / 7).toNat

/-- The head scale (R125). -/
def headScale (y : Nat) (hw : Word) : Nat := min 65535 ((y * fld hw 0 12 + 512) / 1024)

/-- The nozzle's gain and offset (R126). -/
def nozzleDensity (y : Nat) (w : Word) : Nat :=
  let z := (y * nzGain w + 8192) / 16384
  if z = 0 then 0 else (min 8191 (max 0 ((z : Int) + 2 * nzOffset w))).toNat

/-- t_n of a nozzle for a contone byte (R120 steps 1 and 2). -/
def Dev.tn (d : Dev) (r : Nat) (s : Int) (b : Nat) (v : Serving) : Nat :=
  nozzleDensity (headScale (toneValue (d.toneAt r v.slot s) b) (d.nzWordAt r (0x100000 + v.slot) s)) v.word

/-! ### One line's columns -/

/-- A served column of a line: the nozzle chosen, or the nominal one of a dead column; its own density or code; the
density handed to screening. -/
structure Col where
  x : Nat
  sv : Option Serving
  dead : Bool
  own : Nat
  t : Nat
deriving DecidableEq, Repr

/-- The row of a head slot. -/
def Forme.rowOf (f : Forme) (slot : Nat) : Nat := match f.head slot with | some h => h.row | none => 0

/-- A served column with its choice, its own value computed by `val` from the nozzle. -/
def Dev.mkCol (d : Dev) (f : Forme) (p : PlaneCfg) (s st : Int) (x : Nat) (val : Serving → Nat) : Col :=
  let l := d.firingNozzles f p s st x
  match choose x s l with
  | some v => { x := x, sv := some v, dead := false, own := val v, t := val v }
  | none =>
    let nom := chooseNominal x s l
    { x := x, sv := nom, dead := true, own := match nom with | some v => val v | none => 0, t := 0 }

/-- A column may receive substituted density (R134). -/
def Col.takes (c : Col) : Bool :=
  !c.dead && (match c.sv with | some v => !(nzNoRecv v.word) | none => false)

/-- SPLIT of a dead column's nozzle; a column no nozzle serves moves nothing. -/
def Col.split (c : Col) : Nat := match c.sv with | some v => nzSplit v.word | none => 3

/-- The receiver of a side: the nearest candidate within four served columns (R134). -/
def receiver (side : List Col) : Option Nat := ((side.take 4).find? Col.takes).map (·.x)

/-- What a dead column of density `q` sends to its neighbours, and whether it was dropped (R134). -/
def shareOut (split q : Nat) (left right : Option Nat) : List (Nat × Nat) × Bool :=
  match left, right with
  | some l, some r =>
    if split = 0 then ([(l, q / 2), (r, q - q / 2)], false)
    else if split = 1 then ([(l, q)], false)
    else ([(r, q)], false)
  | some l, none => ([(l, q)], false)
  | none, some r => ([(r, q)], false)
  | none, none => ([], true)

/-- The densities every dead column of a line moves: to the partner line where `partner` says it may, else to its
neighbours; with the count of those dropped (R132 to R134). -/
def moveAll (partner : Nat → Bool) : List Col → List Col → List (Nat × Nat) × List (Nat × Nat) × Nat
  | _, [] => ([], [], 0)
  | left, c :: right =>
    let (near, next, drops) := moveAll partner (c :: left) right
    if c.dead && c.own ≠ 0 && c.split ≠ 3 then
      if partner c.x then (near, (c.x, c.own) :: next, drops)
      else
        let (m, dropped) := shareOut c.split c.own (receiver left) (receiver right)
        (m ++ near, next, if dropped then drops + 1 else drops)
    else (near, next, drops)

/-- The density a column receives. -/
def received (l : List (Nat × Nat)) (x : Nat) : Nat := ((l.filter (fun m => m.1 == x)).map (·.2)).sum

/-- The columns with every received density added (R132). -/
def addReceived (l : List (Nat × Nat)) (cols : List Col) : List Col :=
  cols.map (fun c => if c.dead then { c with t := 0 } else { c with t := min 8191 (c.own + received l c.x) })

/-- A code takes the first free position of a list of columns (R135). -/
def firstFree (occupied : Nat → Bool) (cands : List Col) : Option Nat :=
  (cands.find? (fun c => c.takes && !(occupied c.x))).map (·.x)

/-- The candidates of a dead column in the order SPLIT and the line's parity give (R135). -/
def codeOrder (split : Nat) (even : Bool) (left right : List Col) : List Col :=
  let l := left.take 4
  let r := right.take 4
  if split = 1 || (split = 0 && even) then l ++ r else r ++ l

/-- Codes moved on a PRESCREENED plane, dead columns in rising order: the codes placed on this line, those sent to the
next line, and the count dropped (R135). -/
def moveCodes (partner : Nat → Bool) (even : Bool) :
    List Col → List Col → List (Nat × Nat) → List (Nat × Nat) × List (Nat × Nat) × Nat
  | _, [], placed => (placed, [], 0)
  | left, c :: right, placed =>
    if c.dead && c.own ≠ 0 && c.split ≠ 3 then
      if partner c.x then
        let (p, n, k) := moveCodes partner even (c :: left) right placed
        (p, (c.x, c.own) :: n, k)
      else
        let occ := fun x => placed.any (fun m => m.1 == x) || (left ++ right).any (fun o => o.x == x && o.own ≠ 0)
        match firstFree occ (codeOrder c.split even left right) with
        | some x => moveCodes partner even (c :: left) right ((x, c.own) :: placed)
        | none =>
          let (p, n, k) := moveCodes partner even (c :: left) right placed
          (p, n, k + 1)
    else moveCodes partner even (c :: left) right placed

/-! ### Repeats and image lines -/

/-- The repeat whose image lines hold a line, with its number (R91). -/
def JobDev.imageAt (j : JobDev) (s : Int) : Option (Nat × Repeat) :=
  ((List.range j.reps.length).zip j.reps).find? (fun kr => decide (kr.2.b ≤ s) && decide (s < kr.2.b + kr.2.n))

/-- The line is a gutter line that is not dry (R24, R83). -/
def JobDev.gutterAt (j : JobDev) (s : Int) : Bool :=
  j.reps.any (fun r => decide (r.b + r.n ≤ s) && decide (s < r.stop - r.dry))

/-- The next image line after a line, with the repeat starts as they stand (R103). -/
def JobDev.nextImage (j : JobDev) (s : Int) : Int :=
  if (j.imageAt (s + 1)).isSome then s + 1
  else match j.reps.find? (fun r => decide (s < r.b)) with
    | some r => r.b
    | none => max (s + 1) j.nextB

/-- Contone bytes or codes of an image line by pixel (R68). -/
def pixels (p : PlaneCfg) (line : List Byte) : List Nat :=
  if p.input = 3 then
    let v := leNat line
    (List.range (line.length * 8 / p.dropBits)).map (fun i => bits v (p.dropBits * i) p.dropBits)
  else line.map (·.toNat)

/-- The partner line takes what column `x`, dead on line `s`, sends (R133): DUPLEX, the next line in the same repeat,
the column live there and its nozzle willing, all in the state in force for line `s`; for codes also free there. -/
def Dev.partnerOk (d : Dev) (f : Forme) (p : PlaneCfg) (s : Int) (next : Nat → Bool) (x : Nat) : Bool :=
  p.rowMode == 2 &&
  (match d.job.imageAt s, d.job.imageAt (s + 1) with
   | some (k, _), some (k', _) => k == k'
   | _, _ => false) &&
  (match choose x (s + 1) (d.firingNozzles f p (s + 1) s x) with
   | some v => !(nzNoRecv v.word)
   | none => false) && next x

/-- Densities and dead flags of every column of the diffusion sequence for one contone image line, the density carried
to the next line, and the drops counted (R120 steps 1 to 4). -/
def Dev.compLine (d : Dev) (f : Forme) (p : PlaneCfg) (s : Int) (px : List Nat) : List Col × List (Nat × Nat) × Nat :=
  let cols := (d.sequence f p s).map (fun x =>
    d.mkCol f p s s x (fun v => d.tn (f.rowOf v.slot) s (px.getD ((x - f.geom.xImg) / p.fx) 0) v))
  let (near, next, drops) := moveAll (d.partnerOk f p s (fun _ => true)) [] cols
  let pl := d.plane p.c
  let carried := if pl.carryLine = s then pl.carry else []
  let lost := (carried.filter (fun m => cols.any (fun c => c.x == m.1 && c.dead))).length
  (addReceived (near ++ carried) cols, next, drops + lost)

/-- The codes of every column of a PRESCREENED image line after substitution (R135). -/
def Dev.compCodes (d : Dev) (f : Forme) (p : PlaneCfg) (s : Int) (px nextPx : List Nat) :
    List Col × List (Nat × Nat) × Nat :=
  let pl := d.plane p.c
  let carried := if pl.carryLine = s then pl.carry else []
  let code := fun (l : List Nat) (x : Nat) => l.getD ((x - f.geom.xImg) / p.fx) 0
  let cols := (d.sequence f p s).map (fun x => d.mkCol f p s s x (fun _ => code px x))
  let cols := cols.map (fun c =>
    match carried.find? (fun m => m.1 == c.x) with
    | some m => if c.dead then c else { c with own := m.2, t := m.2 }
    | none => c)
  let lost := (carried.filter (fun m => cols.any (fun c => c.x == m.1 && c.dead))).length
  let (placed, next, drops) := moveCodes (d.partnerOk f p s (fun x => code nextPx x == 0)) (decide (s % 2 = 0)) [] cols []
  (cols.map (fun c =>
    if c.dead then { c with t := 0 }
    else match placed.find? (fun m => m.1 == c.x) with
      | some m => { c with t := m.2 }
      | none => { c with t := c.own }), next, drops + lost)

/-- The dead columns of a row's mask in force (R95, R131): served columns none of whose nozzles of the row is live. -/
def Dev.rowDead (d : Dev) (f : Forme) (r : Nat) (s : Int) (x : Nat) : Bool :=
  (choose x s (d.serving f r s x)).isNone

/-- NZ_DEAD of a row: served columns of the row in its dead mask (R153). -/
def Dev.deadCount (d : Dev) (f : Forme) (r : Nat) : Nat :=
  let s := d.prep r
  ((List.range 104960).filter (fun x => !(d.serving f r s x).isEmpty && d.rowDead f r s x)).length

/-! ### Default shares (R130) -/

/-- The default shares of a zone of `z` served columns at position `j`, with displacement `sg` (R130). -/
def defaultShareA (z j : Nat) (sg : Int) : Nat :=
  (min 64 (max 0 ((64 * (32 * ((z : Int) - j) - 16 - sg) + 16 * z) / (32 * z)))).toNat

end Sys2Proof.Machine
end

