-- ==== Sys2Proof/Machine/Screen.lean ====
section
/-!
DEFINITION. Screening (R94 to R119): drop maps, thresholds, error diffusion, hybrid, bypass, the binding and mode in
force, and the events that change a plane's screening state.
-/
namespace Sys2Proof.Machine

/-- One level of a drop map: its code and value (R97). -/
structure Level where
  code : Nat
  value : Nat
deriving DecidableEq, Repr

/-- The levels of a DROPMAP body (R97). -/
def dropLevels (body : List Byte) : List Level :=
  ((chunks 4 (body.drop 8)).take (u8 body 0)).map (fun b => { code := u8 b 0, value := u16 b 2 })

/-- v_top of a drop map (R97). -/
def vTop (l : List Level) : Nat := match l.getLast? with | some x => x.value | none => 0

/-- The highest level whose value is at most `a` (R99). -/
def levelBelow (l : List Level) (a : Int) : Nat :=
  (l.filter (fun x => decide ((x.value : Int) ≤ a))).length - 1

/-- The level the threshold rule gives a density (R99, R109): level 0 below zero. -/
def thresholdLevel (l : List Level) (a : Int) (thr : Nat) : Nat :=
  if a < 0 then 0
  else if (vTop l : Int) ≤ a then l.length - 1
  else
    let i := levelBelow l a
    let v0 : Int := (l.getD i ⟨0, 0⟩).value
    let v1 : Int := (l.getD (i + 1) ⟨0, 0⟩).value
    if (thr : Int) < (a - v0) * 4096 / (v1 - v0) then i + 1 else i

/-- The level of error diffusion: the largest level whose midpoint lies below the adjusted density (R106). -/
def quantise (l : List Level) (a : Int) : Nat :=
  ((List.range (l.length - 1)).filter (fun i =>
    decide ((((l.getD i ⟨0, 0⟩).value + (l.getD (i + 1) ⟨0, 0⟩).value) / 2 : Nat) < a))).length

/-! ### Binding (R111, R112) -/

/-- A plane's binding in force. -/
structure Binding where
  seedIdx : Nat
  seed : Word
  matrix : Option MatrixRec
  weights : Option ScreenBlk
  dropIdx : Nat
  ox : Nat
  oy : Nat
deriving DecidableEq, Repr

/-- A sub-block of a kind and index that a plane may use (R112). -/
def findBlk (blks : List ScreenBlk) (kind idx c : Nat) : Option ScreenBlk :=
  blks.find? (fun b => b.kind == kind && b.index == idx && bit b.planeMask c)

/-- The SEED sub-block that binds a plane: the one of lowest index (R111). -/
def seedBlk (blks : List ScreenBlk) (c : Nat) : Option ScreenBlk :=
  (sortBy (fun b => (b.index : Int)) (blks.filter (fun b => b.kind == 2 && bit b.planeMask c))).head?

/-- The binding of plane `c` among the sub-blocks and matrices in force for it. -/
def bindingOf (blks : List ScreenBlk) (mats : List MatrixRec) (c : Nat) : Option Binding :=
  (seedBlk blks c).map (fun b =>
    { seedIdx := b.index, seed := BitVec.ofNat 32 (u32 b.body 0),
      matrix := mats.find? (fun m => m.index == u8 b.body 4 && bit m.planeMask c),
      weights := findBlk blks 1 (u8 b.body 5) c,
      dropIdx := u8 b.body 6, ox := u16 b.body 8, oy := u16 b.body 10 })

/-- The binding of a plane in force. -/
def Dev.binding (d : Dev) (c : Nat) : Option Binding := bindingOf (d.plane c).blks (d.plane c).mats c

/-- Order of the modes the rungs step through: DIFFUSION above HYBRID above THRESHOLD (R118). -/
def modeRank : Nat → Nat
  | 1 => 2
  | 2 => 1
  | _ => 0
/-- The mode of a rank. -/
def rankMode : Nat → Nat
  | 2 => 1
  | 1 => 2
  | _ => 0

/-- The rank the screening rungs allow: bit 0 the HYBRID rung, bit 1 the THRESHOLD rung (R117). -/
def rungRank (rungs : Nat) : Nat := if bit rungs 1 then 0 else if bit rungs 0 then 1 else 2

/-- The mode in force of a plane (R117, R118): BYPASS planes and planes without a MATRIX keep their resting mode. -/
def modeOf (resting rungs : Nat) (hasMatrix : Bool) : Nat :=
  if resting = 3 || !hasMatrix then resting else rankMode (min (modeRank resting) (rungRank rungs))

/-- The mode in force of a plane. -/
def ScrPlane.mode (p : ScrPlane) (c : Nat) : Nat :=
  modeOf p.resting p.rungs ((bindingOf p.blks p.mats c).any (fun b => b.matrix.isSome))

/-- The plane screens with its fallback map: the drop-bit rung is in force for a 3-bit contone plane that has one
(R98, R117). -/
def usesFallback (p : PlaneCfg) (rungs : Nat) : Bool :=
  bit rungs 2 && p.dropBits == 3 && p.input != 3 && p.fallback != 0xFF

/-- The DROPMAP sub-block in force of a plane: the fallback map's while the plane uses it. -/
def dropBlk (p : PlaneCfg) (pl : ScrPlane) : Option ScreenBlk :=
  let idx := if usesFallback p pl.rungs then p.fallback
    else match bindingOf pl.blks pl.mats p.c with | some b => b.dropIdx | none => 0xFF
  pl.blks.find? (fun b => b.kind == 3 && b.index == idx)

/-- The drop map in force of a plane. -/
def Dev.dropMap (d : Dev) (p : PlaneCfg) : List Level :=
  match dropBlk p (d.plane p.c) with
  | some b => dropLevels b.body
  | none => []

/-- What a plane screens with is the same before and after a change: its mode, its binding, its drop map and its use of
the fallback (R113). -/
def sameScreening (p : PlaneCfg) (a b : ScrPlane) : Bool :=
  a.mode p.c == b.mode p.c && bindingOf a.blks a.mats p.c == bindingOf b.blks b.mats p.c
    && dropBlk p a == dropBlk p b && usesFallback p a.rungs == usesFallback p b.rungs

/-- The code a level sends in the LINE payload: the level index on the fallback map, else the level's code (R98). -/
def levelCode (l : List Level) (fallback : Bool) (lvl : Nat) : Nat :=
  if fallback then lvl else (l.getD lvl ⟨0, 0⟩).code

/-- The bits of a plane's codes in the LINE payload: 2 while the drop-bit rung holds for it (R98). -/
def Dev.codeBits (d : Dev) (p : PlaneCfg) : Nat := if usesFallback p (d.plane p.c).rungs then 2 else p.dropBits

/-! ### Threshold (R99, R100) -/

/-- T(x, S) of a placed matrix (R100). -/
def Dev.threshold (d : Dev) (m : MatrixRec) (ox oy x : Nat) (s : Int) : Nat :=
  let row := ((s + oy) % (m.h : Int)).toNat
  let col := (x + ox) % m.w
  (Sparse.get matrixDefault d.scr.matrix (m.base + row * m.w + col)).toNat

/-- Codes of a line by columns, with clip, saturation and discard counts. -/
structure Screened where
  levels : List (Nat × Nat)
  clip : Nat
  esat : Nat
  edrop : Nat
  p1 : List Int
  p2 : List Int
deriving DecidableEq, Repr

/-- One line in THRESHOLD mode (R99). -/
def screenThreshold (l : List Level) (thr : Nat → Nat) (cols : List Col) : Screened :=
  { levels := cols.map (fun c => (c.x, if c.dead then 0 else thresholdLevel l c.t (thr c.x))),
    clip := (cols.filter (fun c => !c.dead && decide (vTop l < c.t))).length,
    esat := 0, edrop := 0, p1 := [], p2 := [] }

/-- One line in HYBRID mode, columns in processing order, with the carry (R109). -/
def hybridGo (l : List Level) (thr : Nat → Nat) : Int → List Col → List (Nat × Nat) × Nat
  | _, [] => ([], 0)
  | carry, c :: cs =>
    if c.dead then
      let (r, k) := hybridGo l thr carry cs
      ((c.x, 0) :: r, k)
    else
      let a : Int := c.t + carry
      let lvl := thresholdLevel l a (thr c.x)
      let e := a - ((l.getD lvl ⟨0, 0⟩).value : Int)
      let e' := clampInt (-2048) 2047 e
      let (r, k) := hybridGo l thr e' cs
      ((c.x, lvl) :: r, if e' = e then k else k + 1)

def screenHybrid (l : List Level) (thr : Nat → Nat) (down : Bool) (cols : List Col) : Screened :=
  let (r, k) := hybridGo l thr 0 (if down then cols.reverse else cols)
  { levels := if down then r.reverse else r, clip := k, esat := 0, edrop := 0, p1 := [], p2 := [] }

/-! ### Error diffusion (R103 to R107) -/

/-- The taps: offset in u in the processing direction, and in lines (R103). -/
def taps : List (Int × Nat) :=
  [(1, 0), (2, 0), (-2, 1), (-1, 1), (0, 1), (1, 1), (2, 1), (-2, 2), (-1, 2), (0, 2), (1, 2), (2, 2)]

/-- A pending value limited to 16 bits, and whether it was cut (R106). -/
def sat16 (v : Int) : Int × Nat :=
  if v < -32768 then (-32768, 1) else if 32767 < v then (32767, 1) else (v, 0)

/-- Shares of an error over the live taps in tap order: floors for all but the last, the rest to the last (R106). -/
def spreadShares (e : Int) (wLive : Nat) (rest : Int) : List (Nat × Nat) → List (Nat × Int)
  | [] => []
  | [(j, _)] => [(j, rest)]
  | (j, w) :: ts =>
    let q := e * (w : Int) / (wLive : Int)
    (j, q) :: spreadShares e wLive (rest - q) ts

/-- What error diffusion carries along a line. -/
structure DifState where
  p2 : List Int
  n2 : List Int
  k1 : Int
  k2 : Int
  esat : Nat
  edrop : Nat
  levels : List (Nat × Nat)
deriving DecidableEq, Repr

/-- A value added at position `u` of a row of pending errors, saturating. -/
def addAt (row : List Int) (u : Nat) (q : Int) : List Int × Nat :=
  let (v, k) := sat16 (row.getD u 0 + q)
  (row.set u v, k)

/-- One share sent to its tap. -/
def sendTap (dir : Int) (u : Nat) (st : DifState) (jq : Nat × Int) : DifState :=
  let (du, dl) := taps.getD jq.1 (0, 0)
  if dl = 0 then
    if du = 1 then
      let (v, k) := sat16 (st.k1 + jq.2)
      { st with k1 := v, esat := st.esat + k }
    else
      let (v, k) := sat16 (st.k2 + jq.2)
      { st with k2 := v, esat := st.esat + k }
  else
    let v := ((u : Int) + dir * du).toNat
    if dl = 1 then
      let (r, k) := addAt st.p2 v jq.2
      { st with p2 := r, esat := st.esat + k }
    else
      let (r, k) := addAt st.n2 v jq.2
      { st with n2 := r, esat := st.esat + k }

/-- The live taps of a position with their weights: the target inside the sequence and not dead on the tap's line, the
weight not zero (R106, R107). -/
def liveTaps (weights : List Nat) (dir : Int) (k : Nat) (dead : Nat → Nat → Bool) (u : Nat) : List (Nat × Nat) :=
  (List.range 12).filterMap (fun j =>
    let (du, dl) := taps.getD j (0, 0)
    let v := (u : Int) + dir * du
    let w := weights.getD j 0
    if 0 ≤ v && v < (k : Int) && w ≠ 0 && !(dead dl v.toNat) then some (j, w) else none)

/-- One position of the diffusion sequence (R106). -/
def difStep (l : List Level) (weights : List Nat) (dir : Int) (k : Nat) (dead : Nat → Nat → Bool) (p1 : List Int)
    (st : DifState) (uc : Nat × Col) : DifState :=
  let (u, c) := uc
  let a0 := p1.getD u 0 + st.k1
  let st := { st with k1 := st.k2, k2 := 0 }
  let (lvl, e) : Nat × Int :=
    if c.dead then (0, a0)
    else
      let a := a0 + c.t
      let lvl := quantise l a
      (lvl, a - ((l.getD lvl ⟨0, 0⟩).value : Int))
  let live := liveTaps weights dir k dead u
  let wLive := (live.map (·.2)).sum
  let st := { st with levels := (c.x, lvl) :: st.levels }
  if wLive = 0 then { st with edrop := st.edrop + 1 }
  else (spreadShares e wLive e live).foldl (sendTap dir u) st

/-- One image line in DIFFUSION mode (R106). -/
def screenDiffusion (l : List Level) (weights : List Nat) (down : Bool) (dead : Nat → Nat → Bool) (p1 p2 : List Int)
    (cols : List Col) : Screened :=
  let k := cols.length
  let idx := (List.range k).zip cols
  let p1 := padTo k 0 p1
  let st := (if down then idx.reverse else idx).foldl
    (difStep l weights (if down then -1 else 1) k dead p1)
    { p2 := padTo k 0 p2, n2 := List.replicate k 0, k1 := 0, k2 := 0, esat := 0, edrop := 0, levels := [] }
  { levels := if down then st.levels else st.levels.reverse, clip := 0, esat := st.esat, edrop := st.edrop,
    p1 := st.p2, p2 := st.n2 }

/-! ### A plane's screening state (R113) -/

/-- Error rows generated from the seed in force for a sequence of `k` positions (R108). -/
def seedRows (k : Nat) (seed : Word) : List Int × List Int :=
  let (a, y) := seedRow k seed
  (a, (seedRow k y).1)

/-- The plane with its error rows generated, as on entering DIFFUSION, at START and at a FULL load (R113). -/
def Dev.regenerate (d : Dev) (f : Forme) (p : PlaneCfg) (s : Int) (pl : ScrPlane) : ScrPlane :=
  match bindingOf pl.blks pl.mats p.c with
  | some b =>
    let (a, e) := seedRows (d.sequence f p s).length b.seed
    { pl with p1 := a, p2 := e }
  | none => pl

/-- The plane after a change of what it rests in or is bound to: entering DIFFUSION generates its rows, leaving it
discards them, anything else keeps them (R113); SCR_SEAM names the last line that changed anything (R119). -/
def Dev.rescreen (d : Dev) (f : Forme) (p : PlaneCfg) (s : Int) (old new : ScrPlane) : ScrPlane :=
  let m0 := old.mode p.c
  let m1 := new.mode p.c
  let new := { new with seam := if sameScreening p old new then old.seam else low32 s }
  if m0 ≠ 1 && m1 = 1 then d.regenerate f p s new
  else if m0 = 1 && m1 ≠ 1 then { new with p1 := [], p2 := [] }
  else new

/-- What an update changes in plane `c`'s screening (R62, R113, R118). -/
def planeAfter (c : Nat) (u : Update) (pl : ScrPlane) : ScrPlane :=
  match u.payload with
  | .live l _ mats =>
    { pl with
      resting := match l.run with | some r => r.mode c | none => pl.resting,
      blks := mergeBlks pl.blks l.screen,
      mats := if l.screen.isEmpty then pl.mats else mats }
  | .rungs n => { pl with rungs := n }
  | _ => pl

/-- Updates a plane's screening has reached at a line and not yet taken, in seam and staging order. -/
def Dev.planePending (d : Dev) (c : Nat) (s : Int) : List Update :=
  let l := d.ups.filterMap (fun u =>
    match u.seam.bind d.job.seamLine with
    | some x => if u.planes.contains c && !(u.planesDone.contains c) && decide (x ≤ s) then some (x, u) else none
    | none => none)
  (sortBy (fun a => a.1) l).map (·.2)

/-- A plane's screening takes every update its next image line has reached (R113). -/
def Dev.planeSeams (d : Dev) (f : Forme) (p : PlaneCfg) (s : Int) : Dev :=
  let us := d.planePending p.c s
  let d := us.foldl (fun d u =>
    let old := d.plane p.c
    let d := d.setPlane p.c (d.rescreen f p s old (planeAfter p.c u old))
    { d with ups := d.ups.map (fun v => if v == u then { v with planesDone := v.planesDone ++ [p.c] } else v) }) d
  { d with ups := d.ups.filter (fun u => !u.spent) }

/-- The dead mask of the row that fires a line, over the diffusion sequence, in the state of line `s` (R95, R107). -/
def Dev.deadOn (d : Dev) (f : Forme) (p : PlaneCfg) (s line : Int) (xs : List Nat) : List Bool :=
  xs.map (fun x => (choose x line (d.firingNozzles f p line s x)).isNone)

/-- One image line screened in the plane's mode in force (R99, R106, R109, R110). -/
def Dev.screenCols (d : Dev) (f : Forme) (p : PlaneCfg) (s : Int) (cols : List Col) : Screened :=
  let pl := d.plane p.c
  let l := d.dropMap p
  let b := bindingOf pl.blks pl.mats p.c
  let thr := fun x => match b with
    | some b => (match b.matrix with | some m => d.threshold m b.ox b.oy x s | none => 0)
    | none => 0
  let wts := match b with
    | some b => (match b.weights with | some w => (w.body.take 12).map (·.toNat) | none => [])
    | none => []
  let serp := match b with
    | some b => (match b.weights with | some w => bit (u8 w.body 12) 0 | none => false)
    | none => false
  let down := serp && decide (s % 2 ≠ 0)
  match pl.mode p.c with
  | 0 => { screenThreshold l thr cols with p1 := pl.p1, p2 := pl.p2 }
  | 1 =>
    let xs := cols.map (·.x)
    let s1 := d.job.nextImage s
    let m0 := d.deadOn f p s s xs
    let m1 := d.deadOn f p s s1 xs
    let m2 := d.deadOn f p s (d.job.nextImage s1) xs
    screenDiffusion l wts down (fun dl u => ((if dl = 0 then m0 else if dl = 1 then m1 else m2).getD u true))
      pl.p1 pl.p2 cols
  | 2 => { screenHybrid l thr down cols with p1 := pl.p1, p2 := pl.p2 }
  | _ => { levels := cols.map (fun c => (c.x, if c.dead then 0 else c.t)), clip := 0, esat := 0, edrop := 0,
           p1 := pl.p1, p2 := pl.p2 }

/-- The codes of a screened line by nozzle index, code 0 left out (R120 step 6): each column's code goes to its chosen
nozzle. -/
def nozzleCodes (l : List Level) (bypass fallback : Bool) (cols : List Col) (levels : List (Nat × Nat)) :
    List (Nat × Nat) :=
  (cols.zip levels).filterMap (fun (c, lv) =>
    let code := if bypass then lv.2 else levelCode l fallback lv.2
    match c.sv with
    | some v => if c.dead || code = 0 then none else some (v.slot * 4096 + v.noz, code)
    | none => none)

end Sys2Proof.Machine
end

