-- ==== Sys2Proof/Machine/Forme.lean ====
section
/-!
DEFINITION. The forme: reading an image into a Forme, and the checks of R58 in their order, with the refusal code and
section each gives (R35 to R56, R65, R67, R93, R97 to R112, R164, R178, R244, R292 to R294, R297, R334, R381, R428,
R506, R507).
-/
namespace Sys2Proof.Machine

/-- A check of an image: its result, or REASON and SECTION of its refusal (R63, R65). -/
abbrev Chk (α : Type) := Except (Nat × Nat) α

/-- A requirement: unmet, it refuses with a REASON and a SECTION. -/
def need (ok : Bool) (reason sect : Nat) : Chk Unit := if ok then .ok () else .error (reason, sect)

/-- Every item of a list passes a check; the first failure stands. -/
def checkAll {α : Type} (f : α → Chk Unit) : List α → Chk Unit
  | [] => .ok ()
  | x :: xs => (f x).bind (fun _ => checkAll f xs)

/-- One directory entry with its section's bytes (R36). -/
structure Sect where
  idx : Nat
  typ : Nat
  inst : Nat
  flags : Nat
  off : Nat
  len : Nat
  crc : Nat
  body : List Byte
deriving DecidableEq, Repr

/-- Bytes from an offset are all 0. -/
def zeros (b : List Byte) (o n : Nat) : Bool := (slice b o n).all (fun x => x == 0)

/-- Signed byte and signed 16-bit field at an offset. -/
def i8 (b : List Byte) (o : Nat) : Int := signed 8 (u8 b o)
def i16 (b : List Byte) (o : Nat) : Int := signed 16 (u16 b o)

/-! ### Step 1: the header (R35) -/

/-- Length of a header and the largest FULL image. -/
def maxFull : Nat := 12 * 1024 * 1024

/-- HDR_CRC of an image is good (R35). -/
def headerCrcOk (b : List Byte) : Bool := (crc32c (b.take 0x7C)).toNat == u32 b 0x7C

/-- A header is readable: magic, FORMAT and HDR_CRC are good (R57). -/
def headerReadable (b : List Byte) : Bool := u32 b 0 == 0x454D5246 && u16 b 4 == 0x0100 && headerCrcOk b

/-- The header checks of step 1, in the order R35 gives. -/
def checkHeader (live : Bool) (b : List Byte) : Chk Unit := do
  need (u32 b 0 == 0x454D5246 && u16 b 4 == 0x0100 && u32 b 0x1C == 0x00008256 && decide (u8 b 0x28 ≤ 0xB0)) 0x01 0x7F
  need (headerCrcOk b) 0x02 0x7F
  need (u16 b 6 == b2n live && u32 b 8 % 64 == 0 && (live || decide (u32 b 8 ≤ maxFull))
    && decide (1 ≤ u16 b 0xC) && decide (u16 b 0xC ≤ 64) && zeros b 0xE 2 && zeros b 0x18 4 && zeros b 0x29 23
    && zeros b 0x60 28 && (live || zeros b 0x40 32)) 0x01 0x7F

/-! ### Step 2: the directory (R36) -/

/-- The sections of an image as its directory lists them. -/
def sectsOf (b : List Byte) : List Sect :=
  (List.range (u16 b 0xC)).map (fun i =>
    let o := 0x80 + 16 * i
    { idx := i, typ := u8 b o, inst := u8 b (o + 1), flags := u16 b (o + 2), off := u32 b (o + 4),
      len := u32 b (o + 8), crc := u32 b (o + 12), body := slice b (u32 b (o + 4)) (u32 b (o + 8)) })

/-- A type the layout knows (R40). -/
def knownType (t : Nat) : Bool := decide (1 ≤ t) && decide (t ≤ 0x0F)
/-- A live type (R40). -/
def liveType (t : Nat) : Bool := decide (0x0C ≤ t) && decide (t ≤ 0x0F)
/-- A type with instances (R40): PLANE, CORE and POLICY. -/
def instType (t : Nat) : Bool := t == 2 || t == 9 || t == 0xF

/-- The rules of one directory entry; `lo` is where the section may start. -/
def checkEntry (imgLen lo : Nat) (s : Sect) : Chk Unit :=
  need (s.off % 64 == 0 && decide (lo ≤ s.off) && decide (s.off + s.len + 128 ≤ imgLen) && decide (s.flags < 4)
    && (!(knownType s.typ) || (bit s.flags 0 == liveType s.typ && (instType s.typ || s.inst == 0)))) 0x03 s.idx

/-- The rules of every entry, in ascending order and without overlap. -/
def checkDir (imgLen : Nat) : Nat → List Sect → Chk Unit
  | _, [] => .ok ()
  | lo, s :: ss => do
    checkEntry imgLen lo s
    checkDir imgLen (s.off + s.len) ss

/-! ### Step 3: signatures (R37, R38, R50) -/

/-- A signature block is accepted with the key slots given: 0x05 for the slot and key, 0x06 for the signature. -/
def checkSig (keys : List KeySlot) (blk msg : List Byte) : Option Nat :=
  if !(zeros blk 1 31) || decide (3 < u8 blk 0) then some 0x05
  else
    match keys[u8 blk 0]? with
    | none => some 0x05
    | some k =>
      if !k.programmed || k.revoked || sha256 (slice blk 0x20 32) != k.hash then some 0x05
      else if ed25519Verify (slice blk 0x20 32) msg (slice blk 0x40 64) then none else some 0x06

/-- The vendor block of CC0 or CC1 verifies under key slot 0 (R50). -/
def checkVendor (keys : List KeySlot) (s : Sect) : Chk Unit :=
  if s.typ == 9 && decide (s.inst ≤ 1) then
    let blk := s.body.drop (s.len - 128)
    need (decide (144 ≤ s.len) && u8 blk 0 == 0 && (checkSig keys blk (s.body.take (s.len - 128))).isNone) 0x07 s.idx
  else .ok ()

/-! ### Step 4: presence and duplication (R40) -/

/-- The first section of a type and instance. -/
def findSect (ss : List Sect) (t i : Nat) : Option Sect := ss.find? (fun s => s.typ == t && s.inst == i)

/-- The index of a section, or 0x7E where no entry applies. -/
def sectIdx (ss : List Sect) (t i : Nat) : Nat := match findSect ss t i with | some s => s.idx | none => 0x7E

/-- The bytes of a section, none where it is missing. -/
def sectBody (ss : List Sect) (t i : Nat) : List Byte := match findSect ss t i with | some s => s.body | none => []

/-- Duplicates, unknown critical entries, and structural entries of a LIVE image. -/
def checkPresent (live : Bool) : List Sect → List Sect → Chk Unit
  | _, [] => .ok ()
  | before, s :: ss => do
    need (!(before.any (fun p => p.typ == s.typ && p.inst == s.inst))) 0x08 s.idx
    need (knownType s.typ || !(bit s.flags 1)) 0x08 s.idx
    need (!live || !(knownType s.typ) || liveType s.typ) 0x08 s.idx
    checkPresent live (before ++ [s]) ss

/-- Sections a FULL image must hold (R40). -/
def checkRequired (ss : List Sect) : Chk Unit := do
  let mask := u8 (sectBody ss 1 0) 3
  let planes := (List.range 8).filter (fun c => bit mask c)
  let has := fun (t i : Nat) => (findSect ss t i).isSome
  need ([1, 3, 4, 5, 6, 7, 0xA, 0xB, 0xC].all (fun t => has t 0) && has 9 0 && has 9 1
    && planes.all (fun c => has 2 c)) 0x08 0x7E
  need (has 0xE 0 || planes.all (fun c => u8 (sectBody ss 0xC 0) c == 3)) 0x08 0x7E

/-! ### Reading the sections -/

def parseGeom (b : List Byte) : Geom :=
  { lpi := u8 b 0, seamMode := u8 b 1, seamLog2 := u8 b 2, planeMask := u8 b 3, xImg := u32 b 4, wImg := u32 b 8,
    selvL := u16 b 0xC, selvR := u16 b 0xE, maxRate := u32 b 0x10, stopMs := u16 b 0x14, gutterUse := u8 b 0x16 == 1,
    reanchor := bit (u8 b 0x17) 0 }

def parsePlane (c : Nat) (b : List Byte) : PlaneCfg :=
  { c := c, rowMode := u8 b 0, dropBits := u8 b 1, input := u8 b 2, codec := u8 b 3, region := u8 b 4,
    fallback := u8 b 5, preRes := u8 b 6 }

def parseRows (b : List Byte) : List RowCfg :=
  (chunks 8 b).map (fun r => { dR := u32 r 0, inUse := bit (u8 r 4) 0 })

def parseHeads (b : List Byte) : List HeadCfg :=
  (chunks 16 b).map (fun h =>
    { slot := u8 h 0, row := u8 h 1, link := u8 h 2, port := u8 h 3, place := u32 h 4, dH := i16 h 8,
      nozzles := u16 h 0xA, npi1200 := bit (u8 h 0xC) 0, bits := bits (u8 h 0xC) 1 2, tLow := i8 h 0xD,
      tHigh := i8 h 0xE })

def parseLinks (b : List Byte) : List LinkCfg :=
  (chunks 8 b).map (fun l =>
    { inUse := bit (u8 l 0) 0, idleOk := bit (u8 l 0) 1, dualPort := bit (u8 l 0) 2, minBuf := u8 l 1,
      maxLat := u16 l 2 })

def parseDram (b : List Byte) : DramCfg :=
  { chMask := u8 b 0, rate := u8 b 1, map := u8 b 2, capGib := u16 b 4,
    regions := (chunks 16 (b.drop 8)).map (fun r =>
      { id := u8 r 0, kind := u8 r 1, owner := u8 r 2, base := u32 r 4, size := u32 r 8 }) }

def parseOwn (b : List Byte) : List OwnRec :=
  (chunks 4 (b.drop 4)).map (fun r => { cls := u8 r 0, first := u8 r 1, count := u8 r 2, owner := u8 r 3 })

def parseCam (b : List Byte) : CamCfg :=
  { portMask := u8 b 0, lanes := (List.range 8).map (fun p => u8 b (4 + p)),
    rates := (List.range 8).map (fun p => u16 b (0xC + 2 * p)),
    chans := (chunks 16 (b.drop 32)).map (fun r =>
      { port := u8 r 0, vc := u8 r 1, cls := u8 r 2, priv := u8 r 3, owner := u8 r 4, dt := u8 r 5, trig := u8 r 6,
        width := u16 r 8, height := u16 r 0xA, region := u8 r 0xC }) }

def parseCore (n : Nat) (b : List Byte) : CoreCfg :=
  { core := n, role := u8 b 0, entry := u32 b 4, code := slice b 16 (u32 b 8),
    data := slice b (16 + u32 b 8) (u32 b 12) }

def parseTwin (b : List Byte) : TwinCfg :=
  { twin := u8 b 0 == 1, rank := u8 b 1, force := bit (u8 b 2) 0, holdoff := u32 b 4 }

def parseSys (b : List Byte) : SysCfg :=
  { enc0Scale := u64 b 0, indexPeriod := u32 b 8, indexTol := u32 b 0xC, enc1Use := u8 b 0x10 == 1,
    encoSrc := u8 b 0x11, encoDiv := u16 b 0x12, td0Domain := u8 b 0x14, td1Domain := u8 b 0x15, tstepUs := u16 b 0x16,
    refoSpread := u8 b 0x18 == 1 }

def parseRun (b : List Byte) : RunCfg :=
  { scrMode := (List.range 8).map (fun c => u8 b c), powerMode := u8 b 8, ladder := u8 b 9, grace := u16 b 0xA,
    lWarn := u8 b 0xC, lAsk := u8 b 0xD, lEnforce := u8 b 0xE, hkMs := u8 b 0xF }

def parseTone (b : List Byte) : List ToneRec :=
  (chunks 72 b).map (fun r => { head := u8 r 0, points := (List.range 33).map (fun k => u16 r (2 + 2 * k)) })

/-- The chain of SCREEN sub-blocks (R55); none where a sub-block does not end within the section, a reserved byte or a
padding byte is not 0. -/
def parseScreen : Nat → List Byte → Option (List ScreenBlk)
  | _, [] => some []
  | 0, _ => none
  | fuel + 1, b =>
    let n := u32 b 4
    let full := 8 + (n + 7) / 8 * 8
    if b.length < full || u8 b 3 ≠ 0 || !(zeros b (8 + n) (full - 8 - n)) then none
    else
      (parseScreen fuel (b.drop full)).map (fun r =>
        { kind := u8 b 0, index := u8 b 1, planeMask := u8 b 2, body := slice b 8 n } :: r)

/-- The live sections of an image. -/
def parseLive (ss : List Sect) : LiveCfg :=
  { run := (findSect ss 0xC 0).map (fun s => parseRun s.body),
    tone := parseTone (sectBody ss 0xD 0),
    screen := ((parseScreen 65536 (sectBody ss 0xE 0)).getD []),
    policy := (ss.filter (fun s => s.typ == 0xF)).map (fun s => { core := s.inst, bytes := s.body }) }

/-- The forme of a FULL image (R40). -/
def parseForme (img : List Byte) (ss : List Sect) : Forme :=
  let g := parseGeom (sectBody ss 1 0)
  { id := u32 img 0x10, rev := u32 img 0x14, geom := g,
    planes := (ss.filter (fun s => s.typ == 2 && bit g.planeMask s.inst)).map (fun s => parsePlane s.inst s.body),
    rows := parseRows (sectBody ss 3 0), heads := parseHeads (sectBody ss 4 0), links := parseLinks (sectBody ss 5 0),
    dram := parseDram (sectBody ss 6 0), bind := (List.range 4).map (fun h => u8 (sectBody ss 7 0) h),
    own := parseOwn (sectBody ss 7 0), cam := (findSect ss 8 0).map (fun s => parseCam s.body),
    cores := (ss.filter (fun s => s.typ == 9)).map (fun s => parseCore s.inst s.body),
    twin := parseTwin (sectBody ss 0xA 0), sys := parseSys (sectBody ss 0xB 0), live := parseLive ss }

/-! ### Derived quantities -/

/-- The heads offset of a head: D_r + d_h (R14). -/
def Forme.offset (f : Forme) (h : HeadCfg) : Int := (f.dR h.row : Int) + h.dH

/-- Bytes of a head's line in the LINE payload and lead buffer at `n` bits per drop (R194, R213). -/
def HeadCfg.lineBytes (h : HeadCfg) (n : Nat) : Nat := 64 * ((h.nozzles * n + 511) / 512)

/-- Depth of a link's lead buffer, with the bits per drop of each head given (R194). -/
def Forme.depth (f : Forme) (k : Nat) (bitsOf : HeadCfg → Nat) : Nat :=
  let b := ((f.linkHeads k).map (fun h => h.lineBytes (bitsOf h))).sum
  if b = 0 then 64 else min 64 (524288 / b)

/-- D_min: the least depth of the in-use links, every 3-bit plane at 3 bits (R428). -/
def Forme.dMin (f : Forme) : Nat :=
  ((List.range 32).filter (fun k => (f.link k).inUse)).foldl (fun m k => min m (f.depth k (·.bits))) 64

/-- Δ of a plane's ring in lines (R92). -/
def Forme.ringDelta (f : Forme) (c : Nat) : Nat :=
  let back := (f.rowHeads (2 * c + 1)).map f.offset
  let front := (f.rowHeads (2 * c)).map f.offset
  match back, front with
  | b :: bs, x :: xs => ((bs.foldl max b - xs.foldl min x + 63) / 64).toNat
  | _, _ => 0

/-- Bytes of a slot of a plane's ring (R92). -/
def Forme.ringSlot (f : Forme) (p : PlaneCfg) : Nat :=
  64 * ((((f.rowHeads (2 * p.c + 1)).map (fun h => h.nozzles * p.dropBits)).sum + 511) / 512)

/-- Slots of a plane's ring (R92). -/
def Forme.ringDepth (f : Forme) (p : PlaneCfg) : Nat :=
  if p.rowMode = 1 then f.ringDelta p.c + 128 else (f.ringDelta p.c + 1) / 2 + 64

/-- Size of a plane's ring in 64 KiB units; 0 without a ring (R92). -/
def Forme.ringSize (f : Forme) (p : PlaneCfg) : Nat :=
  if p.rowMode = 0 then 0 else (f.ringDepth p * f.ringSlot p + 65535) / 65536

/-- Where a plane's ring starts in its region, in 64 KiB units: rings stack downward from the top in ascending plane
order (R92). -/
def Forme.ringBase (f : Forme) (p : PlaneCfg) : Nat :=
  match f.region p.region with
  | some r =>
    r.size - ((f.planes.filter (fun q => q.region == p.region && decide (q.c ≤ p.c))).map f.ringSize).sum
  | none => 0

/-- DRAM peak in bytes per second at a rate ÷ 100 MT/s (R59, R332). -/
def DramCfg.peak (d : DramCfg) (rate : Nat) : Nat := (b2n (bit d.chMask 0) + b2n (bit d.chMask 1)) * 8 * rate * 100000000

/-- Raw fetch rate of a plane in bytes per 768 s (R59). -/
def Forme.fetch768 (f : Forme) (p : PlaneCfg) : Nat :=
  f.geom.wImg * (if p.input = 3 then p.dropBits else 8) * f.geom.maxRate * (96 / (p.fx * f.fy p))

/-- A ring's traffic in bytes per 768 s (R93). -/
def Forme.ring768 (f : Forme) (p : PlaneCfg) : Nat :=
  if p.rowMode = 0 then 0 else 2 * f.ringSlot p * f.geom.maxRate * (if p.rowMode = 2 then 384 else 768)

/-- R59 holds at a DRAM rate. -/
def Forme.fetchOk (f : Forme) (rate : Nat) : Bool :=
  decide (((f.planes.map f.fetch768).sum) * 10 ≤ 8 * 768 * f.dram.peak rate)

/-- The second check of R93 holds at a DRAM rate. -/
def Forme.trafficOk (f : Forme) (rate : Nat) : Bool :=
  decide (((f.planes.map (fun p => f.fetch768 p + f.ring768 p)).sum) * 10 ≤ 9 * 768 * f.dram.peak rate)

/-- Bytes of one export slot of a camera channel, rounded up to 64 KiB units (R270). -/
def ChanCfg.slotUnits (c : ChanCfg) : Nat := (64 + 2 * c.width * c.height + 65535) / 65536

/-! ### Step 5: lengths and reserved fields (R506) -/

/-- A SCREEN sub-block's body has its layout (R97, R101, R104, R111). -/
def bodyLayout (b : ScreenBlk) : Bool :=
  match b.kind with
  | 0 => decide (8 ≤ b.body.length) && b.body.length == 8 + 2 * u16 b.body 0 * u16 b.body 2 && zeros b.body 4 4
  | 1 => b.body.length == 16 && zeros b.body 13 3
  | 2 => b.body.length == 16 && zeros b.body 7 1 && zeros b.body 12 4
  | 3 => decide (8 ≤ b.body.length) && b.body.length == 8 + 4 * u8 b.body 0 && zeros b.body 2 6
      && (List.range (u8 b.body 0)).all (fun i => zeros b.body (9 + 4 * i) 1)
  | _ => false

/-- Every record of `n` bytes has zeros at given offsets and lengths. -/
def recZeros (n : Nat) (b : List Byte) (zs : List (Nat × Nat)) : Bool :=
  (chunks n b).all (fun r => zs.all (fun z => zeros r z.1 z.2))

/-- A section's length and reserved bytes are as its layout gives (R506). -/
def layoutOk (s : Sect) : Bool :=
  let b := s.body
  match s.typ with
  | 0x01 => s.len == 32 && zeros b 0x18 8
  | 0x02 => s.len == 8 && zeros b 7 1
  | 0x03 => s.len == 128 && recZeros 8 b [(5, 3)]
  | 0x04 => s.len % 16 == 0 && decide (16 ≤ s.len) && decide (s.len ≤ 4096) && recZeros 16 b [(15, 1)]
  | 0x05 => s.len == 256 && recZeros 8 b [(4, 4)]
  | 0x06 => decide (8 ≤ s.len) && s.len == 8 + 16 * u8 b 3 && zeros b 6 2 && recZeros 16 (b.drop 8) [(3, 1), (12, 4)]
  | 0x07 => decide (4 ≤ s.len) && s.len % 4 == 0
  | 0x08 => decide (32 ≤ s.len) && s.len == 32 + 16 * u8 b 1 && zeros b 2 2 && zeros b 0x1C 4
      && recZeros 16 (b.drop 32) [(7, 1), (13, 3)]
  | 0x09 => decide (16 ≤ s.len) && s.len == 16 + u32 b 8 + u32 b 12 + (if s.inst ≤ 1 then 128 else 0) && zeros b 1 3
  | 0x0A => s.len == 8 && zeros b 3 1
  | 0x0B => s.len == 32 && zeros b 0x19 7
  | 0x0C => s.len == 16
  | 0x0D => s.len % 72 == 0 && recZeros 72 b [(1, 1), (68, 4)]
  | 0x0E => (match parseScreen 65536 b with | some l => l.all bodyLayout | none => false)
  | 0x0F => decide (s.len ≤ 65536)
  | _ => true

/-! ### Step 5: field ranges and section rules (REASON 0x09) -/

/-- A value lies in a range. -/
def within (lo hi v : Nat) : Bool := decide (lo ≤ v) && decide (v ≤ hi)

/-- No item of a list occurs twice. -/
def noRepeat {α : Type} [BEq α] : List α → Bool
  | [] => true
  | x :: xs => !(xs.contains x) && noRepeat xs

def geomOk (b : List Byte) : Bool :=
  let g := parseGeom b
  within 0 3 g.lpi && within 0 1 g.seamMode && within 8 16 g.seamLog2 && g.planeMask != 0 && decide (1 ≤ g.wImg)
    && within 0 566 g.selvL && within 0 566 g.selvR && within 1 320000 g.maxRate && within 5 500 g.stopMs
    && within 0 1 (u8 b 0x16) && within 0 1 (u8 b 0x17)

/-- R43 and the fallback rule of R98: a PRESCREENED plane's FALLBACK_MAP is ignored. -/
def fallbackOk (p : PlaneCfg) (screen : List ScreenBlk) : Bool :=
  p.input == 3 || p.fallback == 0xFF ||
  (match findBlk screen 3 p.fallback p.c with
   | some b => p.dropBits == 3 && u8 b.body 1 == 3 && decide (u8 b.body 0 ≤ 4)
   | none => false)

def planeOk (f : Forme) (p : PlaneCfg) : Bool :=
  within 0 2 p.rowMode && within 1 3 p.dropBits && within 0 3 p.input && within 0 1 p.codec
    && (if p.input = 3 then within 0 2 p.preRes else p.preRes == 0)
    && (match f.region p.region with | some r => r.kind == 0 | none => false)

def rowsOk (f : Forme) (b : List Byte) : Bool :=
  (chunks 8 b).all (fun r => decide (u32 r 0 < 16777216) && within 0 1 (u8 r 4))
    && (List.range 16).all (fun r => (f.rows.getD r { dR := 0, inUse := false }).inUse == f.heads.any (fun h => h.row == r))

def headsOk (f : Forme) (b : List Byte) : Bool :=
  noRepeat (f.heads.map (·.slot)) && noRepeat (f.heads.map (fun h => (h.link, h.port)))
    && (chunks 16 b).all (fun h => within 0 7 (u8 h 0xC))
    && f.heads.all (fun h =>
      decide (h.row < 16) && (f.rows.getD h.row { dR := 0, inUse := false }).inUse && decide (h.link < 32)
      && decide (h.port < 8) && decide (h.place < 2097152) && within 1 4096 h.nozzles && decide (h.tLow < h.tHigh)
      && (match f.plane (h.row / 2) with | some p => h.bits == p.dropBits | none => false))

def linksOk (f : Forme) (b : List Byte) : Bool :=
  (chunks 8 b).all (fun l => within 0 7 (u8 l 0))
    && (List.range 32).all (fun k =>
      let l := f.link k
      (l.inUse == f.heads.any (fun h => h.link == k)) && (!l.inUse || within 64 255 l.minBuf)
      && (!l.inUse || !f.twin.twin || l.dualPort))

/-- Two regions do not overlap (R47). -/
def Region.apart (a b : Region) : Bool := decide (a.base + a.size ≤ b.base) || decide (b.base + b.size ≤ a.base)

/-- Every pair of a list satisfies a relation. -/
def pairwise {α : Type} (r : α → α → Bool) : List α → Bool
  | [] => true
  | x :: xs => xs.all (r x) && pairwise r xs

/-- R47, R334 and R381. -/
def dramOk (f : Forme) (b : List Byte) : Bool :=
  let d := f.dram
  within 1 3 d.chMask && within 32 64 d.rate && d.rate % 4 == 0 && decide (d.map % 128 ≤ 2)
    && (d.map % 128 != 2 || d.chMask == 3) && within 1 32 (u8 b 3) && within 1 64 d.capGib
    && noRepeat (d.regions.map (·.id)) && pairwise Region.apart d.regions
    && d.regions.all (fun r => within 0 5 r.kind && (decide (r.owner ≤ 3) || r.owner == 0xFF) && decide (1 ≤ r.size)
      && decide (r.base + r.size ≤ d.capGib * 16384))
    && (match d.regions.filter (fun r => r.kind == 5) with | [r] => r.owner == 0xFF | _ => false)
    && (!f.twin.twin || (match d.regions.filter (fun r => r.kind == 4) with
      | [r] => r.owner == 0xFF && decide (((d.regions.filter (fun q => q.kind == 0)).map (·.size)).sum ≤ r.size)
      | _ => false))

/-- Indices of an OWN class (R507). -/
def classSize (c : Nat) : Nat := [8, 32, 8, 4, 16, 8, 16, 1, 8, 1, 1, 1].getD c 0

def OwnRec.apart (a b : OwnRec) : Bool :=
  a.cls != b.cls || decide (a.first + a.count ≤ b.first) || decide (b.first + b.count ≤ a.first)

def ownOk (f : Forme) : Bool :=
  f.bind.all (fun b => decide (b ≤ 3) || b == 0xFF) && f.bind.getD 0 0xFF != 0xFF
    && noRepeat (f.bind.filter (fun b => decide (b ≤ 1)))
    && f.own.all (fun o => decide (o.cls ≤ 11) && decide (1 ≤ o.count) && decide (o.first + o.count ≤ classSize o.cls)
      && decide (o.owner ≤ 3) && f.bind.getD o.owner 0xFF != 0xFF)
    && pairwise OwnRec.apart f.own

/-- R49 and R244. -/
def camOk (f : Forme) (c : CamCfg) : Bool :=
  decide (c.chans.length ≤ 64)
    && (List.range 8).all (fun p => !(bit c.portMask p) || (within 1 4 (c.lanes.getD p 0) && within 80 2500 (c.rates.getD p 0)))
    && noRepeat (c.chans.map (fun x => (x.port, x.vc)))
    && c.chans.all (fun x =>
      decide (x.port < 8) && bit c.portMask x.port && decide (x.vc < 16) && decide (x.cls ≤ 1) && decide (x.priv ≤ 2)
      && decide (x.owner ≤ 3) && within 0x2B 0x2E x.dt && decide (x.trig < 32) && within 8 4096 x.width
      && (if x.dt = 0x2B || x.dt = 0x2D then x.width % 4 == 0 else x.dt != 0x2C || x.width % 2 == 0)
      && decide (1 ≤ x.height)
      && (x.region == 0xFF || (match f.region x.region with
          | some r => r.kind == 1 && decide (x.slotUnits ≤ r.size)
          | none => false))
      && (x.priv != 2 || x.region != 0xFF && (match f.region x.region with | some r => r.owner == x.owner | none => false)))

/-- R50 and R297. -/
def coreOk (f : Forme) (s : Sect) : Bool :=
  let c := parseCore s.inst s.body
  let n := u32 s.body 8
  decide (s.inst < 8) && decide (c.role ≤ 5)
    && (if s.inst = 0 then c.role == 0 else if s.inst = 1 then c.role == 1 else decide (2 ≤ c.role))
    && decide (n + u32 s.body 12 ≤ 262144)
    && ((c.role != 2 && c.role != 3) || (f.cores.filter (fun x => x.role == c.role)).length == 1)
    && (c.role == 5 || (n % 4 == 0 && decide (8 ≤ n) && c.entry % 4 == 0 && decide (4 ≤ c.entry) && decide (c.entry + 4 ≤ n)))

def twinOk (b : List Byte) : Bool :=
  within 0 1 (u8 b 0) && (u8 b 0 == 0 || u8 b 1 == 0x80 || u8 b 1 == 0x40) && within 0 1 (u8 b 2)
    && within 1000 600000 (u32 b 4)

/-- R52, R164 and R178. -/
def sysOk (b : List Byte) : Bool :=
  let y := parseSys b
  y.enc0Scale != 0 && (y.indexPeriod == 0 || decide (4 * y.indexTol < y.indexPeriod)) && within 0 1 (u8 b 0x10)
    && within 0 1 y.encoSrc && decide (1 ≤ y.encoDiv) && decide (1 ≤ y.tstepUs) && within 0 1 (u8 b 0x18)

/-- R53 and R428. -/
def runOk (f : Forme) (r : RunCfg) : Bool :=
  r.scrMode.all (fun m => decide (m ≤ 3)) && decide (r.powerMode ≤ 2) && decide (r.ladder ≤ 3) && within 5 600 r.grace
    && within 1 64 r.lWarn && decide (r.lAsk < r.lWarn) && decide (r.lEnforce < r.lAsk) && decide (1 ≤ r.lEnforce)
    && within 2 100 r.hkMs && decide (r.lWarn + 4 ≤ f.dMin)

/-- One sub-block's ranges (R97, R101, R104, R111). -/
def blkOk (b : ScreenBlk) : Bool :=
  match b.kind with
  | 0 => decide (b.index ≤ 15) && within 8 256 (u16 b.body 0) && within 8 256 (u16 b.body 2)
      && (chunks 2 (b.body.drop 8)).all (fun e => decide (leNat e < 4096))
  | 1 => decide (b.index ≤ 15) && ((b.body.take 12).map (·.toNat)).sum == 256 && within 0 1 (u8 b.body 12)
  | 2 => decide (b.index ≤ 7)
  | 3 =>
    let l := dropLevels b.body
    decide (b.index ≤ 31) && within 2 8 (u8 b.body 0) && within 1 3 (u8 b.body 1)
      && decide (u8 b.body 0 ≤ 2 ^ u8 b.body 1) && (l.head?.map (fun x => x.code == 0 && x.value == 0)).getD false
      && noRepeat (l.map (·.code)) && l.all (fun x => decide (x.code < 2 ^ u8 b.body 1) && decide (x.value ≤ 4095))
      && pairwise (fun x y => decide (x.value < y.value)) l
  | _ => false

/-- Entries the matrices of a set take (R101, R102). -/
def matrixTotal (l : List ScreenBlk) : Nat :=
  ((l.filter (fun b => b.kind == 0)).map (fun b => (u16 b.body 0 * u16 b.body 2 + 31) / 32 * 32)).sum

/-- What R112 and R98 ask of a plane that is not BYPASS. -/
def bindingOk (run : RunCfg) (screen : List ScreenBlk) (p : PlaneCfg) : Bool :=
  let m := run.mode p.c
  m == 3 ||
  (match seedBlk screen p.c with
   | none => false
   | some b =>
     let mat := (findBlk screen 0 (u8 b.body 4) p.c).isSome
     let wts := (findBlk screen 1 (u8 b.body 5) p.c).isSome
     u32 b.body 0 != 0
       && (match findBlk screen 3 (u8 b.body 6) p.c with | some dm => u8 dm.body 1 == p.dropBits | none => false)
       && (m == 1 || mat) && (m != 1 || wts) && (!(bit run.ladder 0) || m == 0 || mat))

/-- SCREEN as it would stand, and the bindings of every plane in use. -/
def screenOk (f : Forme) (run : RunCfg) (own all : List ScreenBlk) : Bool :=
  own.all blkOk && noRepeat (own.map (fun b => (b.kind, b.index))) && decide (matrixTotal all ≤ 786432)
    && f.planes.all (fun p => fallbackOk p all && bindingOk run all p)

/-- The role-dependent part of a POLICY block (R293, with R143's range of DASH and a reference row in use). -/
def policyParams (f : Forme) (role : Nat) (q : List Byte) : Bool :=
  match role with
  | 1 => within 2 64 (u8 q 0) && decide (1 ≤ u8 q 1) && within 2 8 (u8 q 3) && within 2 8 (u8 q 4) && decide (1 ≤ u8 q 5) && zeros q 0x17 41
  | 2 => within 1 8 (u8 q 0x14) && (List.range 16).all (fun r => decide (u16 q (0x18 + 2 * r) < 4096))
      && zeros q 0x15 3 && zeros q 0x38 8
  | 3 => f.rowsInUse.contains (u8 q 0) && within 2 16 (u8 q 1) && zeros q 0x10 48
  | _ => zeros q 0 64

/-- A POLICY block: checked only where its core runs one of Lyslek's recipes (R56, R292 to R294). -/
def policyOk (f : Forme) (s : Sect) : Bool :=
  let b := s.body
  let role := f.role s.inst
  decide (s.inst < 8) &&
  (decide (4 ≤ role) ||
    (decide (80 ≤ s.len) && u32 b 0 == 0x594C4F50 && u8 b 4 == role && decide (1 ≤ u8 b 5) && decide (u16 b 6 ≤ 2044)
      && within 1 16777216 (u32 b 8) && zeros b 12 4 && s.len == 80 + 32 * u16 b 6 && policyParams f role (slice b 16 64)
      && (chunks 32 (b.drop 80)).all (fun r => decide (u8 r 0 < 8) && decide (u8 r 1 < 32) && decide (u8 r 2 ≤ 2)
        && decide (u8 r 3 < 16) && decide (u8 r 5 ≤ 2) && zeros r 0x1C 4)))

/-- The section rules of one section, `run` and `all` being RUN and SCREEN as the image would leave them. -/
def sectOk (f : Forme) (run : RunCfg) (all : List ScreenBlk) (hasScreen : Bool) (s : Sect) : Bool :=
  match s.typ with
  | 0x01 => geomOk s.body
  | 0x02 => decide (s.inst < 8) && planeOk f (parsePlane s.inst s.body) && fallbackOk (parsePlane s.inst s.body) all
  | 0x03 => rowsOk f s.body
  | 0x04 => headsOk f s.body
  | 0x05 => linksOk f s.body
  | 0x06 => dramOk f s.body
  | 0x07 => ownOk f
  | 0x08 => camOk f (parseCam s.body)
  | 0x09 => coreOk f s
  | 0x0A => twinOk s.body
  | 0x0B => sysOk s.body
  | 0x0C => runOk f (parseRun s.body) && (hasScreen || screenOk f run [] all)
  | 0x0D => noRepeat ((parseTone s.body).map (·.head))
  | 0x0E => screenOk f run ((parseScreen 65536 s.body).getD []) all
  | 0x0F => policyOk f s
  | _ => true

/-! ### Step 6: geometry and payload (R9 to R25, R32, R33) -/

/-- The columns of a head's nozzles run from col0 in steps of its pitch. -/
def HeadCfg.lastCol (h : HeadCfg) : Int := h.col0 0 + ((h.nozzles : Int) - 1) * h.pitch

/-- A column is served by one of a list of heads. -/
def served (hs : List HeadCfg) (x : Int) : Bool := hs.any (fun h => decide (0 ≤ x) && (h.nozzleAt 0 x.toNat).isSome)

/-- Columns two heads share (R21). -/
def shared (a b : HeadCfg) : Nat :=
  ((List.range a.nozzles).filter (fun n => served [b] (a.colOf 0 n))).length

/-- R21 for one row: at most two heads to a column, stitch zones of at most 512 nozzles. -/
def stitchOk (hs : List HeadCfg) : Bool :=
  pairwise (fun a b => decide (shared a b ≤ 512)) hs
    && hs.all (fun h => (List.range h.nozzles).all (fun n =>
      decide ((hs.filter (fun o => served [o] (h.colOf 0 n))).length ≤ 2)))

/-- The column grid of a plane from a column up, `n` columns (R22): its first column and step. -/
def gridStep (f : Forme) (p : PlaneCfg) : Int × Nat :=
  let hs := f.rowHeads (2 * p.c) ++ f.rowHeads (2 * p.c + 1)
  let lo : Int := (f.geom.xImg : Int) - f.geom.selvL
  if p.rowMode ≠ 1 && hs.all (fun h => !h.npi1200) then
    match (sortBy (fun h => (h.place : Int)) hs).head? with
    | some h => (lo + (h.col0 0 - lo) % 2, 2)
    | none => (lo, 1)
  else (lo, 1)

/-- Every column of a plane's grid across image and selvedge is served by a list of heads (R22); no head reaches past
column 104,959, so a longer grid is not. -/
def gridServed (f : Forme) (p : PlaneCfg) (hs : List HeadCfg) : Bool :=
  let (x0, st) := gridStep f p
  let hi : Int := (f.geom.xImg : Int) + f.geom.wImg + f.geom.selvR - 1
  let n := ((hi - x0) / st + 1).toNat
  decide (n ≤ 104960) && (List.range n).all (fun i => served hs (x0 + (i * st : Nat)))

/-- The geometry rules of a plane: R16, R18, R19, R20, R22, with the section each failure names. -/
def checkPlaneGeom (f : Forme) (ss : List Sect) (p : PlaneCfg) : Chk Unit := do
  let front := f.rowHeads (2 * p.c)
  let back := f.rowHeads (2 * p.c + 1)
  let rowSec := sectIdx ss 3 0
  let headSec := sectIdx ss 4 0
  need (front.isEmpty || back.isEmpty || decide (f.dR (2 * p.c) < f.dR (2 * p.c + 1))) 0x0A rowSec
  need (if p.rowMode = 0 then back.isEmpty else !front.isEmpty && !back.isEmpty) 0x0A headSec
  need (p.rowMode != 1 || (front ++ back).all (fun h => !h.npi1200)) 0x0A headSec
  need (p.rowMode != 1 || front.all (fun a => back.all (fun b => decide (a.col0 0 % 2 ≠ b.col0 0 % 2)))) 0x0A headSec
  need (p.rowMode != 2 || (front ++ back).all (fun h => h.npi1200 == (front.any (·.npi1200)))) 0x0A headSec
  need (stitchOk front && stitchOk back) 0x0A headSec
  need (if p.rowMode = 2 then gridServed f p front && gridServed f p back else gridServed f p (front ++ back)) 0x0A headSec
  need (f.geom.lpiVal % p.ppi == 0) 0x0A (sectIdx ss 2 p.c)

/-- Twice the row line rate of a head at MAX_RATE (R32). -/
def Forme.rate2 (f : Forme) (h : HeadCfg) : Nat := if f.rowStep h.row = 2 then f.geom.maxRate else 2 * f.geom.maxRate

/-- Step 6 (R58). -/
def checkGeometry (f : Forme) (ss : List Sect) : Chk Unit := do
  let headSec := sectIdx ss 4 0
  checkAll (fun h => do
    need (decide (0 ≤ h.col0 0) && decide (h.lastCol ≤ 104959)) 0x0A headSec
    need (decide (0 ≤ f.offset h)) 0x0A headSec) f.heads
  checkAll (checkPlaneGeom f ss) f.planes
  need (f.heads.all (fun h => decide (f.rate2 h ≤ 320000))) 0x0B (sectIdx ss 1 0)
  checkAll (fun k =>
    need (decide (((f.linkHeads k).map (fun h => h.nozzles * h.bits * f.rate2 h)).sum ≤ 16000000000)) 0x0B (sectIdx ss 5 0))
    (List.range 32)
  need (decide ((f.heads.map (fun h => h.nozzles * h.bits * f.rate2 h)).sum ≤ 512000000000)) 0x0B (sectIdx ss 1 0)

/-! ### Step 7: budget, rings and combinations (R59, R67, R93) -/

/-- The rings of a region fit it (R93). -/
def Forme.ringsFit (f : Forme) (p : PlaneCfg) : Bool :=
  match f.region p.region with
  | some r => decide (((f.planes.filter (fun q => q.region == p.region)).map f.ringSize).sum ≤ r.size)
  | none => false

/-- The combination table on the values an image would leave in force (R67). -/
def checkCombos (f : Forme) (run : RunCfg) (runSec : Nat) (planeSec : Nat → Nat) : Chk Unit :=
  checkAll (fun p => do
    need ((run.mode p.c == 3) == (p.input == 3)) 0x0D runSec
    need (!(bit run.ladder 1) || p.dropBits != 3 || p.input == 3 || p.fallback != 0xFF) 0x0D (planeSec p.c)) f.planes

/-- Step 7 of a FULL image. -/
def checkBudget (f : Forme) (run : RunCfg) (ss : List Sect) : Chk Unit := do
  let dramSec := sectIdx ss 6 0
  need (f.fetchOk f.dram.rate) 0x0C dramSec
  need (f.planes.all f.ringsFit) 0x09 dramSec
  need (f.trafficOk f.dram.rate) 0x0C dramSec
  checkCombos f run (sectIdx ss 0xC 0) (sectIdx ss 2)

/-! ### The checks in order (R58) -/

/-- The digest of an image (R39). -/
def imageDigest (img : List Byte) : List Byte := sha256 (img.take (u32 img 8 - 128))

/-- Steps 2 and 3, common to both kinds. -/
def checkSigned (keys : List KeySlot) (img : List Byte) (ss : List Sect) : Chk Unit := do
  let n := u32 img 8
  checkDir n (0x80 + 16 * u16 img 0xC) ss
  checkAll (fun s => need ((crc32c s.body).toNat == s.crc) 0x04 s.idx) ss
  (match checkSig keys (img.drop (n - 128)) (img.take (n - 128)) with
   | some r => need false r 0x7F
   | none => need true 0 0)
  checkAll (checkVendor keys) ss

/-- A FULL image checked through every step of R58: the forme, or the refusal. -/
def checkFull (keys : List KeySlot) (bytes : List Byte) : Chk Forme := do
  checkHeader false (padTo 128 0 bytes)
  let img := padTo (u32 bytes 8) 0 bytes
  let ss := sectsOf img
  checkSigned keys img ss
  checkPresent false [] ss
  checkRequired ss
  checkAll (fun s => need (layoutOk s) 0x09 s.idx) ss
  let f := parseForme img ss
  let run := (f.live.run).getD (parseRun [])
  checkAll (fun s => need (sectOk f run f.live.screen (findSect ss 0xE 0).isSome s) 0x09 s.idx) ss
  checkGeometry f ss
  checkBudget f run ss
  pure f

/-- Values in force and bound to come, with a LIVE image's laid over them (R61, R62). -/
def LiveCfg.merge (a b : LiveCfg) : LiveCfg :=
  { run := match b.run with | some r => some r | none => a.run,
    tone := a.tone.filter (fun t => !(b.tone.any (fun u => u.head == t.head))) ++ b.tone,
    screen := mergeBlks a.screen b.screen,
    policy := a.policy.filter (fun p => !(b.policy.any (fun q => q.core == p.core))) ++ b.policy }

/-- A LIVE image checked against the forme in force and the live values in force or bound to come (R58, R61). -/
def checkLive (keys : List KeySlot) (f : Forme) (cur : LiveCfg) (base : List Byte) (bytes : List Byte) : Chk LiveCfg := do
  checkHeader true (padTo 128 0 bytes)
  let stage := match f.dram.regions.find? (fun r => r.kind == 5) with | some r => r.size * 65536 | none => 0
  need (slice bytes 0x40 32 == base && decide (u32 bytes 8 ≤ stage)) 0x0F 0x7F
  let img := padTo (u32 bytes 8) 0 bytes
  let ss := sectsOf img
  checkSigned keys img ss
  checkPresent true [] ss
  checkAll (fun s => need (layoutOk s) 0x09 s.idx) ss
  let l := parseLive ss
  let m := cur.merge l
  let run := (m.run).getD (parseRun [])
  checkAll (fun s => need (sectOk f run m.screen (findSect ss 0xE 0).isSome s) 0x09 s.idx) ss
  checkCombos f run (sectIdx ss 0xC 0) (fun _ => sectIdx ss 0xC 0)
  pure l

end Sys2Proof.Machine
end

