-- ==== Sys2Proof/Machine/Dram.lean ====
section
/-!
DEFINITION. The DRAM controller (chapter 12): training and fill, refresh and panic, retraining, set points,
self-refresh, errors and the scrubber. Commands here are the controller's own; writes of its registers are judged in
Window.lean. What a channel's pins carry is named in the output log; its timing is left out (NOTES, Scope).
-/
namespace Sys2Proof.Machine

/-- A DRAM channel. -/
def Dev.dch (d : Dev) (m : Nat) : DramCh := Sparse.get (fun _ => .zero) d.dc.chans m
def Dev.setDch (d : Dev) (m : Nat) (x : DramCh) : Dev :=
  { d with dc := { d.dc with chans := Sparse.set (fun _ => .zero) d.dc.chans m x } }

/-- Offsets of DC_CH_STATUS m and the registers beside it. -/
def dcCh (m o : Nat) : Nat := 0x100100 + 0x100 * m + o

/-- STATE of a channel in DC_STATUS: 0 OFF, 1 TRAINING, 2 READY, 3 FAILED. -/
def Dev.dcState (d : Dev) (m : Nat) : Nat := fld (d.reg 0x100004) (2 * m) 2
def Dev.setDcState (d : Dev) (m v : Nat) : Dev := d.setRegFld 0x100004 (2 * m) 2 v
/-- The channel is READY. -/
def Dev.dcReady (d : Dev) (m : Nat) : Bool := d.dcState m == 2

/-- Source of every event of the controller (R472). -/
def dcSource : Nat := 0x10FF

/-! ### Panic (R89, R341, R342) -/

/-- The planes whose swath fetch ports are in panic. -/
def Dev.panicking (d : Dev) : List Nat := (List.range 8).filter (fun c => (d.port c).panic)
/-- Some real-time port is in panic. -/
def Dev.anyPanic (d : Dev) : Bool := !d.panicking.isEmpty

/-- A refresh issued ahead of panic: EV_PANIC once per episode (R342). -/
def Dev.tellPanic (d : Dev) (m : Nat) : Dev :=
  d.panicking.foldl (fun d c =>
    let p := d.port c
    if p.panicTold then d
    else (d.setPort c { p with panicTold := true }).raiseAll 0x0019 dcSource (BitVec.ofNat 32 (c + 256 * m))
      (BitVec.ofNat 32 ((d.now - p.panicAt) / 1000000))) d

/-- One refresh of a channel. -/
def Dev.issueRefresh (d : Dev) (m : Nat) : Dev := (d.emit (.dramCmd m 0)).count (576 + 16 * m + 3) 1

/-- `n` refreshes back to back. -/
def Dev.issueRefreshes (m : Nat) : Nat → Dev → Dev
  | 0, d => d
  | n + 1, d => Dev.issueRefreshes m n (d.issueRefresh m)

/-- p of a channel (R341). -/
def Dev.postponed (d : Dev) (m : Nat) : Nat := fld (d.reg (dcCh m 0)) 24 4
def Dev.setPostponed (d : Dev) (m p : Nat) : Dev := d.setRegFld (dcCh m 0) 24 4 p

/-- A refresh falls due on a channel that is READY and not in self-refresh (R341). -/
def Dev.refreshDue (d : Dev) (m : Nat) : Dev :=
  if !(d.dcReady m) || (d.dch m).selfRefresh then d
  else if d.anyPanic then
    if d.postponed m < 8 then (d.setPostponed m (d.postponed m + 1)).count (576 + 16 * m + 4) 1
    else (d.issueRefresh m).tellPanic m
  else d.issueRefresh m

/-! ### Retraining (R343, R344) -/

/-- A retraining round begins, at the temperature last read; one still gathering is not doubled (R343, R344). -/
def Dev.startRound (d : Dev) (m : Nat) : Dev :=
  if !(d.dcReady m) then d
  else match (d.dch m).round with
    | some _ => d
    | none => d.setDch m { d.dch m with round := some 0, due := none, temp := (d.dch m).read }

/-- One pause of the round in progress is issued: the fifth completes it (R343, R344). -/
def Dev.issuePause (d : Dev) (m : Nat) : Dev :=
  let x := d.dch m
  match x.round with
  | none => d
  | some k =>
    let waited := match x.due with | some t => (d.now - t) / 1000000 | none => 0
    let d := d.setReg (dcCh m 0xC) (BitVec.ofNat 32 (max (d.reg (dcCh m 0xC)).toNat (min waited 4294967295)))
    let d := (d.emit (.dramCmd m 1)).count (576 + 16 * m + 6) 1
    if 4 ≤ k then
      let d := d.setDch m { x with round := none, due := none, lastPause := some d.now }
      let d := d.bump (dcCh m 4)
      d.setRegFld (dcCh m 0) 20 1 0
    else d.setDch m { x with round := some (k + 1), due := none, lastPause := some d.now }

/-- A set-point change is wanted and not held (R345, R346). -/
def Dev.freqWanted (d : Dev) : Bool := flag (d.reg 0x100004) 5 && !(flag (d.reg 0x100004) 6)

/-- A pause falls due (R343, R344): at least 10 µs after the last, it waits out panic, and a set-point change takes the
place of it (R345). -/
def Dev.pauseDue (d : Dev) (m : Nat) : Dev :=
  let x := d.dch m
  let early := match x.lastPause with | some t => decide (d.now < t + 10000000) | none => false
  if !(d.dcReady m) || x.round.isNone || early || d.freqWanted then d
  else if d.anyPanic then d.setDch m { x with due := match x.due with | some t => some t | none => some d.now }
  else d.issuePause m

/-- RETRAIN_INT elapses (R343, R344). -/
def Dev.retrainInterval (d : Dev) (m : Nat) : Dev :=
  if !(d.dcReady m) then d
  else match (d.dch m).round with
    | some _ => d.setRegFld (dcCh m 0) 20 1 1
    | none => d.startRound m

/-- The last panic has cleared: each channel makes up its postponed refreshes in one burst and issues a pause that
waited (R341, R344). -/
def Dev.panicCleared (d : Dev) : Dev :=
  if d.anyPanic then d
  else [0, 1].foldl (fun d m =>
    let p := d.postponed m
    let d := if p = 0 then d
      else ((Dev.issueRefreshes m p d).setPostponed m 0).count (576 + 16 * m + 5) 1
    if (d.dch m).due.isSome then d.issuePause m else d) d

/-- The time a plane has spent in panic is counted up to now (R323). -/
def Dev.settlePanic (d : Dev) (c : Nat) : Dev :=
  let p := d.port c
  if p.panic then
    (d.setPort c { p with panicSince := d.now }).count (128 + 24 * c + 19) (d.now / 1000000 - p.panicSince / 1000000)
  else d

/-- The swath ports let go of what they hold; a panic of theirs ends with it. -/
def Dev.dropSwath (d : Dev) : Dev :=
  let was := d.anyPanic
  let d : Dev := { (List.range 8).foldl Dev.settlePanic d with swath := [] }
  if was then d.panicCleared else d

/-! ### Set points (R345, R346) -/

/-- A change to LOW satisfies R59 and R93 at the LOW rate (R346). -/
def Dev.lowFits (d : Dev) : Bool :=
  match d.forme with
  | some f => f.fetchOk (fld (d.reg 0x10000C) 0 8) && f.trafficOk (fld (d.reg 0x10000C) 0 8)
  | none => true

/-- A round that gathers is abandoned (R346). -/
def Dev.abandonRound (d : Dev) (m : Nat) : Dev :=
  match (d.dch m).round with
  | some _ => (d.setDch m { d.dch m with round := none, due := none }).bump (dcCh m 8)
  | none => d

/-- DC_CTRL.SETPOINT takes a value (R345, R346): FREQ_PEND from the write, FREQ_HELD where the budget fails. -/
def Dev.askSetpoint (d : Dev) (low : Bool) : Dev :=
  if low == flag (d.reg 0x100004) 4 then d.setRegFld 0x100004 5 2 0
  else
    let held := low && d.printing && !d.lowFits
    let d := d.setRegFld 0x100004 5 2 (1 + 2 * b2n held)
    [0, 1].foldl Dev.abandonRound d

/-- A write of DC_CTRL (R345, R343): the stored bits, a change of SETPOINT, and RETRAIN. -/
def Dev.writeDcCtrl (d : Dev) (v : Word) : Dev :=
  let old := d.reg 0x100000
  let d := d.setReg 0x100000 (v &&& 0x00000019)
  let d := if flag old 0 == flag v 0 then d else d.askSetpoint (flag v 0)
  if flag v 5 then [0, 1].foldl Dev.startRound d else d

/-- A write of DC_LOWRATE (R346): above HIGH, not allowed by R334, or made while LOW is in force, it is a host error. -/
def Dev.writeLowRate (d : Dev) (v : Word) : Eff :=
  let r := fld v 0 8
  let high := fld (d.reg 0x100008) 0 8
  if flag (d.reg 0x100004) 4 || r % 4 ≠ 0 || r < 32 || 64 < r || (high ≠ 0 && high < r) then hostError 346
  else
    let d := d.setReg 0x10000C (BitVec.ofNat 32 r)
    .ok (if high = 0 then d else d.setRegFld 0x100008 8 8 r)

/-- The change pause (R345): never while a panic is active; both channels move, and a round begins on each. -/
def Dev.changePause (d : Dev) : Dev :=
  if !d.freqWanted || d.anyPanic then d
  else
    let sp := flag (d.reg 0x100000) 0
    let d := [0, 1].foldl (fun d m =>
      if d.dcReady m then
        let d := (d.emit (.dramCmd m 4)).count (576 + 16 * m + 10) 1
        d.setDch m { d.dch m with selfRefresh := false }
      else d) d
    let d := (d.setRegFld 0x100004 5 1 0).setRegFld 0x100004 4 1 (b2n sp)
    [0, 1].foldl Dev.startRound d

/-- The job boundary releases a held change (R346). -/
def Dev.dramBoundary (d : Dev) : Dev := d.setRegFld 0x100004 6 1 0

/-! ### Address map and self-refresh (R337, R347, R348) -/

/-- The channel a burst lies on (R337). -/
def Dev.channelOf (d : Dev) (a : Nat) : Nat :=
  match d.dc.header with
  | some (3, _, map, cap) =>
    (match map % 128 with
     | 0 => a / 128 % 2
     | 1 => a / 512 % 2
     | _ => if a < cap * 536870912 then 0 else 1)
  | some (2, _, _, _) => 1
  | _ => 0

/-- The subchannel a burst lies on (R337); under map 2 it stands above the burst's column, bank group and bank. -/
def Dev.subchannelOf (d : Dev) (a : Nat) : Nat :=
  match d.dc.header with
  | some (_, _, map, _) =>
    (match map % 128 with
     | 0 => a / 64 % 2
     | 1 => a / 256 % 2
     | _ => if fld (d.reg (dcCh (d.channelOf a) 0)) 8 2 = 1 then a / 65536 % 2 else a / 131072 % 2)
  | none => 0

/-- A request for a channel ends its self-refresh (R347). -/
def Dev.wakeCh (d : Dev) (m : Nat) : Dev :=
  if (d.dch m).selfRefresh then (d.setDch m { d.dch m with selfRefresh := false }).emit (.dramCmd m 3) else d

/-- A port's request for bytes of DRAM: the channels they lie on leave self-refresh. -/
def Dev.wake (d : Dev) (a n : Nat) : Dev :=
  if n = 0 then d
  else
    let bursts := (List.range (min 9 ((a + n + 63) / 64 - a / 64))).map (fun i => (a / 64 + i) * 64)
    bursts.foldl (fun d b => d.wakeCh (d.channelOf b)) (d.wakeCh (d.channelOf (a + n - 1)))

/-- Self-refresh entry after SR_IDLE µs without a request (R347, R348): `request` is none when nothing arrives during
entry, some false when a request arrives before the entry command and some true after it. -/
def Dev.srEntry (d : Dev) (m : Nat) (request : Option Bool) : Dev :=
  if !(flag (d.reg 0x100000) 3) || !(d.dcReady m) || (d.dch m).selfRefresh || 0 < d.postponed m then d
  else
    match request with
    | some false => d.count (576 + 16 * m + 11) 1
    | some true => ((d.emit (.dramCmd m 2)).emit (.dramCmd m 3)).count (576 + 16 * m + 10) 1
    | none => ((d.setDch m { d.dch m with selfRefresh := true }).emit (.dramCmd m 2)).count (576 + 16 * m + 10) 1

/-! ### Errors (R349 to R352) -/

/-- An error met on a port of R339 (15 for the scrubber), logged, counted and, if uncorrectable, reported. -/
def Dev.eccError (d : Dev) (port a : Nat) (uncorr : Bool) : Dev :=
  let ch := d.channelOf a
  let sc := d.subchannelOf a
  let a := a / 64 * 64
  let info := port * 256 + ch * 4096 + sc * 8192
  let d := d.setReg 0x100024 (windowNext (d.reg 0x100024)
    (BitVec.ofNat 32 (b2n uncorr + info + b2n (port == 15) * 16384)))
  let d := d.setReg 0x100028 (BitVec.ofNat 32 a)
  let d := d.setReg 0x10002C (BitVec.ofNat 32 (a / 4294967296))
  let d := d.count (576 + 16 * ch + (if uncorr then 9 else 8)) 1
  if uncorr then d.raiseAll 0x0023 dcSource (BitVec.ofNat 32 (1 + info)) (BitVec.ofNat 32 (a / 64))
  else
    let d := { d with dc := { d.dc with ce := d.dc.ce + 1 } }
    if d.dc.ce = fld (d.reg 0x100020) 0 16 then
      d.raiseAll 0x0023 dcSource (BitVec.ofNat 32 (2 + info)) (BitVec.ofNat 32 (a / 64))
    else d

/-- A read of a port: a burst poisoned or on a FAILED channel reports uncorrectable (R335, R350). -/
def Dev.readBad (d : Dev) (a n : Nat) : Bool := d.poisoned a n || d.dcState (d.channelOf a) == 3

/-- Requests wait while a channel is TRAINING or FILLING (R336). -/
def Dev.dramBusy (d : Dev) : Bool := d.dcState 0 == 1 || d.dcState 1 == 1 || flag (d.reg 0x100004) 8

/-- The parts of a request that lie on one burst each: first byte and length. -/
def burstParts (a n : Nat) : List (Nat × Nat) :=
  if n = 0 then []
  else (List.range ((a + n + 63) / 64 - a / 64)).map (fun i =>
    let s := max a ((a / 64 + i) * 64)
    (s, min (a + n) ((a / 64 + i + 1) * 64) - s))

/-- The channel of an address is FAILED (R335). -/
def Dev.onFailed (d : Dev) (a : Nat) : Bool := d.dcState (d.channelOf a) == 3

/-- A read made by a port: bytes, the bursts found uncorrectable, and the device with their errors logged. A burst is
uncorrectable that is poisoned or lies on a FAILED channel, and the first one where the command says so (`ue`). Each burst
counts as a read, and as a swath-fetch read on the ports of R88 (R323; log entry 127). -/
def Dev.portRead (d : Dev) (port a n : Nat) (ue : Bool) : List Byte × List Nat × Dev :=
  let d := d.wake a n
  let parts := burstParts a n
  let bs := if parts.any (fun x => d.onFailed x.1) then
      parts.flatMap (fun x => if d.onFailed x.1 then List.replicate x.2 0 else d.dramRead x.1 x.2)
    else d.dramRead a n
  let (bad, d) := parts.foldl (fun (acc : List Nat × Dev) x =>
    let d := acc.2.count (576 + 16 * acc.2.channelOf x.1) 1
    let d := if port < 8 then d.count (576 + 16 * d.channelOf x.1 + 12) 1 else d
    if (ue && x.1 == a) || d.readBad x.1 x.2 then (acc.1 ++ [x.1 / 64], d.eccError port x.1 true) else (acc.1, d)) ([], d)
  (bs, bad, d)

/-- A write made by a port: discarded on a FAILED channel (R335). -/
def Dev.portWrite (d : Dev) (a : Nat) (bs : List Byte) : Dev :=
  let d := d.wake a bs.length
  let parts := burstParts a bs.length
  let good := parts.filter (fun x => !(d.onFailed x.1))
  let d := if good.length = parts.length then d.dramWrite a bs
    else good.foldl (fun d x => d.dramWrite x.1 ((bs.drop (x.1 - a)).take x.2)) d
  good.foldl (fun d x => d.count (576 + 16 * d.channelOf x.1 + 1) 1) d

/-- The scrubber reads one burst (R350). -/
def Dev.scrub (d : Dev) (a : Nat) (err : ReadError) : Dev :=
  if !(flag (d.reg 0x100000) 4) || !(d.dcReady (d.channelOf a)) then d
  else
    let d := d.wake a 64
    let d := d.count (576 + 16 * d.channelOf a) 1
    match err with
    | .clean => if d.poisoned a 64 then d.eccError 15 a true else d
    | .corrected => if d.poisoned a 64 then d.eccError 15 a true else d.eccError 15 a false
    | .uncorrectable =>
      { d with poison := Sparse.set (fun _ => false) d.poison (a / 64) true }.eccError 15 a true

/-! ### Training and fill (R335, R336) -/

/-- Density in gigabits of the components a channel is fitted with, from the capacity (R335). -/
def densityOf (cap chans : Nat) (r : TrainResult) : Nat :=
  cap * 8 / (chans * 2 * (1 + b2n r.twoRanks) * (if r.x16 then 2 else 4))

/-- Code of a density in DC_CH_STATUS; none outside R333. -/
def densityCode : Nat → Option Nat
  | 16 => some 0
  | 24 => some 1
  | 32 => some 2
  | _ => none

/-- A FULL load's header begins training, or keeps what is trained and runs a round (R336). -/
def Dev.dramLoad (d : Dev) (f : Forme) : Dev :=
  let h := (f.dram.chMask, f.dram.rate, f.dram.map, f.dram.capGib)
  let d := [4, 8].foldl (fun d o => (d.setReg (dcCh 0 o) 0).setReg (dcCh 1 o) 0) d
  if d.dc.header = some h then [0, 1].foldl Dev.startRound d
  else
    let d := { d with dram := [], poison := [], dc := { chans := [], header := some h, ce := 0 } }
    let d := d.setReg 0x100004 (BitVec.ofNat 32 (b2n (bit f.dram.chMask 0) + 4 * b2n (bit f.dram.chMask 1)))
    let d := d.setReg 0x100008 0
    (d.setReg (dcCh 0 0) 0).setReg (dcCh 1 0) 0

/-- Training ends (R335): each channel READY at the rate both reach or FAILED, with its components, and the fill
begins. -/
def Dev.trainingDone (d : Dev) (r0 r1 : TrainResult) : Dev :=
  match d.forme with
  | none => d
  | some f =>
    let chans := [(0, r0), (1, r1)].filter (fun x => d.dcState x.1 == 1)
    if chans.isEmpty then d
    else
      let n := b2n (bit f.dram.chMask 0) + b2n (bit f.dram.chMask 1)
      let good := chans.filter (fun x =>
        x.2.rate.isSome && (densityCode (densityOf f.dram.capGib n x.2)).isSome)
      let rate := good.foldl (fun m x => min m (x.2.rate.getD 0)) f.dram.rate
      let d := chans.foldl (fun d x =>
        let ok := good.any (fun y => y.1 == x.1)
        let d := d.setDcState x.1 (if ok then 2 else 3)
        let d := d.setRegFld (dcCh x.1 0) 8 2 (b2n x.2.x16)
        let d := d.setRegFld (dcCh x.1 0) 4 1 (b2n x.2.twoRanks)
        let d := d.setRegFld (dcCh x.1 0) 6 2 ((densityCode (densityOf f.dram.capGib n x.2)).getD 0)
        if ok then d
        else d.raiseAll 0x0009 dcSource (BitVec.ofNat 32 f.dram.rate) 0xFFFFFFFF) d
      if good.isEmpty then d
      else
        let d := d.setReg 0x100008 (BitVec.ofNat 32 (rate + 256 * fld (d.reg 0x10000C) 0 8))
        let d := d.setRegFld 0x100004 8 1 1
        if rate < f.dram.rate then
          let short := !(f.fetchOk rate) || !(f.trafficOk rate)
          (d.setRegFld 0x100004 7 1 (b2n short)).raiseAll 0x0009 dcSource (BitVec.ofNat 32 f.dram.rate)
            (BitVec.ofNat 32 rate)
        else d

/-- The zero fill ends (R336). Its zeros stand from the load on, since no request was served before (log entry 63). -/
def Dev.fillDone (d : Dev) : Dev :=
  if flag (d.reg 0x100004) 8 then d.setRegFld 0x100004 8 1 0 else d

/-! ### The commands -/

def execDramTrainingDone (t : Nat) (dc0 dc1 : TrainResult) (s : State) : Res := onDev t (fun d => d.trainingDone dc0 dc1) s
def execDramFillDone (t : Nat) (s : State) : Res := onDev t Dev.fillDone s
def execRefreshDue (t m : Nat) (s : State) : Res := onUnit (decide (m < 2)) t (fun d => d.refreshDue m) s
def execRetrainInterval (t m : Nat) (s : State) : Res := onUnit (decide (m < 2)) t (fun d => d.retrainInterval m) s
def execRetrainPause (t m : Nat) (s : State) : Res := onUnit (decide (m < 2)) t (fun d => d.pauseDue m) s
def execChangePause (t : Nat) (s : State) : Res := onDev t Dev.changePause s
def execSrIdleEntry (t m : Nat) (request : Option Bool) (s : State) : Res :=
  onUnit (decide (m < 2)) t (fun d => d.srEntry m request) s
def execScrubBurstRead (t addr : Nat) (err : ReadError) (s : State) : Res := onDev t (fun d => d.scrub addr err) s

end Sys2Proof.Machine
end

