-- ==== Sys2Proof/Machine/Judge.lean ====
section
/-!
DEFINITION. How every register write is judged before it takes effect: the load lock (R478), the ownership registry
(R363) with the rights of cores (R296, R298, R481), and the standby rule (R390).
-/
namespace Sys2Proof.Machine

/-- The twin role of the unit is STANDBY (R405). -/
def Dev.standby (d : Dev) : Bool := fld (d.reg 0x110004) 4 2 == 2

/-- A FULL load begun by GO is being checked (R478). -/
def Dev.fullChecking (d : Dev) : Bool :=
  match d.fm.load with
  | some l => !l.live && l.src != 3
  | none => false

/-- The blocks whose writes are ignored while a FULL load is CHECKING (R478). -/
def lockedBlock (off : Nat) : Bool :=
  let b := off / 0x10000
  (decide (4 ≤ b) && decide (b ≤ 14)) || b == 16 || b == 17 || b == 19 || b == 20 || decide (0xC0 ≤ b)

/-- The context a writer's rights are those of: the context itself, or the one that lends an OEM core (R298). -/
def Dev.asHost (d : Dev) (w : Writer) : Option Nat :=
  match w with
  | .host h => some h
  | .core n =>
    match d.forme with
    | some f => if f.role n = 4 then d.owner 8 n else none
    | none => none

/-- The writer is the supervisor core (R296). -/
def Dev.supervisor (d : Dev) (w : Writer) : Bool :=
  w == .core 0 && (match d.forme with | some f => f.role 0 == 0 | none => false)

/-- What judging a write answers: it is taken, ignored without event, or rejected with the class and owner that the
record shows. -/
inductive Verdict where
  | accept
  | ignore
  | reject (cls : Option Nat) (owner : Nat)
deriving DecidableEq, Repr

/-- A resource judged by its owner (R363); the classes of one resource have index 0. -/
def Dev.byClass (d : Dev) (w : Writer) (c i : Nat) : Verdict :=
  let o := d.owner c i
  if o.isSome && d.asHost w == o then .accept else .reject (some c) (o.getD 0xFF)

/-- A verdict that the supervisor core may pass as well (R296). -/
def Verdict.orSupervisor (v : Verdict) (sup : Bool) : Verdict := if sup then .accept else v

/-- How a write of a register with a guard is judged, at instance `i` of its block. -/
def Dev.verdict (d : Dev) (w : Writer) (g : Guard) (i : Nat) : Verdict :=
  match g with
  | .free | .priv => if (d.asHost w).isSome then .accept else .reject none 0xFF
  | .cls c => d.byClass w c (if c = 7 || 9 ≤ c then 0 else i)
  | .lead => d.byClass w 0 (match d.forme with | some f => f.leadPlane | none => 0)
  | .planeQ =>
    (match d.forme with
     | some f => if bit f.geom.planeMask i then d.byClass w 0 i else .ignore
     | none => .ignore)
  | .slot => if d.asHost w = some (i / 2) then .accept else .reject (some 0xFD) (i / 2)
  | .pat | .ledger => (d.byClass w 11 0).orSupervisor (d.supervisor w)
  | .cc0 => if d.supervisor w then .accept else .reject (some 11) 0xFF
  | .ccCtrl => (d.byClass w 8 i).orSupervisor (d.supervisor w && decide (1 ≤ i))
  | .tally => d.byClass w 9 0
  | .twCtrl => (d.byClass w 10 0).orSupervisor (d.supervisor w)
  | .hkCtrl => (d.byClass w 7 0).orSupervisor (d.supervisor w)

/-- EV_OWNER_REJECT to the writer's event ring, and its counter (R363). A register that belongs to no class has none
to show: the byte is a free value (log entry 10). -/
def Dev.rejectWrite (d : Dev) (w : Writer) (off : Nat) (cls : Option Nat) (owner : Nat) : Dev :=
  let h := d.actsFor w
  let (c, d) : Nat × Dev := match cls with
    | some c => (c, d)
    | none => d.takeFree
  (d.count (608 + 8 * h + 4) 1).raiseTo h 0x0021 (Writer.source w) (BitVec.ofNat 32 (off + c % 256 * 16777216)) (BitVec.ofNat 32 owner)

/-- The places where a standby still takes host writes (R390), with TW_STATUS, whose SUSPECT a host clears on a deposed
unit (R402, log entry 29). -/
def standbyTakes (off : Nat) : Bool :=
  let b := off / 0x10000
  b == 0 || b == 1 || b == 2 || b == 3 || off == 0x110000 || off == 0x110004 || off == 0x110008

/-- A write of the register at `off` judged, and taken by `f` when it is accepted: the lock, then ownership, then the
standby rule. -/
def Dev.guarded (d : Dev) (w : Writer) (off : Nat) (f : RegRow → Nat → Nat → Dev → Eff) : Eff :=
  match regRow off with
  | none => .ok d
  | some (r, i, j) =>
    if (r.acc = .ro && r.clr = 0) || r.acc = .rc then .ok d
    else if lockedBlock off && d.fullChecking then .ok d
    else
      match d.verdict w r.guard i with
      | .ignore => .ok d
      | .reject c o => .ok (d.rejectWrite w off c o)
      | .accept => if d.standby && !(standbyTakes off) then .ok (d.bump 0x11003C) else f r i j d

/-- The value a register of a row holds after `v` is written over `old` (R5). -/
def RegRow.after (r : RegRow) (old v : Word) : Word :=
  match r.acc with
  | .w1c => old &&& ~~~(v &&& r.wmask)
  | _ => ((old &&& ~~~r.wmask) ||| (v &&& r.wmask)) &&& ~~~(v &&& r.clr)

/-- The write stored in the register the writer sees. -/
def Dev.storeReg (d : Dev) (w : Writer) (off : Nat) (r : RegRow) (v : Word) : Dev :=
  d.setRegOf (d.window w) off (r.after (d.regOf (d.window w) off) v)

/-- An uncorrectable SRAM error is counted, logged and reported, with its user's code and the word's address (R469,
R474). -/
def Dev.sramError (d : Dev) (code addr : Nat) : Dev :=
  let d := d.bump 0x000010
  let d := d.setReg 0x000014 (windowNext (d.reg 0x000014) (BitVec.ofNat 32 code))
  let d := d.setReg 0x000018 (BitVec.ofNat 32 addr)
  d.raiseAll 0x0025 0x00FF (BitVec.ofNat 32 code) (BitVec.ofNat 32 addr)

end Sys2Proof.Machine
end

