-- ==== Sys2Proof/Machine/TwinBase.lean ====
section
/-!
DEFINITION. What the print path shares with the twin: sending twin frames, mirroring changes, and the job home (R381,
R382, R392, R393).
-/
namespace Sys2Proof.Machine

/-- The unit's role is ACTIVE (R380, R385). -/
def Dev.twActive (d : Dev) : Bool := fld (d.reg 0x110004) 4 2 == 1
/-- The unit is of a pair, not SOLO. -/
def Dev.twinned (d : Dev) : Bool := fld (d.reg 0x110004) 4 2 != 0
/-- Twin link `q` is up (R384). -/
def Dev.twUp (d : Dev) (q : Nat) : Bool := flag (d.reg 0x110004) (8 + q)
/-- The link a frame goes on: the lower-numbered one that is up (log entry 24). -/
def Dev.twPort (d : Dev) : Option Nat := (List.range 2).find? d.twUp

/-- One numbered frame goes out, kept until acknowledged (R382). -/
def Dev.twinPut (d : Dev) (q : Nat) (x : TwinFrame) : Dev :=
  let s := d.tw.nextSeq
  let u : TwinSent := { seq := s, frame := x, at_ := d.now }
  let d : Dev := { d with tw := { d.tw with nextSeq := s + 1, unacked := d.tw.unacked ++ [u] } }
  d.emit (.twinFrame q (some s) x)

/-- A numbered frame: sent while fewer than 256 wait for their acknowledgement and a link is up, else kept (R382). -/
def Dev.twinSend (d : Dev) (x : TwinFrame) : Dev :=
  match d.twPort with
  | some q =>
    if d.tw.unacked.length < 256 then d.twinPut q x
    else { d with tw := { d.tw with waiting := d.tw.waiting ++ [x] } }
  | none => d

/-- Frames that waited are sent as room comes. -/
def Dev.twinDrain : Nat → Dev → Dev
  | 0, d => d
  | n + 1, d =>
    match d.tw.waiting, d.twPort with
    | x :: rest, some q =>
      if d.tw.unacked.length < 256 then
        let d : Dev := { d with tw := { d.tw with waiting := rest } }
        Dev.twinDrain n (d.twinPut q x)
      else d
    | _, _ => d

/-- The standby is attached, in SYNC, WATCH or REVERTING: the active unit mirrors its changes to it (R392). -/
def Dev.mirroring (d : Dev) : Bool :=
  d.twState == 3 && d.twPort.isSome
    && (match d.tw.peer with | some p => p.state == 4 || p.state == 5 || p.state == 9 | none => false)

/-- A change mirrored to the standby (R392). -/
def Dev.mirrored (d : Dev) (x : TwinItem) : Dev := if d.mirroring then d.twinSend (.state x) else d

/-- The print path is powered (R389). -/
def Dev.printPath (d : Dev) : Bool := !d.watching

/-- Every bar-link transmitter in electrical idle leaves it: at START and at the first forward count after the web was
stopped (R452). -/
def Dev.wakeIdle (d : Dev) : Dev :=
  (List.range 32).foldl (fun d k => if fld (d.reg (0x140004 + 0x40 * k)) 0 3 = 1 then d.setRegFld (0x140004 + 0x40 * k) 0 3 2 else d) d

/-! ### The job home (R381) -/

/-- The offset of a JOB region in the job home: the sizes of the JOB regions with lower IDs. -/
def Forme.homeOffset (f : Forme) (i : Nat) : Nat :=
  ((f.dram.regions.filter (fun r => r.kind == 0 && decide (r.id < i))).map (fun r => r.size * 65536)).sum

/-- Where the MIRROR region starts. -/
def Forme.mirrorBase (f : Forme) : Option Nat := (f.dram.regions.find? (fun r => r.kind == 4)).map (fun r => r.base * 65536)

/-- Where a JOB region's contents stand in DRAM: in the region, or in the MIRROR region through the job home map. -/
def Dev.homeOf (d : Dev) (f : Forme) (r : Region) : Nat :=
  match f.mirrorBase with
  | some m => if flag (d.reg 0x110004) 14 then m + f.homeOffset r.id else r.base * 65536
  | none => r.base * 65536

/-- The JOB region of a plane. -/
def Forme.jobRegion (f : Forme) (c : Nat) : Option Region := (f.plane c).bind (fun p => f.region p.region)

/-- Where the JOB region of a plane starts, in bytes. -/
def Dev.jobBase (d : Dev) (f : Forme) (c : Nat) : Nat :=
  match f.jobRegion c with
  | some r => d.homeOf f r
  | none => 0

/-- Bursts cut into MIRROR frames of at most 31 (R382, R393). -/
def Dev.mirrorBursts (d : Dev) (off : Nat) : List (List Byte) → Dev
  | [] => d
  | b :: bs => (d.twinSend (.mirror off b false)).mirrorBursts (off + b.length) bs

/-- A write into a JOB region at an offset of it, mirrored while a standby is attached (R393). -/
def Dev.jobWrite (d : Dev) (f : Forme) (r : Region) (off : Nat) (bs : List Byte) : Dev :=
  let d := d.portWrite (d.homeOf f r + off) bs
  if d.mirroring then d.mirrorBursts (f.homeOffset r.id + off) (chunks 1984 bs) else d

end Sys2Proof.Machine
end

