-- ==== Sys2Proof/Machine/Store.lean ====
section
/-!
DEFINITION. The job store: the strip codec (R72 to R76), store slots (R79 to R81), and the layout of images (R68 to
R71).
-/
namespace Sys2Proof.Machine

/-! ### The codec -/

/-- `n` residuals copied from distance `dist`, one at a time; the newest residual stands first (R74). -/
def copyBack (dist : Nat) : Nat → List Byte → List Byte
  | 0, acc => acc
  | n + 1, acc => copyBack dist n (acc.getD (dist - 1) 0 :: acc)

/-- Residuals of a coded body over the history `acc` (newest first) until `need` more stand there; none where the body
ends too soon (R74). -/
def decodeTokens : Nat → Nat → List Byte → List Byte → Option (List Byte)
  | _, 0, acc, _ => some acc
  | 0, _, _, _ => none
  | _, _, _, [] => none
  | fuel + 1, need, acc, t :: body =>
    let v := t.toNat
    if v < 128 then
      let n := v + 1
      if body.length < min n need then none
      else decodeTokens fuel (need - min n need) ((body.take (min n need)).reverse ++ acc) (body.drop n)
    else if v < 192 then
      match body with
      | [] => none
      | e :: body =>
        let n := (v - 128) * 256 + e.toNat + 1
        decodeTokens fuel (need - min n need) (List.replicate (min n need) 0 ++ acc) body
    else
      match body with
      | a :: b :: body =>
        let k := a.toNat + 256 * b.toNat
        let n := (k / 4096 * 64 + (v - 192)) + 3
        decodeTokens fuel (need - min n need) (copyBack (k % 4096 + 1) (min n need) acc) body
      | _ => none

/-- The history at a strip with RESTART (R73). -/
def freshWindow : List Byte := List.replicate 4096 0

/-- Bytes of lines from residuals, line by line over the line above (R72). -/
def unpredict : List (List Byte) → List Byte → List (List Byte)
  | [], _ => []
  | r :: rs, prev =>
    let x := List.zipWith (· + ·) r prev
    x :: unpredict rs x

/-- Residuals of lines (R72). -/
def predict : List (List Byte) → List Byte → List Byte
  | [], _ => []
  | x :: xs, prev => List.zipWith (· - ·) x prev ++ predict xs x

/-- The history after a strip's lines: the last line, and the last 4,096 residuals, newest first (R73). -/
def nextHistory (lines : List (List Byte)) (prev window : List Byte) : List Byte × List Byte :=
  ((lines.getLast?).getD prev, ((predict lines prev).reverse ++ window).take 4096)

/-- The lines a coded body decodes to over a history (R72 to R74). -/
def decodeStrip (n wc : Nat) (prev window body : List Byte) : Option (List (List Byte)) :=
  (decodeTokens (n * wc + body.length + 1) (n * wc) window body).map (fun acc =>
    unpredict (chunks wc ((acc.take (n * wc)).reverse)) prev)

/-! ### Images (R68 to R71) -/

/-- Strips of an image of `c` lines (R69). -/
def stripCount (c : Nat) : Nat := (c + 31) / 32
/-- Lines of strip `j` (R69). -/
def stripLines (c j : Nat) : Nat := min 32 (c - 32 * j)
/-- Bytes rounded up to a multiple of 64. -/
def pad64 (n : Nat) : Nat := (n + 63) / 64 * 64

/-- The 64-byte image header (R70). -/
def imageHeader (kind bits lines wc : Nat) : List Byte :=
  let h := leBytes 4 0x53545249 ++ leBytes 1 kind ++ leBytes 1 bits ++ leBytes 2 0 ++ leBytes 4 lines ++ leBytes 4 wc
    ++ leBytes 4 (stripCount lines) ++ List.replicate 40 0
  h ++ leBytes 4 (crc32c h).toNat

/-- A strip: its 16-byte header and body, padded to 64 bytes (R71). -/
def stripBytes (j n : Nat) (raw restart : Bool) (rawCrc : Word) (body : List Byte) : List Byte :=
  padTo (pad64 (16 + body.length)) 0
    (leBytes 4 j ++ leBytes 2 n ++ leBytes 1 (b2n raw + 2 * b2n restart) ++ leBytes 1 0 ++ leBytes 4 rawCrc.toNat
      ++ leBytes 4 body.length ++ body)

/-! ### Store slots -/

/-- Offsets of the registers of store slot `s` (R79). -/
def cmpReg (s o : Nat) : Nat := 0x050000 + 0x40 * s + o

/-- The bytes a store consumes in all, tail padding included (R81). -/
def StoreSlot.total (x : StoreSlot) : Nat := pad64 (x.lines * x.wc)

/-- The store of a slot ends: STATE, VALID and SEQ (R81). -/
def Dev.endStore (d : Dev) (s state : Nat) : Dev :=
  let st := d.reg (cmpReg s 0x10)
  d.setReg (cmpReg s 0x10) (windowNext st (BitVec.ofNat 32 state))

/-- Bytes reach a store slot (R81): beyond the store's whole length they are a host error. -/
def Dev.feedStore (d : Dev) (s : Nat) (bs : List Byte) : Eff :=
  match d.store s with
  | none => hostError 81
  | some x =>
    if x.total < x.taken + bs.length then hostError 81
    else .ok (d.setStore s (some { x with
      taken := x.taken + bs.length,
      buf := (x.buf ++ bs).take (x.lines * x.wc - min x.strip (stripCount x.lines) * 32 * x.wc) }))

/-- A whole strip stands in the buffer of an OPEN slot, so the engine can take it up (R79). -/
def Dev.stripWaits (d : Dev) (s : Nat) : Bool :=
  match d.store s with
  | some x =>
    fld (d.reg (cmpReg s 0x10)) 0 2 == 1 && decide (x.strip < stripCount x.lines)
      && decide (stripLines x.lines x.strip * x.wc ≤ x.buf.length)
  | none => false

/-- How the engine stores a strip it has coded as `coded` (R75, R76): raw with its reason, or coded. -/
inductive StripForm where
  | coded | rawPlane | noShrink | verifyFail
deriving DecidableEq, Repr

/-- The form of a strip: a RAW plane's strips are raw; a body that would not shrink, or that does not decode to the
input's CRC, is stored raw (R75, R76). -/
def StoreSlot.form (x : StoreSlot) (raw coded prev window : List Byte) : StripForm :=
  if x.raw then .rawPlane
  else if raw.length ≤ coded.length then .noShrink
  else
    match decodeStrip (raw.length / x.wc) x.wc prev window coded with
    | some ls => if crc32c (ls.flatMap (fun l => l)) = crc32c raw then .coded else .verifyFail
    | none => .verifyFail

/-- The detail word 6 of a codec event (R75). -/
def cmpDetail (s plane : Nat) : Word := BitVec.ofNat 32 (s + plane * 256)

/-- The bytes of a stored image from its start in a plane's JOB region: up to the end of its last strip (R69 to R71). -/
def Dev.imageSpan (d : Dev) (f : Forme) (c image : Nat) : Nat :=
  let base := d.jobBase f c + image * 64
  let n := u32 (d.dramRead (base + 16) 4) 0
  let off := u32 (d.dramRead (base + 64 + 4 * (n - 1)) 4) 0 * 64
  off + pad64 (16 + u32 (d.dramRead (base + off + 12) 4) 0)

/-- A write of a store would fall on an image that a posted, unretired queue entry of its plane names (R81). -/
def Dev.overImage (d : Dev) (f : Forme) (c lo hi : Nat) : Bool :=
  let q := d.queue c
  (q.entries.drop q.done).any (fun e =>
    decide (e.image * 64 < hi) && decide (lo < e.image * 64 + d.imageSpan f c e.image))

/-- One strip coded, verified and written (R73 to R77, R79, R81); `ue` is an uncorrectable read, which ends the store
FULL (R351). -/
def Dev.storeStrip (d : Dev) (f : Forme) (s : Nat) (x : StoreSlot) (coded : List Byte) (ue : Bool) : Eff :=
  let j := x.strip
  let n := stripLines x.lines j
  let raw := x.buf.take (n * x.wc)
  let restart := j % 16 == 0
  let prev := if restart then List.replicate x.wc 0 else x.prev
  let window := if restart then freshWindow else x.window
  let form := x.form raw coded prev window
  let body := if form = .coded then coded else raw
  let bytes := stripBytes j n (form != .coded) restart (crc32c raw) body
  if ue || decide (x.limit * 64 < x.off + bytes.length) then .ok (d.endStore s 3)
  else if d.overImage f x.plane (x.dest * 64 + x.off) (x.dest * 64 + x.off + bytes.length) then hostError 81
  else
    let put := fun (d : Dev) (o : Nat) (bs : List Byte) =>
      match f.jobRegion x.plane with
      | some r => d.jobWrite f r (x.dest * 64 + o) bs
      | none => d
    let d := put d x.off bytes
    let d := if form = .noShrink then
        let first : Bool := decide (d.reg (cmpReg s 0x18) = 0#32)
        let d := d.bump (cmpReg s 0x18)
        if first then d.raiseTo (s / 2) 0x0014 (0x0500 + s) (cmpDetail s x.plane) (BitVec.ofNat 32 j) else d
      else d
    let d := if form = .verifyFail then
        (d.bump (cmpReg s 0x1C)).raiseTo (s / 2) 0x0015 (0x0500 + s) (cmpDetail s x.plane) (BitVec.ofNat 32 j)
      else d
    let (p', w') := nextHistory (chunks x.wc raw) prev window
    let x := { x with strip := j + 1, off := x.off + bytes.length, index := x.index ++ [x.off / 64],
                      buf := x.buf.drop (n * x.wc), prev := p', window := w' }
    let d := d.setStore s (some x)
    if x.strip = stripCount x.lines then
      let idx := padTo (pad64 (4 * x.index.length)) 0 (x.index.flatMap (leBytes 4))
      let d := put d 0 (imageHeader x.kind x.bits x.lines x.wc ++ idx)
      let d := d.setReg (cmpReg s 0x14) (BitVec.ofNat 32 (x.off / 64))
      .ok (d.endStore s 2)
    else .ok d

/-- CMP_CTRL.OPEN on a slot whose writer owns it and whose plane's queue its context owns (R80, R81). -/
def Dev.openStore (d : Dev) (f : Forme) (w : Writer) (s : Nat) : Eff :=
  let ctrl := d.reg (cmpReg s 0)
  let c := fld ctrl 4 3
  match f.plane c with
  | none => .ok (d.rejectWrite w (cmpReg s 0) (some 0) 0xFF)
  | some p =>
    if d.owner 0 c ≠ some (s / 2) then .ok (d.rejectWrite w (cmpReg s 0) (some 0) ((d.owner 0 c).getD 0xFF))
    else if fld (d.reg (cmpReg s 0x10)) 0 2 = 1 then hostError 81
    else
    let lines := (d.reg (cmpReg s 0xC)).toNat
    let x : StoreSlot :=
      { plane := c, dest := (d.reg (cmpReg s 4)).toNat, limit := (d.reg (cmpReg s 8)).toNat, lines := lines,
        wc := f.wc p, kind := if p.input = 3 then 1 else 0, bits := if p.input = 3 then p.dropBits else 0,
        raw := p.codec == 1, taken := 0, buf := [], strip := 0,
        off := 64 + pad64 (4 * stripCount lines), index := [], prev := [], window := [] }
    let d := d.setReg (cmpReg s 0x10) (windowBusy (d.reg (cmpReg s 0x10)) 1)
    let d := d.setReg (cmpReg s 0x14) 0
    let d := d.setReg (cmpReg s 0x18) 0
    let d := d.setReg (cmpReg s 0x1C) 0
    .ok (d.setStore s (some x))

/-- A write of CMP_CTRL: its fields are kept, and OPEN opens the store. With no forme no plane is in use (R80). -/
def Dev.writeCmpCtrl (d : Dev) (w : Writer) (s : Nat) (v : Word) : Eff :=
  d.guarded w (cmpReg s 0) (fun r _ _ d =>
    let d := d.storeReg w (cmpReg s 0) r v
    if flag v 0 then
      (match d.forme with
       | some f => d.openStore f w s
       | none => .ok (d.rejectWrite w (cmpReg s 0) (some 0) 0xFF))
    else .ok d)

/-- Every OPEN store of a context ends IDLE, its partial strip discarded (R374). -/
def Dev.abortStores (d : Dev) (h : Nat) : Dev :=
  [2 * h, 2 * h + 1].foldl (fun d s =>
    if fld (d.reg (cmpReg s 0x10)) 0 2 = 1 then (d.setStore s none).endStore s 0 else d) d

/-- CMP_OPEN (R80, R81): CMP_CTRL is written with OPEN. -/
def execCmpOpen (t : Nat) (w : Writer) (slot : Nat) (v : Word) (s : State) : Res :=
  onUnitE (decide (slot < 8)) t (fun d => d.writeCmpCtrl w slot v) s

/-- STRIP_STORE (R79): the engine finishes a strip that waits whole in an open slot. -/
def execStripStore (t slot : Nat) (coded : List Byte) (ue : Bool) (s : State) : Res :=
  onUnitE (decide (slot < 8)) t (fun d =>
    match d.forme, d.store slot with
    | some f, some x => if d.stripWaits slot && !d.dramBusy then d.storeStrip f slot x coded ue else .ok d
    | _, _ => .ok d) s

end Sys2Proof.Machine
end

