-- ==== Sys2Proof/Machine/Batch.lean ====
section
/-!
DEFINITION. Updates as they are submitted: host batch buffers (R138, R139, R187, R188), updates that take effect at once
(R62, R138), default shares (R130) and the nozzle ledger (R147 to R152).
-/
namespace Sys2Proof.Machine

/-! ### Taking effect at once -/

/-- The stretch gains and anchor changes of a batch that takes effect at once (R184). -/
def Dev.gainsNow (d : Dev) (f : Forme) (p : Payload) : Dev :=
  match p with
  | .reg rs => rs.foldl (fun d rc =>
      match fld rc.1 12 4 with
      | 3 => (d.setGain rc.2.toNat).setReg 0x090008 rc.2
      | 4 => { d with fir := { d.fir with anchorTgt := d.fir.anchorTgt + sgn rc.2, anchorNow := d.fir.anchorTgt + sgn rc.2 } }
      | 0 => (if fld rc.1 0 12 < 16 then
                (let x := d.rowFire (fld rc.1 0 12); d.setRowFire (fld rc.1 0 12) { x with c := x.tgt + x.anchor }) else d)
      | 1 => (match f.head (fld rc.1 0 12) with
              | some h => d.setHeadFire h.slot { d.headFire h.slot with e := (d.headFire h.slot).tgt }
              | none => d)
      | _ => d) d
  | _ => d

/-- An update with no job running takes effect at once for every row and plane; its two EV_SEAM records follow (R62,
R138, R28). -/
def Dev.applyNow (d : Dev) (f : Forme) (u : Update) : Dev :=
  let (d, p) := d.onBound u.payload
  let u := { u with payload := p }
  let d := u.rows.foldl (fun d r => d.applyRow f r u none) d
  let d := d.gainsNow f p
  let d := f.planes.foldl (fun d pc =>
    if u.planes.contains pc.c then
      let old := d.plane pc.c
      d.setPlane pc.c (d.rescreen f pc (d.prep (2 * pc.c)) old (planeAfter pc.c u old))
    else d) d
  let d := d.showSeam u 0xFFFFFFFF
  if u.rows.isEmpty then d else (d.raiseSeam u 0xFFFFFFFF).raiseSeam u 0xFFFFFFFF

/-- The records of an update as the twin's STATE frame carries them (R392). -/
def Payload.mirrorRecs : Payload → List (Word × Word)
  | .nozzle rs => rs.map (fun rc => (BitVec.ofNat 32 rc.1, rc.2))
  | .reg rs => rs
  | .dref rs => rs.map (fun rc => (BitVec.ofNat 32 rc.1, BitVec.ofNat 32 rc.2))
  | _ => []

/-- A batch or LIVE image that has been bound, or applied at once, goes to the standby with its seam (R392). -/
def Dev.mirrorUpdate (d : Dev) (u : Update) : Dev :=
  let seam := if d.job.phase = .idle then none else u.seam.bind d.job.seamLine
  match u.payload with
  | .nozzle _ | .reg _ | .dref _ => d.mirrored (.batch u.block u.tag seam u.payload.mirrorRecs)
  | .live _ dig _ =>
    (match d.fm.images.find? (fun x => x.1 == dig) with
     | some x => d.mirrored (.live seam x.2)
     | none => d)
  | _ => d

/-- Updates bound since `before` are mirrored. -/
def Dev.mirrorBound (d : Dev) (before : List Update) : Dev :=
  (d.ups.filter (fun u => u.seam.isSome && !(before.contains u))).foldl (fun d u => d.mirrorUpdate u) d

/-- Waiting updates are bound once seams are free for them, and mirrored (R29, R392). -/
def Dev.bindNow (d : Dev) (f : Forme) : Dev :=
  let before := d.ups
  (d.bindWaiting f).mirrorBound before

/-- An update is bound to its seam, or with no job running takes effect at once (R62, R138). -/
def Dev.submit (d : Dev) (f : Forme) (u : Update) (named : Option Word) : Dev :=
  if d.printing then
    let before := d.ups
    let d := (d.stage f u u.bindRows named).mirrorBound before
    { d with ups := d.ups.filter (fun u => !(u.seam.isSome && u.spent)) }
  else (d.applyNow f u).mirrorUpdate u

/-! ### Rows an update affects -/

/-- Every row of each plane that owns a head the records name (R138). -/
def Forme.nzRows (f : Forme) (rs : List (Nat × Word)) : List Nat :=
  let slots := (rs.map (fun rc => nzHeadOf (rc.1 % 0x200000))).eraseDups
  let planes := (slots.filterMap (fun h => (f.head h).map (fun x => x.row / 2))).eraseDups
  f.rowsInUse.filter (fun r => planes.contains (r / 2))

/-- A nozzle record is no host error (R136). -/
def Forme.nzRecOk (f : Forme) (rc : Nat × Word) : Bool :=
  let i := rc.1 % 0x200000
  decide (i ≤ 0x1000FF) && (f.head (nzHeadOf i)).isSome

/-- The rows a registration batch affects (R187). -/
def Forme.regRows (f : Forme) (rs : List (Word × Word)) : List Nat :=
  if rs.any (fun rc => decide (3 ≤ fld rc.1 12 4)) then f.rowsInUse
  else
    let rows := rs.filterMap (fun rc =>
      if fld rc.1 12 4 = 0 then some (fld rc.1 0 12) else (f.head (fld rc.1 0 12)).map (·.row))
    f.rowsInUse.filter (fun r => rows.contains r)

/-- A registration record of a host or core is no host error (R184, R186). -/
def Forme.regRecOk (f : Forme) (rc : Word × Word) : Bool :=
  let i := fld rc.1 0 12
  match fld rc.1 12 4 with
  | 0 => f.rowsInUse.contains i && decide (-8388608 ≤ sgn rc.2) && decide (sgn rc.2 ≤ 8388607)
  | 1 => (f.head i).isSome
  | 2 => (f.head i).isSome
  | 3 => decide (0x3999999A ≤ rc.2.toNat) && decide (rc.2.toNat ≤ 0x46666666)
  | _ => false

/-- The XTRIM records of a batch keep R9, R19 and R21 (R183), every head standing where the last trim staged for it puts
it (log entry 128). -/
def Dev.trimsOk (d : Dev) (f : Forme) (rs : List (Word × Word)) : Bool :=
  let hs := (rs.filter (fun rc => fld rc.1 12 4 == 2)).filterMap (fun rc => f.head (fld rc.1 0 12))
  let x := fun h : HeadCfg => xtrimAfter h.slot (xtrimThrough h.slot (d.headFire h.slot).x d.ups) rs
  let f' : Forme := { f with heads := f.heads.map (fun h => { h with place := ((h.place : Int) + x h).toNat }) }
  hs.isEmpty ||
    hs.all (fun h => decide (0 ≤ h.col0 (x h)) && decide (h.col0 (x h) + ((h.nozzles : Int) - 1) * h.pitch ≤ 104959))
      && f'.planes.all (fun p =>
        let front := f'.rowHeads (2 * p.c)
        let back := f'.rowHeads (2 * p.c + 1)
        !(hs.any (fun h => h.row / 2 == p.c))
          || stitchOk front && stitchOk back
            && (p.rowMode != 1 || front.all (fun a => back.all (fun b => decide (a.col0 0 % 2 ≠ b.col0 0 % 2)))
              && gridServed f' p (front ++ back)))

/-! ### Host buffers (R138, R139, R187, R188) -/

/-- The result of a SUBMIT in a host status register: RESULT, VALID and SEQ (R153, R205). -/
def Dev.submitResult (d : Dev) (off r : Nat) : Dev :=
  let old := d.reg off
  d.setReg off (windowNext old (setFld old 20 3 r))

/-- NZ_HSTATUS.HCOUNT follows the buffer. -/
def Dev.setNzBuf (d : Dev) (b : List (Word × Word)) (ovf : Bool) : Dev :=
  ({ d with nz := { d.nz with hbuf := b, hbufOvf := ovf } } : Dev).setRegFld 0x070010 0 13 b.length

/-- FIR_BSTATUS.HCOUNT follows the buffer. -/
def Dev.setFirBuf (d : Dev) (b : List (Word × Word)) (ovf : Bool) : Dev :=
  ({ d with fir := { d.fir with hbuf := b, hbufOvf := ovf } } : Dev).setRegFld 0x090050 0 11 b.length

/-- SUBMIT of the nozzle host buffer (R137 to R139). -/
def Dev.nzSubmit (d : Dev) (w : Writer) : Eff :=
  if d.nz.hbufOvf then .ok ((d.setNzBuf [] false).submitResult 0x070010 2)
  else
    match d.forme with
    | none => if d.nz.hbuf.isEmpty then .ok (d.submitResult 0x070010 3) else hostError 136
    | some f =>
      let rs := d.nz.hbuf.map (fun rc => (rc.1.toNat, rc.2))
      if !(rs.all f.nzRecOk) then hostError 136
      else if d.nzFree < rs.length then .ok (d.submitResult 0x070010 1)
      else
        let ctrl := d.reg 0x070008
        let u : Update := { block := 0x07, tag := fld ctrl 16 16, by_ := d.actsFor w, seam := none,
                            payload := .nozzle rs, rows := f.nzRows rs, applied := [], planes := [], planesDone := [] }
        let r := if d.printing then 0 else 3
        let d := d.submit f u (if flag ctrl 2 then some (d.reg 0x07000C) else none)
        .ok ((d.setNzBuf [] false).submitResult 0x070010 r)

/-- SUBMIT of the registration host buffer (R187, R188). -/
def Dev.firSubmit (d : Dev) (w : Writer) : Eff :=
  if d.fir.hbufOvf then .ok ((d.setFirBuf [] false).submitResult 0x090050 2)
  else
    match d.forme with
    | none => if d.fir.hbuf.isEmpty then .ok (d.submitResult 0x090050 3) else hostError 186
    | some f =>
      let rs := d.fir.hbuf
      if !(rs.all f.regRecOk) then hostError 186
      else if !(d.trimsOk f rs) then hostError 183
      else if d.firFree < rs.length then .ok (d.submitResult 0x090050 1)
      else
        let ctrl := d.reg 0x090048
        let u : Update := { block := 0x09, tag := fld ctrl 16 16, by_ := d.actsFor w, seam := none,
                            payload := .reg rs, rows := f.regRows rs, applied := [], planes := [], planesDone := [] }
        let r := if d.printing then 0 else 3
        let d := d.submit f u (if flag ctrl 2 then some (d.reg 0x09004C) else none)
        .ok ((d.setFirBuf [] false).submitResult 0x090050 r)

/-- NZ_HREC_HI: the record formed with the last NZ_HREC_LO joins the buffer; a full buffer drops it (R139). -/
def Dev.writeNzRecHi (d : Dev) (w : Writer) (v : Word) : Eff :=
  d.guarded w 0x070004 (fun _ _ _ d =>
    if 4096 ≤ d.nz.hbuf.length then .ok (d.setNzBuf d.nz.hbuf true)
    else .ok (d.setNzBuf (d.nz.hbuf ++ [(d.reg 0x070000, v)]) d.nz.hbufOvf))

/-- FIR_BREC_HI (R188). -/
def Dev.writeFirRecHi (d : Dev) (w : Writer) (v : Word) : Eff :=
  d.guarded w 0x090044 (fun _ _ _ d =>
    if 1024 ≤ d.fir.hbuf.length then .ok (d.setFirBuf d.fir.hbuf true)
    else .ok (d.setFirBuf (d.fir.hbuf ++ [(d.reg 0x090040, v)]) d.fir.hbufOvf))

/-- NZ_HCTRL: its fields are kept, then SUBMIT and DISCARD act in that order (R139). -/
def Dev.writeNzHctrl (d : Dev) (w : Writer) (v : Word) : Eff :=
  d.guarded w 0x070008 (fun r _ _ d => do
    let d := d.storeReg w 0x070008 r v
    let d ← if flag v 0 then d.nzSubmit w else .ok d
    .ok (if flag v 1 then d.setNzBuf [] false else d))

/-- FIR_BCTRL (R188). -/
def Dev.writeFirBctrl (d : Dev) (w : Writer) (v : Word) : Eff :=
  d.guarded w 0x090048 (fun r _ _ d => do
    let d := d.storeReg w 0x090048 r v
    let d ← if flag v 0 then d.firSubmit w else .ok d
    .ok (if flag v 1 then d.setFirBuf [] false else d))

/-- NZ_HREC_APPEND (R139). -/
def execNzHrecAppend (t : Nat) (w : Writer) (v : Word) (s : State) : Res := onDevE t (fun d => d.writeNzRecHi w v) s
/-- NZ_SUBMIT (R138): NZ_HCTRL is written with SUBMIT. -/
def execNzSubmit (t : Nat) (w : Writer) (v : Word) (s : State) : Res := onDevE t (fun d => d.writeNzHctrl w v) s
/-- NZ_DISCARD (R139): NZ_HCTRL is written with DISCARD. -/
def execNzDiscard (t : Nat) (w : Writer) (v : Word) (s : State) : Res := onDevE t (fun d => d.writeNzHctrl w v) s
/-- FIR_BREC_APPEND (R188). -/
def execFirBrecAppend (t : Nat) (w : Writer) (v : Word) (s : State) : Res := onDevE t (fun d => d.writeFirRecHi w v) s
/-- FIR_SUBMIT (R187): FIR_BCTRL is written with SUBMIT. -/
def execFirSubmit (t : Nat) (w : Writer) (v : Word) (s : State) : Res := onDevE t (fun d => d.writeFirBctrl w v) s
/-- FIR_DISCARD (R188): FIR_BCTRL is written with DISCARD. -/
def execFirDiscard (t : Nat) (w : Writer) (v : Word) (s : State) : Res := onDevE t (fun d => d.writeFirBctrl w v) s

/-! ### Default shares (R130) -/

/-- The nozzles of two heads that share columns, by rising column: the zone between them. -/
def zoneOf (a b : HeadCfg) : List (Nat × Nat) :=
  (List.range a.nozzles).filterMap (fun n =>
    let c := a.colOf 0 n
    if 0 ≤ c then (b.nozzleAt 0 c.toNat).map (fun m => (n, m)) else none)

/-- The default shares of one zone: nozzle index and share. -/
def zoneShares (a b : HeadCfg) : List (Nat × Nat) :=
  let z := zoneOf a b
  let sg := b.residual - a.residual
  ((List.range z.length).zip z).flatMap (fun (j, n, m) =>
    let sa := defaultShareA z.length j sg
    [(a.slot * 4096 + n, sa), (b.slot * 4096 + m, 64 - sa)])

/-- The pairs of neighbouring heads of every row, in placement order. -/
def Forme.headPairs (f : Forme) : List (HeadCfg × HeadCfg) :=
  f.rowsInUse.flatMap (fun r =>
    let hs := sortBy (fun h => (h.place : Int)) (f.rowHeads r)
    hs.zip (hs.drop 1))

/-- The table with the default shares of a zone. -/
def NzDev.defaultZone (z : NzDev) (a b : HeadCfg) : NzDev :=
  { z with table := (zoneShares a b).foldl (fun m (i, s) =>
      Sparse.set nzDefault m i (setFld (Sparse.get nzDefault m i) 20 7 s)) z.table }

/-! ### The nozzle ledger (R147 to R152) -/

/-- Flash offset of a copy. -/
def ledgerBase (b : Bool) : Nat := if b then 0x02800000 else 0x02000000

/-- A copy is valid: its SEQ (R148). -/
def Dev.ledgerSeq (d : Dev) (b : Bool) : Option Word :=
  let base := ledgerBase b
  let h := d.flashRead base 64
  if u32 h 0 = 0x4744454C && u16 h 4 = 0x0100 && (crc32c (h.take 0x3C)).toNat = u32 h 0x3C
      && (crc32c (d.flashRead (base + 0x1000) 0x401000)).toNat = u32 h 0x10 then some (BitVec.ofNat 32 (u32 h 8))
  else none

/-- The copy to use: the valid one of the higher SEQ (R148). -/
def Dev.ledgerPick (d : Dev) : Option (Bool × Word) :=
  match d.ledgerSeq false, d.ledgerSeq true with
  | some a, some b => if lineDiff b a > 0 then some (true, b) else some (false, a)
  | some a, none => some (false, a)
  | none, some b => some (true, b)
  | none, none => none

/-- The head record of a slot in a copy. -/
def Dev.ledgerHead (d : Dev) (b : Bool) (h : Nat) : List Byte := d.flashRead (ledgerBase b + 0x1000 + 16 * h) 16

/-- The table and head words filled from the ledger at a FULL load, with default shares where its own are not taken
(R123, R130, R148, R150). -/
def Dev.ledgerLoad (d : Dev) (f : Forme) : Dev :=
  let st := setFld (d.reg 0x070024) 0 2 0
  match d.ledgerPick with
  | none =>
    let z := f.headPairs.foldl (fun z ab => NzDev.defaultZone z ab.1 ab.2)
      { d.nz with table := [], heads := [], ids := [], copy := 0 }
    ({ d with nz := z }.setReg 0x070024 st).setReg 0x070028 0
  | some (b, seq) =>
    let words := chunks 4 (d.flashRead (ledgerBase b + 0x2000) 0x400000)
    let z := { d.nz with
      table := ((List.range 1048576).zip words).foldl (fun m (i, w) =>
        Sparse.set nzDefault m i (BitVec.ofNat 32 (leNat w))) [],
      heads := (List.range 256).foldl (fun m h =>
        Sparse.set nzHeadDefault m h (BitVec.ofNat 32 (u32 (d.ledgerHead b h) 12))) [],
      ids := (List.range 256).foldl (fun m h => Sparse.set (fun _ => 0) m h (u64 (d.ledgerHead b h) 0)) [],
      copy := if b then 2 else 1 }
    let same := fun (h : HeadCfg) => u32 (d.ledgerHead b h.slot) 8 == h.place
    let z := f.headPairs.foldl (fun z ab =>
      if same ab.1 && same ab.2 then z else NzDev.defaultZone z ab.1 ab.2) z
    ({ d with nz := z }.setReg 0x070024 (setFld st 0 2 z.copy)).setReg 0x070028 seq

/-- The bytes of a copy from 0x1000 up: head records and nozzle words as they stand in force. -/
def Dev.ledgerWords (d : Dev) : List Byte :=
  (List.range 256).flatMap (fun h =>
    leBytes 8 (Sparse.get (fun _ => 0) d.nz.ids h)
      ++ leBytes 4 (match d.forme.bind (·.head h) with | some x => x.place | none => 0)
      ++ leBytes 4 (Sparse.get nzHeadDefault d.nz.heads h).toNat)
  ++ (List.range 1048576).flatMap (fun i => leBytes 4 (Sparse.get nzDefault d.nz.table i).toNat)

/-- The header of a copy. -/
def ledgerHeader (seq : Word) (formeId : Nat) (words : List Byte) : List Byte :=
  let h := leBytes 4 0x4744454C ++ leBytes 2 0x0100 ++ leBytes 2 0 ++ leBytes 4 seq.toNat ++ leBytes 4 formeId
    ++ leBytes 4 (crc32c words).toNat ++ List.replicate 40 0
  h ++ leBytes 4 (crc32c h).toNat

/-- Flash may be written: the coldest reading at least −20 °C and the hottest at most +100 °C (R435). -/
def Dev.flashWindow (d : Dev) : Bool :=
  let tj := d.reg 0x13001C
  decide (-320 ≤ signed 16 (fld tj 16 16)) && decide (signed 16 (fld tj 0 16) ≤ 1600)

/-- The code of a flash target in EV_NVM_WRITE_BLOCKED (R435). -/
def flashCode (t : Nat) : Nat := if t = 2 then 3 else 2

/-- A refused flash command: EV_NVM_WRITE_BLOCKED (R435). -/
def Dev.flashBlocked (d : Dev) (target : Nat) : Dev :=
  d.raiseAll 0x0006 0x13FF (BitVec.ofNat 32 target) (d.reg 0x13001C)

/-- The first `n` sectors of a target erased. -/
def Dev.eraseSectors (d : Dev) (sector : Nat) : Nat → Dev
  | 0 => d
  | n + 1 => (d.flashErase sector).eraseSectors (sector + 1) n

/-- A flash sequence halted after `steps` commands: each first erases one sector, then programs 64 bytes of the body
(log entry 21). -/
def Dev.flashPartial (d : Dev) (base bodyOff sectors : Nat) (body : List Byte) (steps : Nat) : Dev :=
  let d := d.eraseSectors (base / 4096) (min steps sectors)
  d.flashProgram (base + bodyOff) (body.take (64 * (steps - sectors)))

/-- A ledger save ends: RESULT, SEQ, BUSY (R151, R152). -/
def Dev.ledgerResult (d : Dev) (r : Nat) (stale : Bool) : Dev :=
  let old := d.reg 0x070024
  let d : Dev := { d with nz := { d.nz with save := none } }
  d.setReg 0x070024 (windowNext old (setFld (setFld (setFld old 20 3 r) 2 1 0) 3 1 (b2n stale)))

/-- A save starts, or is refused because the junction is outside its window (R151, R152, R435). -/
def Dev.ledgerStart (d : Dev) : Dev :=
  if d.flashWindow then
    let old := d.reg 0x070024
    ({ d with nz := { d.nz with save := some { copyB := d.nz.copy == 1, stale := false, halted := false }, saveWait := false } } : Dev).setReg
      0x070024 (setFld (setFld (windowBusy old old) 2 1 1) 3 1 0)
  else
    let d : Dev := { d with nz := { d.nz with saveWait := false } }
    (d.flashBlocked 0x01).ledgerResult 1 false

/-- NZ_LEDGER_CTRL: SAVE starts a save, is ignored while one runs, and waits while the flash writer runs (R66, R151). -/
def Dev.writeLedgerCtrl (d : Dev) (w : Writer) (v : Word) : Eff :=
  d.guarded w 0x070020 (fun _ _ _ d =>
    if !(flag v 0) || d.nz.save.isSome || d.nz.saveWait then .ok d
    else if d.fm.flashJob.isSome then .ok { d with nz := { d.nz with saveWait := true } }
    else .ok d.ledgerStart)

/-- A ledger save ends (R151, R152): `steps` commands were issued before a halt, which a round's end may have made (R435); `flashOk` tells whether the flash
took them. -/
def Dev.ledgerEnd (d : Dev) (steps : Nat) (flashOk : Bool) : Dev :=
  match d.nz.save with
  | none => d
  | some j =>
    let f := d.forme
    let words := d.ledgerWords
    let base := ledgerBase j.copyB
    if j.halted || !d.flashWindow then
      let d := d.flashPartial base 0x1000 0x402 words steps
      (if j.halted then d else d.flashBlocked 0x01).ledgerResult 1 j.stale
    else if !flashOk then (d.flashPartial base 0x1000 0x402 words steps).ledgerResult 2 j.stale
    else
      let seq : Word := if d.nz.copy = 0 then 1 else d.reg 0x070028 + 1
      let h := ledgerHeader seq (match f with | some f => f.id | none => 0) words
      let d := ((d.eraseSectors (base / 4096) 0x402).flashProgram (base + 0x1000) words).flashProgram base h
      let d : Dev := { d with nz := { d.nz with copy := if j.copyB then 2 else 1 } }
      let d := (d.setReg 0x070028 seq).setRegFld 0x070024 0 2 (if j.copyB then 2 else 1)
      d.ledgerResult 0 j.stale

/-- SAVE (R151): NZ_LEDGER_CTRL is written with SAVE. -/
def execLedgerSave (t : Nat) (w : Writer) (v : Word) (s : State) : Res := onDevE t (fun d => d.writeLedgerCtrl w v) s
/-- LEDGER_SAVE_END (R152). -/
def execLedgerSaveEnd (t steps : Nat) (flashOk : Bool) (s : State) : Res := onDev t (fun d => d.ledgerEnd steps flashOk) s

/-! ### A head that is new (R149) -/

/-- The words of a head reset to blank, zone nozzles to their default shares, as records (R123, R130, R149). -/
def Forme.blankRecs (f : Forme) (h : HeadCfg) : List (Nat × Word) :=
  let sh := (f.headPairs.filter (fun ab => ab.1.slot == h.slot || ab.2.slot == h.slot)).flatMap (fun ab => zoneShares ab.1 ab.2)
  (List.range 4096).map (fun n =>
    let i := h.slot * 4096 + n
    let w := match sh.find? (fun x => x.1 == i) with | some x => setFld blankWord 20 7 x.2 | none => blankWord
    (0x1F * 0x200000 + i, w))
  ++ [(0x100000 + h.slot, 0x00000400)]

/-- A head's reported identity compared with the ledger's at link-up (R149): zero matches anything; a difference resets
its words at once, or as a batch bound to a seam while a job runs. -/
def Dev.headIdentity (d : Dev) (f : Forme) (h : HeadCfg) (id : Nat) : Dev :=
  let old := Sparse.get (fun _ => 0) d.nz.ids h.slot
  let d : Dev := if id = 0 then d else { d with nz := { d.nz with ids := Sparse.set (fun _ => 0) d.nz.ids h.slot id } }
  if old = 0 || id = 0 || old = id then d
  else
    let o := 0x070100 + 4 * (h.slot / 32)
    let d := d.setReg o (setFlag (d.reg o) (h.slot % 32) true)
    let rs := f.blankRecs h
    let u : Update := { block := 0x07, tag := 0, by_ := 0xFF, seam := none, payload := .nozzle rs, rows := f.nzRows rs,
                        applied := [], planes := [], planesDone := [] }
    if d.printing then d.stage f u u.rows none
    else { d with nz := rs.foldl NzDev.apply d.nz }

end Sys2Proof.Machine
end

