-- ==== Sys2Proof/Machine/Targets.lean ====
section
/-!
DEFINITION. Compare units: their targets (R198 to R201), as jobs and registers set them.
-/
namespace Sys2Proof.Machine

/-- Offset of a register of compare unit `n` (R205). -/
def pcReg (n o : Nat) : Nat := 0x092000 + 0x40 * n + o
/-- PC_STATUS.STATE: 0 IDLE, 1 ARMED, 2 LATE, 3 DONE. -/
def Dev.pcState (d : Dev) (n : Nat) : Nat := fld (d.reg (pcReg n 0x14)) 0 3
def Dev.setPcState (d : Dev) (n v : Nat) : Dev := d.setRegFld (pcReg n 0x14) 0 3 v
/-- PC_CTRL.MODE and REF. -/
def Dev.pcMode (d : Dev) (n : Nat) : Nat := fld (d.reg (pcReg n 0)) 3 2
def Dev.pcRef (d : Dev) (n : Nat) : Nat := fld (d.reg (pcReg n 0)) 5 2

/-- The station offset O in fu (R199). -/
def Dev.pcOffset (d : Dev) (n : Nat) : Int := fld (d.reg (pcReg n 8)) 0 28

/-- T of an ABSOLUTE or LINE unit (R199). -/
def Dev.pcBase (d : Dev) (n : Nat) : Option Int :=
  match d.pcRef n with
  | 0 => some (signed 64 ((d.reg (pcReg n 4)).toNat + (d.reg (pcReg n 8)).toNat * 4294967296))
  | 1 => (d.pc n).line.map (fun s => d.job.p0 + 64 * s + d.pcOffset n + d.fir.anchorNow)
  | _ => none

/-- The next target of a unit (R199, R200). -/
def Dev.pcNext (d : Dev) (n : Nat) : Option Int :=
  match d.pcMode n with
  | 2 => (d.pc n).targets.head?
  | 1 => (d.pcBase n).map (fun b => b + (d.pc n).m * (d.reg (pcReg n 0xC)).toNat)
  | _ => d.pcBase n

/-- A position is passed (R180). -/
def Dev.passed (d : Dev) (x : Int) : Bool := decide (x ≤ d.fir.pmax)

/-- EV_COMPARE_LATE: T in words 2 and 3, the unit, T's low half (R201). -/
def Dev.compareLate (d : Dev) (n : Nat) (tgt : Int) : Dev :=
  match d.owner 1 n with
  | some h => d.raiseAt h tgt 0x0010 (0x0920 + n) (BitVec.ofNat 32 n) (low32 tgt)
  | none => d

/-- T_k of a REPEAT unit for a committed repeat; none where the line lies past the repeat (R199). -/
def Dev.pcRepeatTarget (d : Dev) (n : Nat) (r : Repeat) : Option Int :=
  let o := (d.reg (pcReg n 4)).toNat
  if r.n + r.g ≤ o then none
  else some (d.job.p0 + 64 * (r.b + o) + d.pcOffset n + d.fir.anchorNow)

/-- A committed repeat gives every ARMED REPEAT unit its target (R199, R200). -/
def Dev.pcCommit (d : Dev) (r : Repeat) : Dev :=
  (List.range 32).foldl (fun d n =>
    if d.pcState n = 1 && d.pcMode n = 2 && !(d.pc n).waiting then
      match d.pcRepeatTarget n r with
      | some x => d.setPc n { d.pc n with targets := (d.pc n).targets ++ [x] }
      | none => d
    else d) d

/-- A unit armed, or released from waiting by START, is judged (R201): a passed target never fires; ONCE goes LATE,
PERIODIC keeps phase, REPEAT goes on with the next repeat. -/
def Dev.pcJudge (d : Dev) (n : Nat) : Dev :=
  let u := d.pc n
  let d := d.setPc n { u with waiting := false, targets := [], m := 0,
                              line := if d.pcRef n = 1 then
                                some (resolveLine (d.lineAt d.p) (d.reg (pcReg n 4))) else none }
  match d.pcMode n with
  | 2 =>
    let s := d.lineAt d.p
    let ts := d.job.reps.filterMap (d.pcRepeatTarget n)
    let cur := (d.job.reps.find? (fun r => decide (r.b ≤ s) && decide (s < r.stop))).bind (d.pcRepeatTarget n)
    let d := d.setPc n { d.pc n with targets := ts.filter (fun x => !(d.passed x)) }
    (match cur with
     | some x => if d.passed x then d.compareLate n x else d
     | none => d)
  | 1 =>
    (match d.pcBase n with
     | some b =>
       if d.passed b then
         let per : Int := (d.reg (pcReg n 0xC)).toNat
         let m := if per = 0 then 0 else ((d.fir.pmax - b) / per + 1).toNat
         (d.setPc n { d.pc n with m := m }).compareLate n b
       else d
     | none => d)
  | _ =>
    (match d.pcBase n with
     | some b => if d.passed b then (d.setPcState n 2).compareLate n b else d
     | none => d)

/-- Units that wait for a job are judged from START (R199). -/
def Dev.pcStart (d : Dev) : Dev :=
  (List.range 32).foldl (fun d n => if d.pcState n = 1 && (d.pc n).waiting then d.pcJudge n else d) d

/-- LINE and REPEAT units return to IDLE at the job boundary without a pulse (R199). -/
def Dev.pcBoundary (d : Dev) : Dev :=
  (List.range 32).foldl (fun d n =>
    if d.pcState n = 1 && d.pcRef n ≠ 0 then
      (d.setPcState n 0).setPc n { d.pc n with targets := [], line := none, m := 0, waiting := false }
    else d) d

end Sys2Proof.Machine
end

