-- ==== Sys2Proof/Machine/Job.lean ====
section
/-!
DEFINITION. Jobs: queues, commits, dry stretches, START, STOP and the job boundary (R82 to R87), and the swath fetch
ports with their decompressors (R88 to R90).
-/
namespace Sys2Proof.Machine

/-- The planes in use (R42). -/
def Forme.planesInUse (f : Forme) : List Nat := (List.range 8).filter (fun c => bit f.geom.planeMask c)

/-- The most upstream in-use row, and the line it is preparing. -/
def Dev.upLine (d : Dev) (f : Forme) : Int :=
  match f.upstream f.rowsInUse with
  | some r => d.prep r
  | none => d.job.first - 1

/-- The contexts that own the job queue of an in-use plane, once each. -/
def Dev.queueOwners (d : Dev) (f : Forme) : List Nat := (f.planesInUse.filterMap (fun c => d.owner 0 c)).eraseDups

/-- EV_LATE_LINE for a dry stretch: its first line at the datum, cause 1, its number of lines (R83). -/
def Dev.raiseDry (d : Dev) (f : Forme) (first : Int) (n : Nat) : Dev :=
  (d.queueOwners f).foldl (fun d h =>
    d.raiseAt h (d.job.p0 + 64 * first) 0x0002 0x04FF 0x00000001 (BitVec.ofNat 32 n)) d

/-- Lines added to the gutter of the last committed repeat as dry lines (R83). -/
def addDry (n : Nat) : List Repeat → List Repeat
  | [] => []
  | [r] => [{ r with g := r.g + n, dry := r.dry + n }]
  | r :: rs => r :: addDry n rs

/-- JOB_STATUS.STATE changes: every core's SIG.JOB is set (R309). -/
def Dev.setPhase (d : Dev) (p : Phase) : Dev :=
  if d.job.phase = p then d
  else (List.range 8).foldl (fun d n => d.signalCore n 7) { d with job := { d.job with phase := p } }

/-- Lines of the stored image an entry names: C of its header (R70). -/
def Dev.imageLines (d : Dev) (f : Forme) (c image : Nat) : Nat :=
  u32 (d.dramRead (d.jobBase f c + image * 64 + 8) 4) 0

/-- Mirror writes issued before an entry was posted have all been acknowledged, or no READY standby is attached
(R393). -/
def Dev.mirrorDone (d : Dev) (seq : Word) : Bool :=
  !(d.mirroring && (match d.tw.peer with | some p => p.state == 5 | none => false)
    && d.tw.unacked.any (fun u => decide (lineDiff u.seq seq < 0)
      && (match u.frame with | .mirror _ _ _ => true | _ => false)))

/-- Entry `k` of every in-use plane, when all are posted and mirrored (R83, R393). -/
def Dev.entriesAt (d : Dev) (f : Forme) (k : Nat) : Option (List (Nat × QEntry)) :=
  f.planesInUse.foldr (fun c acc =>
    match (d.queue c).entries[k]?, acc with
    | some e, some l => if d.mirrorDone e.seq then some ((c, e) :: l) else none
    | _, _ => none) (some [])

/-- Repeat `k` commits (R82, R83): its length and gutter, its place after a dry stretch, and the end of the job where
its lead entry has LAST. -/
def Dev.commitRepeat (d : Dev) (f : Forme) (es : List (Nat × QEntry)) : Eff :=
  match es with
  | [] => .ok d
  | (c0, e0) :: rest =>
    let len := fun c (e : QEntry) => d.imageLines f c e.image * (match f.plane c with | some p => f.fy p | none => 0)
    let n := len c0 e0
    if !(rest.all (fun x => len x.1 x.2 == n && x.2.gutter == e0.gutter)) then hostError 82
    else
      let k := d.job.reps.length
      let (b, d) : Int × Dev := match d.job.dryFrom with
        | some p =>
          let b := d.upLine f + 256
          let m := (b - p).toNat
          let d := { d with job := { d.job with reps := addDry m d.job.reps, dryFrom := none, dryLines := d.job.dryLines + m } }
          (b, d.raiseDry f p m)
        | none => (d.job.nextB, d)
      let r : Repeat := { b := b, n := n, g := e0.gutter, dry := 0 }
      let d := { d with job := { d.job with reps := d.job.reps ++ [r] } }
      let d := if e0.last then { d with job := { d.job with stop := true, endLine := some (r.stop - 1) } } else d
      .ok ((d.pcCommit r).mirrored (.repeatStart k r.b r.n r.g))

/-- Every repeat that is complete commits, in order (R83); `fuel` bounds the entries posted. -/
def Dev.commitReady (f : Forme) : Nat → Dev → Eff
  | 0, d => .ok d
  | fuel + 1, d =>
    if d.job.phase = .idle || d.job.stop then .ok d
    else
      match d.entriesAt f d.job.reps.length with
      | some es =>
        (match d.commitRepeat f es with
         | .ok d => Dev.commitReady f fuel d
         | e => e)
      | none => .ok d

/-- FREE of a queue (R87): 64 less the entries posted and not yet retired. -/
def JobQueue.free (q : JobQueue) : Nat := 64 - (q.posted - (q.done + q.gone))

/-- JQ_POST (R82, R84, R86): an entry is posted; after a stop it is retired unprinted at once. -/
def Dev.postEntry (d : Dev) (f : Forme) (c : Nat) : Eff :=
  let q := d.queue c
  if q.free = 0 then hostError 84
  else
    let img := d.reg (0x040100 + 0x20 * c)
    let gut := d.reg (0x040104 + 0x20 * c)
    let d := d.mirrored (.queuePost c img gut)
    if d.job.phase ≠ .idle && d.job.stop then
      .ok (d.setQueue c { q with posted := q.posted + 1, gone := q.gone + 1 })
    else
      let e : QEntry := { image := img.toNat, gutter := fld gut 0 12, last := flag gut 16, seq := d.tw.nextSeq }
      let d := d.setQueue c { q with entries := q.entries ++ [e], posted := q.posted + 1 }
      Dev.commitReady f 64 d

/-- A write of JQ_POST: bit 0 posts (R87). -/
def Dev.writeJqPost (d : Dev) (w : Writer) (c : Nat) (v : Word) : Eff :=
  d.guarded w (0x040108 + 0x20 * c) (fun _ _ _ d =>
    match d.forme with
    | some f => if flag v 0 then d.postEntry f c else .ok d
    | none => .ok d)

/-! ### START and STOP -/

/-- The job has reached its end: DRAINING once the most upstream row has prepared the end line (R86). -/
def Dev.checkDrain (d : Dev) (f : Forme) : Dev :=
  match d.job.endLine with
  | some e =>
    (match f.upstream f.rowsInUse with
     | some r => if d.job.phase = .running && decide (e < d.prep r + f.rowStep r) then d.setPhase .draining else d
     | none => d)
  | none => d

/-- STOP (R86): the job ends after the last committed repeat's gutter, or in a dry stretch at the line being prepared;
entries posted and not committed retire unprinted. -/
def Dev.stopJob (d : Dev) (f : Forme) : Dev :=
  if d.job.phase ≠ .running || d.job.stop then d
  else
    let k := d.job.reps.length
    let d := f.planesInUse.foldl (fun d c =>
      let q := d.queue c
      d.setQueue c { q with entries := q.entries.take k, gone := q.gone + (q.entries.length - k) }) d
    let l := d.upLine f
    let d := match d.job.dryFrom with
      | some b =>
        if b ≤ l then
          let m := (l - b + 1).toNat
          let d := { d with job := { d.job with reps := addDry m d.job.reps, dryLines := d.job.dryLines + m,
                                                dryFlag := true, endLine := some l } }
          d.raiseDry f b m
        else { d with job := { d.job with endLine := some (d.job.nextB - 1) } }
      | none => { d with job := { d.job with endLine := some (d.job.nextB - 1) } }
    let d := { d with job := { d.job with stop := true, dryFrom := none } }
    let d := d.mirrored (.jobEnd (d.job.endLine.getD 0))
    d.checkDrain f

/-- The screening state of every plane at START: error rows from the seed, counters cleared (R113, R119). -/
def Dev.screenStart (d : Dev) (f : Forme) : Dev :=
  f.planes.foldl (fun d p =>
    let pl := d.plane p.c
    let pl := { pl with clip := 0, esat := 0, edrop := 0, lines := 0, next := 0, cur := [], curLine := none, carry := [],
                        carryLine := 0, ring := [], seam := 0 }
    let pl := if pl.mode p.c = 1 then d.regenerate f p 0 pl else pl
    (d.setPlane p.c pl).setReg (0x070040 + 4 * p.c) 0) d

/-- The first line of a head in a job: the least line at or before line 0 whose fire position (R181) has not been passed
at START (R180; log entry 7). -/
def Dev.headFirst (d : Dev) (f : Forme) (h : HeadCfg) : Int :=
  let base := d.job.p0 + f.dR h.row + h.dH + (d.rowFire h.row).c + (d.headFire h.slot).e
  min 0 ((max d.fir.pmax d.p - base) / 64 + 1)

/-- The first line of a row: the least of its heads' first lines; line 0 where it has no head. -/
def Dev.rowFirst (d : Dev) (f : Forme) (r : Nat) : Int := (f.rowHeads r).foldl (fun m h => min m (d.headFirst f h)) 0

/-- START fixes where every row and head begins, with corrections equal to their targets (R182, R85). -/
def Dev.correctionsStart (d : Dev) (f : Forme) : Dev :=
  let d := f.rowsInUse.foldl (fun d r => let x := d.rowFire r; d.setRowFire r { x with c := x.tgt + x.anchor, run := none }) d
  let d := f.heads.foldl (fun d h =>
    let x := d.headFire h.slot
    d.setHeadFire h.slot { x with e := x.tgt, lines := [], last := none, commit := none }) d
  let d := { d with job := { d.job with first := f.rowsInUse.foldl (fun m r => min m (d.rowFirst f r)) 0, prep := [] } }
  let d := f.heads.foldl (fun d h =>
    d.setHeadFire h.slot { d.headFire h.slot with done := d.headFirst f h - 1, fired := d.headFirst f h - 1 }) d
  f.rowsInUse.foldl (fun d r => d.setPrep r (d.rowFirst f r - 1)) d

/-- Every row applies what waits for a seam, as when no job runs: at the job boundary nothing is left to wait for
(R86, R138; log entry 22). -/
def Dev.applyAll (d : Dev) (f : Forme) : Dev :=
  let us := d.ups
  let d := { d with ups := [], fir := { d.fir with gains := [], anchors := [] } }
  us.foldl (fun d u =>
    let u := { u with rows := u.rows.filter (fun r => !(u.applied.contains r)),
                      planes := u.planes.filter (fun c => !(u.planesDone.contains c)) }
    let (d, p) := if u.seam.isSome then (d, u.payload) else d.onBound u.payload
    let d := u.rows.foldl (fun d r => d.applyRow f r { u with payload := p } none) d
    let d := d.gainsNow f p
    let d := f.planes.foldl (fun d pc =>
      if u.planes.contains pc.c then
        let old := d.plane pc.c
        d.setPlane pc.c (d.rescreen f pc (d.prep (2 * pc.c)) old (planeAfter pc.c { u with payload := p } old))
      else d) d
    if u.rows.isEmpty then d else d.raiseSeam u 0xFFFFFFFF) d

/-- START (R85): P₀ is fixed and the job starts; repeats already posted whole commit. Each link owes its heads a TICK
(R219). -/
def Dev.startJob (d : Dev) (f : Forme) (relative : Bool) : Eff :=
  if d.job.phase ≠ .idle || f.planesInUse.any (fun c => (d.queue c).entries.isEmpty) then hostError 85
  else
    let lo := d.reg 0x040008
    let hi := d.reg 0x04000C
    let p0 : Int := if relative then d.p + 64 * (lo.toNat : Int) else signed 64 (lo.toNat + hi.toNat * 4294967296)
    let d := { d with job := { d.job with p0 := p0, reps := [], stop := false, endLine := none,
                                          dryFrom := none, dryLines := 0, doneRows := [] },
                      swath := [] }
    let d := (d.screenStart f).correctionsStart f
    let d := { d with fir := { d.fir with anchorNow := d.fir.anchorTgt, anchorLine := d.lineAt d.p } }
    let d := (d.setReg 0x0D0000 (setFlag (d.reg 0x0D0000) 8 false)).wakeIdle
    let d := (List.range 32).foldl (fun d k => d.setBl k { d.bl k with tickFor := (f.linkHeads k).map (·.port) }) d
    match Dev.commitReady f 64 (d.setPhase .running) with
    | .ok d => .ok d.pcStart
    | e => e

/-- A write of JOB_CTRL: ORIGIN is kept; STOP acts before START (R86). -/
def Dev.writeJobCtrl (d : Dev) (w : Writer) (v : Word) : Eff :=
  d.guarded w 0x040000 (fun r _ _ d =>
    let d := d.storeReg w 0x040000 r v
    match d.forme with
    | none => if flag v 0 then hostError 85 else .ok d
    | some f =>
      let d := if flag v 1 then d.stopJob f else d
      if flag v 0 then d.startJob f (flag v 4) else .ok d)

/-! ### The commit line and the boundary -/

/-- The most upstream row begins a line at or after the commit line of a repeat that is not complete: the queue runs
dry (R83). -/
def Dev.passCommitLine (d : Dev) (s : Int) : Dev :=
  if d.job.phase = .running && !d.job.stop && d.job.dryFrom.isNone && decide (d.job.nextB - 256 ≤ s) then
    { d with job := { d.job with dryFrom := some d.job.nextB } }
  else d

/-- The first dry line of each dry stretch: where a repeat that is not there was planned to start (R83). -/
def JobDev.dryStarts (j : JobDev) : List Int :=
  (j.reps.filter (fun r => r.dry ≠ 0)).map (fun r => r.stop - (r.dry : Int)) ++ j.dryFrom.toList

/-- The most upstream row begins the first dry line of a stretch: DRY is set (R83, R87). -/
def Dev.noteDry (d : Dev) (step s : Int) : Dev :=
  if d.job.dryStarts.any (fun b => decide (b ≤ s) && decide (s < b + step)) then { d with job := { d.job with dryFlag := true } } else d

/-- Row `r` has fired line `s`: entries of its plane retire once its most downstream row has fired the last line of
their gutter, and the row has reached the job's end once it has fired the end line (R84, R86). -/
def Dev.rowFired (d : Dev) (f : Forme) (r : Nat) (s : Int) : Dev :=
  let next := s + f.rowStep r
  let d := if f.downstream (f.planeRows (r / 2)) = some r then
      let n := (d.job.reps.filter (fun x => decide (x.stop ≤ next))).length
      let n := if d.job.stop then n else min n (d.job.reps.length - 1)
      let q := d.queue (r / 2)
      d.setQueue (r / 2) { q with done := max q.done n }
    else d
  match d.job.endLine with
  | some e => if e < next && !(d.job.doneRows.contains r) then
      { d with job := { d.job with doneRows := r :: d.job.doneRows } } else d
  | none => d

/-- The most downstream in-use row has fired the end line (R86). -/
def Dev.atBoundary (d : Dev) (f : Forme) : Bool :=
  d.job.phase == .draining &&
    (match f.downstream f.rowsInUse with | some r => d.job.doneRows.contains r | none => true)

/-- The job boundary (R86): STATE IDLE, every entry retired and the counters cleared, P₀ and S undefined; what waited
for a seam takes effect, and held DRAM changes are judged again. -/
def Dev.endJob (d : Dev) (f : Forme) : Dev :=
  let d := d.setPhase .idle
  let d := d.pcBoundary
  let d := (d.applyAll f).dropSwath
  let d := { d with
    job := { d.job with queues := [], reps := [], stop := false, endLine := none, dryFrom := none, doneRows := [],
                        prep := [], first := 0 },
    fir := { d.fir with heads := d.fir.heads.map (fun (x : Nat × HeadFire) => (x.1, { x.2 with lines := [], commit := none, last := none })) } }
  let d := { d with fir := { d.fir with heads := d.fir.heads.filter (fun h => h.2 ≠ HeadFire.zero) } }
  d.dramBoundary

/-! ### Swath fetch (R88 to R90) -/

/-- The repeat and strip a port reads next: its entry, and the image's strip count. -/
def Dev.portImage (d : Dev) (f : Forme) (c : Nat) : Option (Nat × Nat) :=
  let p := d.port c
  match d.job.reps[p.rep]?, (d.queue c).entries[p.rep]? with
  | some _, some e => some (e.image, stripCount (d.imageLines f c e.image))
  | _, _ => none

/-- The image of a port has strips left to read (R89). -/
def Dev.portLeft (d : Dev) (f : Forme) (c : Nat) : Bool :=
  match d.portImage f c with
  | some (img, n) => decide ((d.port c).fetched < d.imageSpan f c img) && decide ((d.port c).strip < n)
  | none => false

/-- Panic is raised below 64 KiB with strips left, and clears at 128 KiB or with none left (R89). -/
def Dev.judgePanic (d : Dev) (f : Forme) (c : Nat) : Dev :=
  let p := d.port c
  let left := d.portLeft f c
  if p.panic then
    if 131072 ≤ p.held || !left then
      let d := d.settlePanic c
      let p := d.port c
      (d.setPort c { p with panic := false, panicTold := false }).panicCleared
    else d
  else if p.held < 65536 && left then
    (d.setPort c { p with panic := true, panicAt := d.now, panicTold := false, panicSince := d.now }).count (128 + 24 * c + 18) 1
  else d

/-- A burst comes back to a port that issues reads while it holds less than 192 KiB of its 256 (R89). An
uncorrectable burst blanks the strip it belongs to (R351). -/
def Dev.fetchReturn (d : Dev) (f : Forme) (c bytes : Nat) (ue : Bool) : Dev :=
  let p := d.port c
  match d.portImage f c with
  | none => d
  | some (img, _) =>
    let n := min bytes (min (262144 - p.held) (d.imageSpan f c img - p.fetched))
    if d.job.phase = .idle || n = 0 || decide (196608 ≤ p.held) || d.dramBusy then d
    else
      let a := d.jobBase f c + img * 64 + p.fetched
      let (_, bad, d) := d.portRead c a n ue
      let p := d.port c
      (d.setPort c { p with held := p.held + n, fetched := p.fetched + n, badBursts := p.badBursts ++ bad }).judgePanic f c

/-- A strip decoded and checked against its RAW_CRC, or blank (R90): its lines join those to be screened. -/
def Dev.decodePort (d : Dev) (f : Forme) (c : Nat) : Dev :=
  let p := d.port c
  match d.portImage f c, f.plane c with
  | some (img, n), some pc =>
    if p.strip < n then
      let wc := f.wc pc
      let base := d.jobBase f c + img * 64
      let off := u32 (d.dramRead (base + 64 + 4 * p.strip) 4) 0 * 64
      let h := d.dramRead (base + off) 16
      let body := d.dramRead (base + off + 16) (u32 h 12)
      let lines := stripLines (d.imageLines f c img) p.strip
      let stop := off + pad64 (16 + u32 h 12)
      if p.fetched < stop then d
      else
        let restart := bit (u8 h 6) 1
        let prev := if restart || p.strip = 0 then List.replicate wc 0 else p.prev
        let window := if restart || p.strip = 0 then freshWindow else p.window
        let out := if bit (u8 h 6) 0 then (if body.length = lines * wc then some (chunks wc body) else none)
          else decodeStrip lines wc prev window body
        let good := match out with
          | some ls => !(p.badBursts.any (fun b => decide (base + off ≤ 64 * b) && decide (64 * b < base + stop))) && (crc32c (ls.flatMap (fun l => l))).toNat == u32 h 8
          | none => false
        let blank := List.replicate lines (List.replicate wc 0)
        let ls := match out with | some ls => if good then ls else blank | none => blank
        let (p', w') := nextHistory (match out with | some ls => ls | none => blank) prev window
        let d := (d.count (128 + 24 * c + 16) 1).count (128 + 24 * c + 17) ((lines * wc + 63) / 64)
        let d := if good then d
          else d.raiseOwner 0 c 0x0015 (0x0510 + c) (BitVec.ofNat 32 img) (BitVec.ofNat 32 p.strip)
        let last := p.strip + 1 = n
        let d := d.setPort c { p with
          strip := if last then 0 else p.strip + 1,
          rep := if last then p.rep + 1 else p.rep,
          held := p.held - (stop - (if p.strip = 0 then 0 else off)),
          fetched := if last then 0 else p.fetched,
          badBursts := if last then [] else p.badBursts, skip := p.skip - ls.length, prev := p', window := w', lines := p.lines ++ ls.drop p.skip }
        d.judgePanic f c
    else d
  | _, _ => d

/-! ### The commands -/

/-- JQ_POST (R82). -/
def execJqPost (t : Nat) (w : Writer) (c : Nat) (v : Word) (s : State) : Res :=
  onUnitE (decide (c < 8)) t (fun d => d.writeJqPost w c v) s
/-- JOB_START (R85): JOB_CTRL is written with START. -/
def execJobStart (t : Nat) (w : Writer) (v : Word) (s : State) : Res := onDevE t (fun d => d.writeJobCtrl w v) s
/-- JOB_STOP (R86): JOB_CTRL is written with STOP. -/
def execJobStop (t : Nat) (w : Writer) (v : Word) (s : State) : Res := onDevE t (fun d => d.writeJobCtrl w v) s
/-- COMMIT_LINE_PASS (R83): the most upstream row begins its next line, and that is the commit line or past it. -/
def execCommitLinePass (t : Nat) (s : State) : Res :=
  onDev t (fun d => match d.forme with | some f => d.passCommitLine (d.upLine f + 1) | none => d) s
/-- FETCH_BURST_RETURN (R89). -/
def execFetchBurstReturn (t c bytes : Nat) (ue : Bool) (s : State) : Res :=
  onUnit (decide (c < 8)) t (fun d => match d.forme with | some f => d.fetchReturn f c bytes ue | none => d) s
/-- STRIP_DECODE (R90). -/
def execStripDecode (t c : Nat) (s : State) : Res :=
  onUnit (decide (c < 8)) t (fun d => match d.forme with | some f => d.decodePort f c | none => d) s

end Sys2Proof.Machine
end

