-- ==== Sys2Proof/Machine/Prepare.lean ====
section
/-!
DEFINITION. Preparing lines: screening a plane's image lines at the pace of its front row (R106, R113), the line a row
prepares (R27, R120, R181, R182, R195), and the device's own patterns (R141 to R146).
-/
namespace Sys2Proof.Machine

/-! ### Patterns (R141 to R146) -/

/-- Offset of a register of pattern slot `n` (R153). -/
def patReg (n o : Nat) : Nat := 0x070400 + 0x20 * n + o
/-- NZ_PAT_STATUS.STATE: 0 IDLE, 1 ARMED, 2 DRAWING, 3 DONE, 4 LATE. -/
def Dev.patState (d : Dev) (n : Nat) : Nat := fld (d.reg (patReg n 0x18)) 0 3
/-- NZ_PAT_CTRL: KIND, ROW, LEVEL, RAWP. -/
def Dev.patKind (d : Dev) (n : Nat) : Nat := fld (d.reg (patReg n 0)) 1 2
def Dev.patRow (d : Dev) (n : Nat) : Nat := fld (d.reg (patReg n 0)) 3 4
def Dev.patLevel (d : Dev) (n : Nat) : Nat := fld (d.reg (patReg n 0)) 7 3
def Dev.patRaw (d : Dev) (n : Nat) : Bool := flag (d.reg (patReg n 0)) 10
/-- The first line of a slot's pattern, resolved against the line its row is preparing (R13). -/
def Dev.patLine (d : Dev) (n : Nat) : Int := resolveLine (d.prep (d.patRow n)) (d.reg (patReg n 4))
/-- Fields of NZ_PAT_SHAPE. -/
def Dev.patDash (d : Dev) (n : Nat) : Nat := fld (d.reg (patReg n 8)) 0 8
def Dev.patGap (d : Dev) (n : Nat) : Nat := fld (d.reg (patReg n 8)) 8 8
def Dev.patStep (d : Dev) (n : Nat) : Nat := fld (d.reg (patReg n 8)) 16 6
/-- Lines of a slot's pattern: a ladder's 2kℓ, or LINES (R143, R144). -/
def Dev.patLines (d : Dev) (n : Nat) : Nat :=
  if d.patKind n = 1 then 2 * d.patStep n * (d.patDash n + d.patGap n) else fld (d.reg (patReg n 8)) 0 16
/-- The columns of a slot. -/
def Dev.patX0 (d : Dev) (n : Nat) : Nat := fld (d.reg (patReg n 0xC)) 0 17
def Dev.patX1 (d : Dev) (n : Nat) : Nat := fld (d.reg (patReg n 0x10)) 0 17

/-- A dry line: of a committed gutter's dry tail, or past the planned start of a repeat that is not there (R83). -/
def JobDev.isDry (j : JobDev) (s : Int) : Bool :=
  j.reps.any (fun r => decide (r.stop - r.dry ≤ s) && decide (s < r.stop))
    || (match j.dryFrom with | some b => decide (b ≤ s) | none => false)

/-- A column of the selvedge (R22). -/
def Geom.selvedge (g : Geom) (x : Int) : Bool :=
  (decide ((g.xImg : Int) - g.selvL ≤ x) && decide (x < g.xImg))
    || (decide ((g.xImg : Int) + g.wImg ≤ x) && decide (x < g.xImg + g.wImg + g.selvR))

/-- The pattern region (R141). -/
def Dev.inRegion (d : Dev) (f : Forme) (x : Int) (s : Int) : Bool :=
  !(d.job.isDry s) && (match d.job.endLine with | some e => decide (s ≤ e) | none => true) &&
    (f.geom.selvedge x || decide (s < 0) || (f.geom.gutterUse && d.job.gutterAt s))

/-- The pattern of a slot reaches a line. -/
def Dev.patOn (d : Dev) (n : Nat) (s : Int) : Bool :=
  let st := d.patState n
  (st == 1 || st == 2) && d.patKind n != 0 && decide (d.patLine n ≤ s) && decide (s < d.patLine n + d.patLines n)

/-- The plane screens in BYPASS: PRESCREENED codes pass through (R110). -/
def Dev.bypass (d : Dev) (p : PlaneCfg) : Bool := p.input == 3 || (d.plane p.c).mode p.c == 3

/-- A row's lines use the fallback map: the rungs are those the row has applied (R27, R98). -/
def Dev.rowFb (d : Dev) (p : PlaneCfg) (r : Nat) : Bool := usesFallback p (d.rowFire r).rungs

/-- The code of a drop level, or on a BYPASS plane the code itself (R145). -/
def Dev.patCode (d : Dev) (p : PlaneCfg) (r lvl : Nat) : Nat :=
  if d.bypass p then lvl else levelCode (d.dropMap p) (d.rowFb p r) lvl

/-- The position of a head in its row, counted in placement order (R143). -/
def Forme.headPos (f : Forme) (h : HeadCfg) : Nat :=
  ((sortBy (fun x => (x.place : Int)) (f.rowHeads h.row)).findIdx? (fun x => x.slot == h.slot)).getD 0

/-- What a ladder fires at nozzle `i` of a head (R143): the level of the slot, where all its conditions hold. -/
def Dev.reedAt (d : Dev) (f : Forme) (p : PlaneCfg) (n : Nat) (h : HeadCfg) (i : Nat) (x s : Int) : Option Nat :=
  let k := d.patStep n
  let l := d.patDash n + d.patGap n
  let q := (s - d.patLine n).toNat
  let e := f.headPos h % 2
  if d.patRow n = h.row && decide (0 < k) && decide (0 < l) && decide (q % l < d.patDash n) && q / l == e * k + i % k
      && decide ((d.patX0 n : Int) ≤ x) && decide (x ≤ d.patX1 n) then some (d.patCode p h.row (d.patLevel n))
  else none

/-- The threshold of a patch (R144): the bit-interleaved order of column and line. -/
def patchThreshold (x : Nat) (s : Int) : Nat :=
  let a := x % 16
  let b := (s % 16).toNat
  let c := a ^^^ b
  let m := ((List.range 4).map (fun k => b2n (bit c k) * 2 ^ (7 - 2 * k) + b2n (bit b k) * 2 ^ (6 - 2 * k))).sum
  16 * m + 8

/-- The codes a PATCH or MARK puts on its columns, by nozzle index; a nozzle it covers and does not fire has code 0
(R144, R145). -/
def Dev.patchCodes (d : Dev) (f : Forme) (p : PlaneCfg) (r n : Nat) (s : Int) : List (Nat × Nat) :=
  let xs := ((List.range (d.patX1 n + 1 - d.patX0 n)).map (· + d.patX0 n)).filter (d.planeServes f p s)
  let dens := fld (d.reg (patReg n 0x14)) 0 12
  let mark := d.patKind n == 3 || d.bypass p
  let cols := xs.map (fun x => d.mkCol f p s s x (fun v =>
    if mark || d.patRaw n then dens else nozzleDensity (16 * dens) v.word))
  let cols := if mark || d.patRaw n then cols.map (fun c => if c.dead then { c with t := 0 } else c)
    else addReceived (moveAll (fun _ => false) [] cols).1 cols
  let l := d.dropMap p
  let fb := d.rowFb p r
  cols.flatMap (fun c =>
    let code := if c.dead then 0 else if mark then d.patCode p r (d.patLevel n)
      else levelCode l fb (thresholdLevel l c.t (patchThreshold c.x s))
    (d.firingNozzles f p s s c.x).map (fun v =>
      (v.slot * 4096 + v.noz,
        match c.sv with | some w => if w.slot = v.slot && w.noz = v.noz then code else 0 | none => 0)))

/-- What the lowest-numbered slot that covers nozzle `i` of a head gives it on a line, if any does (R142). -/
def Dev.patAt (d : Dev) (f : Forme) (p : PlaneCfg) (patches : List (Nat × List (Nat × Nat))) (h : HeadCfg) (s : Int)
    (i : Nat) : Option Nat :=
  let x := h.colOf (d.xtrimAt h.row h.slot s) i
  if d.inRegion f x s then
    (List.range 32).findSome? (fun n =>
      if d.patOn n s then
        if d.patKind n = 1 then d.reedAt f p n h i x s
        else
          match patches.find? (fun q => q.1 == n) with
          | some q => (q.2.find? (fun y => y.1 == h.slot * 4096 + i)).map (·.2)
          | none => none
      else none)
  else none

/-- The codes of a head's nozzles on a line: those of screening, replaced by those of patterns (R120 step 6, R142). -/
def Dev.headCodes (d : Dev) (f : Forme) (p : PlaneCfg) (h : HeadCfg) (s : Int) (codes : List (Nat × Nat)) : List Nat :=
  let slots := (List.range 32).filter (fun n => d.patOn n s && d.patKind n != 1 && d.patRow n / 2 == p.c)
  let patches := slots.map (fun n => (n, d.patchCodes f p h.row n s))
  (List.range h.nozzles).map (fun i =>
    match d.patAt f p patches h s i with
    | some c => c
    | none => match codes.find? (fun x => x.1 == h.slot * 4096 + i) with | some x => x.2 | none => 0)

/-- The rows a slot's pattern is drawn by (R146). -/
def Dev.patRows (d : Dev) (f : Forme) (n : Nat) : List Nat :=
  if d.patKind n = 1 then [d.patRow n] else f.planeRows (d.patRow n / 2)

/-- A slot's STATE with VALID and SEQ when its result is there (R146). -/
def Dev.patDone (d : Dev) (n st : Nat) : Dev :=
  let old := d.reg (patReg n 0x18)
  d.setReg (patReg n 0x18) (windowNext old (setFld old 0 3 st))

/-- Slots go DRAWING when their first line is prepared and DONE once their last has been by every row (R146). -/
def Dev.patProgress (d : Dev) (f : Forme) : Dev :=
  (List.range 32).foldl (fun d n =>
    let st := d.patState n
    if (st = 1 || st = 2) && d.patKind n ≠ 0 then
      let rows := d.patRows f n
      let last := d.patLine n + d.patLines n - 1
      if rows.all (fun r => decide (last < d.prep r + f.rowStep r)) then d.patDone n 3
      else if rows.any (fun r => decide (d.patLine n ≤ d.prep r)) then d.setRegFld (patReg n 0x18) 0 3 2 else d
    else d) d

/-- The values a slot is armed with are in range: a ladder's STEP and DASH, LINES of the other kinds, and X1 not below X0
(R143, R144, R153; log entry 77). -/
def Dev.patLegal (d : Dev) (n kind : Nat) : Bool :=
  kind == 0 || decide (d.patX0 n ≤ d.patX1 n)
    && (if kind = 1 then decide (2 ≤ d.patStep n) && decide (1 ≤ d.patDash n) else decide (1 ≤ fld (d.reg (patReg n 8)) 0 16))

/-- A write of a pattern slot's registers: a host error while it is ARMED or DRAWING; ARM arms it, or ends LATE where
its line has been prepared (R146). -/
def Dev.writePattern (d : Dev) (w : Writer) (off : Nat) (v : Word) : Eff :=
  d.guarded w off (fun r n _ d =>
    if d.patState n = 1 || d.patState n = 2 then hostError 146
    else if off = patReg n 0 && flag v 0 && !(d.patLegal n (fld v 1 2)) then hostError 153
    else
      let d := d.storeReg w off r v
      if off = patReg n 0 && flag v 0 then
        let old := d.reg (patReg n 0x18)
        let d := d.setReg (patReg n 0x18) (setFld (windowBusy old old) 0 3 1)
        match d.forme with
        | some f =>
          if d.printing && (d.patRows f n).any (fun q => decide (d.patLine n ≤ d.prep q)) then .ok (d.patDone n 4)
          else .ok d
        | none => .ok d
      else .ok d)

/-! ### Screening a plane's lines -/

/-- The next image line a plane screens, if its repeat has committed (R91, R103). -/
def Dev.screenNext (d : Dev) (c : Nat) : Option Int :=
  let s := (d.plane c).next
  let s := if (d.job.imageAt s).isSome then s else d.job.nextImage (s - 1)
  if (d.job.imageAt s).isSome then some s else none

/-- The front row has begun the line that paces screening line `s` (R88). -/
def Dev.paced (d : Dev) (p : PlaneCfg) (s : Int) : Bool :=
  decide (s ≤ d.prep (2 * p.c) + (if p.rowMode = 2 && s % 2 ≠ 0 then 1 else 0))

/-- The image line of the decompressor that line `s` of a repeat comes from is at hand: the plane with it taken up. -/
def Dev.takeImage (d : Dev) (f : Forme) (p : PlaneCfg) (s : Int) : Option Dev :=
  match d.job.imageAt s with
  | none => none
  | some (k, r) =>
    let i := ((s - r.b) / (f.fy p : Int)).toNat
    let pl := d.plane p.c
    if pl.curLine = some (k, i) then some d
    else
      match (d.port p.c).lines with
      | [] => none
      | l :: rest =>
        some ((d.setPort p.c { d.port p.c with lines := rest }).setPlane p.c { pl with cur := l, curLine := some (k, i) })

/-- Pixels of the line after `s` in the same repeat, which the code partner rule looks at (R135); none where they are
not at hand yet. -/
def Dev.nextPixels (d : Dev) (f : Forme) (p : PlaneCfg) (s : Int) : Option (List Nat) :=
  match d.job.imageAt s, d.job.imageAt (s + 1) with
  | some (k, r), some (k', _) =>
    if k = k' then
      let i := ((s + 1 - r.b) / (f.fy p : Int)).toNat
      if (d.plane p.c).curLine = some (k, i) then some (pixels p (d.plane p.c).cur)
      else (d.port p.c).lines.head?.map (pixels p)
    else some []
  | _, _ => some []

/-- The codes screening gave a line put into the lead buffers of the front row's heads, with patterns (R120 step 6). -/
def Dev.fillFront (d : Dev) (f : Forme) (p : PlaneCfg) (s : Int) (codes : List (Nat × Nat)) : Dev :=
  (f.rowHeads (2 * p.c)).foldl (fun d h =>
    let x := d.headFire h.slot
    if x.lines.any (fun l => l.s == s && l.codes.isNone) then
      let cs := d.headCodes f p h s codes
      d.setHeadFire h.slot { x with lines := x.lines.map (fun l => if l.s = s then { l with codes := some cs } else l) }
    else d) d

/-- The effect of an uncorrectable SRAM error met in preparing or screening (R469). -/
def Dev.prepareError (d : Dev) (f : Forme) (c : Nat) : Option SramError → Dev
  | none => d
  | some (.leadBuffer h) =>
    let x := d.headFire h
    let n := x.lines.length
    let d := d.setHeadFire h { x with lines := (x.lines.zip (List.range n)).map (fun (l, i) =>
      if i + 1 = n then { l with ue := true } else l) }
    d.sramError 1 h
  | some (.nozzle i) =>
    let w := match f.head (i / 4096) with
      | some h => (match (f.blankRecs h).find? (fun rc => rc.1 % 0x200000 == i) with | some rc => rc.2 | none => blankWord)
      | none => blankWord
    let d : Dev := { d with nz := { d.nz with table := Sparse.set nzDefault d.nz.table i w } }
    d.sramError 2 i
  | some (.errorRow second u) =>
    let pl := d.plane c
    let d := d.setPlane c (if second then { pl with p2 := pl.p2.set u 0 } else { pl with p1 := pl.p1.set u 0 })
    d.sramError 3 u
  | some (.matrix e) =>
    let d : Dev := { d with scr := { d.scr with matrix := Sparse.set matrixDefault d.scr.matrix e 2048 } }
    d.sramError 4 e

/-- A plane's next image line compensated, screened and handed on (R106, R113, R120). A line of a plane in BYPASS is not
screened, so it counts in no screening counter (log entry 59). -/
def Dev.screenLine (d : Dev) (f : Forme) (p : PlaneCfg) (s : Int) (ue : Option SramError) : Option Dev :=
  match d.takeImage f p s, (d.takeImage f p s).bind (fun d => d.nextPixels f p s) with
  | some d, some nxt =>
    let (d, after) := match ue with
      | some (.nozzle _) => (d, ue)
      | some (.leadBuffer _) => (d, ue)
      | e => (d.prepareError f p.c e, none)
    let d := d.planeSeams f p s
    let px := pixels p (d.plane p.c).cur
    let (cols, next, drops) := if p.input = 3 then d.compCodes f p s px nxt else d.compLine f p s px
    let r := d.screenCols f p s cols
    let codes := nozzleCodes (d.dropMap p) (d.bypass p) (usesFallback p (d.plane p.c).rungs) cols r.levels
    let pl := d.plane p.c
    let front := fun (x : Nat × Nat) => f.rowOf (x.1 / 4096) == 2 * p.c
    let back := codes.filter (fun x => !(front x))
    let ring := if p.rowMode = 1 || (p.rowMode = 2 && s % 2 ≠ 0) then pl.ring ++ [(s, back)] else pl.ring
    let d := d.setPlane p.c { pl with
      p1 := r.p1, p2 := r.p2, next := s + 1, carry := next, carryLine := s + 1, ring := ring,
      clip := pl.clip + BitVec.ofNat 32 r.clip, esat := pl.esat + BitVec.ofNat 32 r.esat,
      edrop := pl.edrop + BitVec.ofNat 32 r.edrop, lines := pl.lines + (if d.bypass p then 0 else 1) }
    let d := (d.bumpBy (0x070040 + 4 * p.c) drops).count (128 + 24 * p.c + 20) (if d.bypass p then 0 else 1)
    let d := d.fillFront f p s (codes.filter front)
    some (d.prepareError f p.c after)
  | _, _ => none

/-- PLANE_LINE_SCREEN (R106): the plane screens its next image line, when its front row has begun it and the
decompressor has its data. -/
def Dev.planeScreen (d : Dev) (f : Forme) (c : Nat) (ue : Option SramError) : Dev :=
  match f.plane c, d.screenNext c with
  | some p, some s => if d.printing && d.printPath && d.paced p s then (d.screenLine f p s ue).getD d else d
  | _, _ => d

/-! ### Preparing a row's line -/

/-- A correction moved one line towards its target by at most SLEW (R182). -/
def slewTo (slew : Int) (x tgt : Int) : Int := x + clampInt (-slew) slew (tgt - x)

/-- FIR_CFG.SLEW and FIRE_TOL (R205). -/
def Dev.slew (d : Dev) : Int := fld (d.reg 0x090000) 0 5
def Dev.fireTol (d : Dev) : Int := fld (d.reg 0x090000) 8 8

/-- Every correction of a row moved on by one line, with the targets in force (R182). -/
def Dev.slewRow (d : Dev) (f : Forme) (r : Nat) : Dev :=
  let x := d.rowFire r
  let d := d.setRowFire r { x with c := slewTo d.slew x.c (x.tgt + x.anchor) }
  (f.rowHeads r).foldl (fun d h =>
    let y := d.headFire h.slot
    d.setHeadFire h.slot { y with e := slewTo d.slew y.e y.tgt }) d

/-- The fire position of a head for a line (R181). -/
def Dev.firePos (d : Dev) (f : Forme) (h : HeadCfg) (s : Int) : Int :=
  d.job.p0 + 64 * s + f.dR h.row + h.dH + (d.rowFire h.row).c + (d.headFire h.slot).e

/-- The bits of a head's codes in force: 2 on the drop-bit rung (R98). -/
def Dev.headBits (d : Dev) (f : Forme) (h : HeadCfg) : Nat :=
  match f.plane (h.row / 2) with | some p => d.codeBits p | none => 1

/-- The lead buffer depth of a link (R194). -/
def Dev.linkDepth (d : Dev) (f : Forme) (k : Nat) : Nat := f.depth k (d.headBits f)

/-- A row may begin its next line: a job runs, the line is not past its end, no head's lead buffer is full, the
plane's image lines before it are screened, and a back row's codes have come through the ring (R92, R195). -/
def Dev.mayPrepare (d : Dev) (f : Forme) (r : Nat) (s : Int) : Bool :=
  d.printing && d.printPath && f.rowsInUse.contains r
    && (match d.job.endLine with | some e => decide (s ≤ e) | none => true)
    && (f.rowHeads r).all (fun h => decide ((d.headFire h.slot).lines.length + b2n (d.headFire h.slot).commit.isSome < d.linkDepth f h.link))
    && (if r % 2 = 0 then
          (match d.screenNext (r / 2) with | some x => decide (s ≤ x) | none => true)
        else
          (match d.job.imageAt s with
           | some _ => ((d.plane (r / 2)).ring).any (fun x => x.1 == s)
           | none => decide (s ≤ d.prep (r - 1) + 1)))

/-- The next line of a row (R20, R27). -/
def Dev.nextLine (d : Dev) (f : Forme) (r : Nat) : Int := f.rowLine r (d.prep r + 1)

/-- The line a row prepares next is begun (R27, R83, R120, R181, R182): seams applied, corrections moved, each head's
line in its lead buffer, from the head's first line on. -/
def Dev.prepareLine (d : Dev) (f : Forme) (r : Nat) (s : Int) (ue : Option SramError) : Dev :=
  let d := if s = d.prep r + 2 then d.slewRow f r else d
  let d := d.setPrep r s
  let d := if f.upstream f.rowsInUse = some r then (d.passCommitLine s).noteDry (f.rowStep r) s else d
  let c := r / 2
  let n0 := (d.pendingFor r s).length
  let d := if r % 2 = 0 then d.count (128 + 24 * c + 22) n0 else d
  let d := ((d.applySeams f r s).bindNow f).slewRow f r
  let d := if r % 2 = 0 && d.job.isDry s then d.count (128 + 24 * c + 21) 1 else d
  match f.plane c with
  | none => d
  | some p =>
    let image := (d.job.imageAt s).isSome
    let d := if !image && r % 2 = 0 then d.planeSeams f p s else d
    let ring := ((d.plane c).ring.find? (fun x => x.1 == s)).map (·.2)
    let d := (f.rowHeads r).foldl (fun d h =>
      let x := d.headFire h.slot
      let codes := if image then
          (if r % 2 = 0 then none else some (d.headCodes f p h s (ring.getD [])))
        else some (d.headCodes f p h s [])
      let l : PrepLine := { s := s, f := d.firePos f h s, codes := codes, fb := d.rowFb p r, sent := false, ue := false }
      if s ≤ x.done then d else d.setHeadFire h.slot { x with lines := x.lines ++ [l] }) d
    let d := if r % 2 = 1 then
        d.setPlane c { d.plane c with ring := (d.plane c).ring.filter (fun x => decide (s < x.1)) } else d
    let d := d.prepareError f c ue
    let d := d.patProgress f
    if f.upstream f.rowsInUse = some r then d.checkDrain f else d

/-- LINE_PREPARE (R120): a row begins its next line. -/
def execLinePrepare (t row : Nat) (ue : Option SramError) (s : State) : Res :=
  onUnit (decide (row < 16)) t (fun d =>
    match d.forme with
    | some f => if d.mayPrepare f row (d.nextLine f row) then d.prepareLine f row (d.nextLine f row) ue else d
    | none => d) s

/-- PLANE_LINE_SCREEN (R106). -/
def execPlaneLineScreen (t c : Nat) (ue : Option SramError) (s : State) : Res :=
  onUnit (decide (c < 8)) t (fun d => match d.forme with | some f => d.planeScreen f c ue | none => d) s

/-- SEAM_APPLY (R27): a row that has reached a seam line applies every update bound to it. -/
def execSeamApply (t row : Nat) (s : State) : Res :=
  onUnit (decide (row < 16)) t (fun d =>
    match d.forme with
    | some f => if d.mayPrepare f row (d.nextLine f row) then (d.applySeams f row (d.nextLine f row)).bindNow f else d
    | none => d) s

/-- NZ_PAT_ARM (R146): NZ_PAT_CTRL is written with ARM. -/
def execNzPatArm (t : Nat) (w : Writer) (slot : Nat) (v : Word) (s : State) : Res :=
  onUnitE (decide (slot < 32)) t (fun d => d.writePattern w (patReg slot 0) v) s

end Sys2Proof.Machine
end

