-- ==== Sys2Proof/Machine/Enc.lean ====
section
/-!
DEFINITION. The web encoders (R154 to R176) and the position they drive (R15, R177 to R180, R184, R190).
-/
namespace Sys2Proof.Machine

/-- ENC_CFG fields (R176). -/
def Dev.encInv (d : Dev) (n : Nat) : Bool := flag (d.reg 0x080000) n
def Dev.encFallback (d : Dev) : Bool := flag (d.reg 0x080000) 2
def Dev.encWindow (d : Dev) : Nat := fld (d.reg 0x080000) 6 10

/-- ENC1 is in use (R169). -/
def Dev.enc1Use (d : Dev) : Bool := match d.forme with | some f => f.sys.enc1Use | none => false

def Dev.encSide (d : Dev) (n : Nat) : EncSide := if n = 0 then d.enc.e0 else d.enc.e1
def Dev.setEncSide (d : Dev) (n : Nat) (e : EncSide) : Dev :=
  { d with enc := if n = 0 then { d.enc with e0 := e } else { d.enc with e1 := e } }

/-- An encoder's A or B pair is in disagree (R159). -/
def EncSide.abBad (e : EncSide) : Bool := e.disA.isSome || e.disB.isSome

/-- The place of a level pair in the forward sequence BA = 00, 01, 11, 10 (R156). -/
def quadPlace (a b : Bool) : Nat := match b, a with
  | false, false => 0
  | false, true => 1
  | true, true => 2
  | true, false => 3

/-- The level pair at a place of that sequence. -/
def quadLevels (i : Nat) : Bool × Bool := match i % 4 with
  | 0 => (false, false)
  | 1 => (true, false)
  | 2 => (true, true)
  | _ => (false, true)

/-! ### Predictions and the position -/

/-- The prediction refresh of the firing timer (R190). -/
def Dev.refresh (d : Dev) : Dev :=
  { d with fir := { d.fir with refT := d.now, refPos := d.posNow, refR := d.webRate } }

/-- Stretch gains whose position P has reached come into force, in order (R184). -/
def Dev.takeGains (d : Dev) (f : Forme) : Dev :=
  let du : Int := match f.upstream f.rowsInUse with | some r => f.dR r | none => 0
  let due := fun (g : SeamRef × Nat) => match d.job.seamLine g.1 with
    | some s => decide (d.job.p0 + 64 * s + du ≤ d.p)
    | none => false
  let d' := (d.fir.gains.filter due).foldl (fun d g => (d.setGain g.2).setReg 0x090008 (BitVec.ofNat 32 g.2)) d
  { d' with fir := { d'.fir with gains := d.fir.gains.filter (fun g => !(due g)) } }

/-- The anchor term at the datum follows A over `n` more lines, taking each seam as its line stands there (R182,
R199). -/
def Dev.anchorSteps : Nat → Dev → Dev
  | 0, d => d
  | n + 1, d =>
    let s := d.fir.anchorLine + 1
    let due := fun (a : SeamRef × Int) => match d.job.seamLine a.1 with | some x => decide (x ≤ s) | none => false
    let tgt := d.fir.anchorTgt + ((d.fir.anchors.filter due).map (·.2)).sum
    let rest := d.fir.anchors.filter (fun a => !(due a))
    Dev.anchorSteps n { d with fir := { d.fir with
      anchorLine := s, anchorTgt := tgt, anchors := rest, anchorNow := slewTo d.slew d.fir.anchorNow tgt } }

/-- The web moves again once P has passed P_s + 64; the stop-detect time runs from the last advance of 64 fu (R15). -/
def Dev.noteMotion (d : Dev) : Dev :=
  let p := d.p
  if d.fir.stopped then
    if d.fir.ps + 64 ≤ p then
      let d := d.graceCount
      { d with fir := { d.fir with stopped := false, advP := p, advT := d.now } }
    else d
  else if d.fir.advP + 64 ≤ p then { d with fir := { d.fir with advP := p, advT := d.now } }
  else d

/-- EV_INDEX_SLIP (R165, R166). -/
def Dev.indexSlip (d : Dev) (kind : Nat) (delta : Int) : Dev :=
  (d.bump 0x080064).raiseAll 0x000E 0x0800 (BitVec.ofNat 32 kind) (low32 delta)

/-- Index checking is on: a period is set, Z is sound, and fallback does not drive K_0 (R164, R165). -/
def Dev.indexOn (d : Dev) (f : Forme) : Bool :=
  f.sys.indexPeriod != 0 && d.enc.e0.disZ.isNone && !d.enc.fallback

/-- K_0 moving forward past K_b + p + INDEX_TOL with no index (R166). -/
def Dev.indexMissing (d : Dev) (f : Forme) : Dev :=
  if d.enc.armed && d.indexOn f && decide (d.enc.kb + f.sys.indexPeriod + f.sys.indexTol < d.enc.e0.k) then
    let d : Dev := { d with enc := { d.enc with kb := d.enc.kb + f.sys.indexPeriod } }
    d.indexSlip 2 0
  else d

/-- ENC1's interpolated count in 1/65,536 (R163, R170). -/
def Dev.k1Fine (d : Dev) : Int := d.enc.e1.k * 65536 + d.enc.e1.phiSigned d.now

/-- A stretch span in progress is discarded (R171). -/
def Dev.spoilSpan (d : Dev) : Dev := { d with enc := { d.enc with span := none } }

/-- The stretch span at a forward count of K_0: one that ends posts its ratio, and the next starts at a multiple of the
span length unless a cause of R171 stands (R170, R171). -/
def Dev.spanStep (d : Dev) : Dev :=
  let k := d.enc.e0.k
  let d := match d.enc.span with
    | some s =>
      if k = s.k0 + 2 ^ s.log2 then
        let d' : Dev := { d with enc := { d.enc with span := none } }
        let q := (d.k1Fine - s.k1) * 16777216 / (2 ^ s.log2 * 65536)
        (d'.setReg 0x08007C (low32 q)).setReg 0x080078 (windowNext (d.reg 0x080078) 0)
      else d
    | none => d
  let log2 := fld (d.reg 0x080070) 0 5
  let bad := d.enc.e0.abBad || d.enc.e1.abBad || d.enc.fallback || d.enc.e1.speed == 0
  if d.enc1Use && d.enc.span.isNone && k % (2 ^ log2) = 0 && !bad then
    { d with enc := { d.enc with span := some { k0 := k, k1 := d.k1Fine, log2 := log2 } } }
  else d

/-- K_0 moves by one count, and the position with it (R156, R160, R168, R177, R180). -/
def Dev.moveK0 (d : Dev) (sign : Int) : Dev :=
  let k := d.enc.e0.k + sign
  let d := { d with
    enc := { d.enc with e0 := { d.enc.e0 with k := k }, kmax := max d.enc.kmax k },
    fir := { d.fir with pos := d.fir.pos + sign * (d.inc : Int) } }
  match d.forme with
  | none => d
  | some f => if 0 < sign then ((if d.fir.stopped then d.wakeIdle else d).indexMissing f).spanStep else d.spoilSpan

/-- Everything that follows a change of K_0 (R15, R180, R184, R190, R199). -/
def Dev.afterCount (d : Dev) : Dev :=
  let d := d.touchMax
  let d := match d.forme with | some f => d.takeGains f | none => d
  let d := if d.printing then Dev.anchorSteps (d.lineAt d.p - d.fir.anchorLine).toNat d else d
  d.noteMotion.refresh

/-- Several counts of K_0 in one direction. -/
def Dev.moveK0s (sign : Int) : Nat → Dev → Dev
  | 0, d => d
  | n + 1, d => Dev.moveK0s sign n (d.moveK0 sign)

/-- An ENC1 count while fallback drives K_0: 1 / Q of a count, with its 16-bit fraction carried (R160). -/
def Dev.fallbackCount (d : Dev) (sign : Int) : Dev :=
  let step : Int := if d.ratio = 0 then 0 else 65536 * 16777216 / (d.ratio : Int)
  let x := (d.enc.fbFrac : Int) + sign * step
  let n := x / 65536
  let d := Dev.moveK0s (if n < 0 then -1 else 1) n.natAbs d
  let d : Dev := { d with enc := { d.enc with fbFrac := (x % 65536).toNat } }
  d.afterCount

/-! ### Counting -/

/-- The regenerator takes a count of its source: each ENCO_DIV counts gathered in one direction step the output
(R173). -/
def Dev.encoCount (d : Dev) (sign : Int) : Dev :=
  let g := d.enc.encoGather + sign
  if (d.enc.encoDiv : Int) ≤ g.natAbs then
    let i := quadPlace d.enc.encoA d.enc.encoB
    let (a, b) := quadLevels (if 0 < g then i + 1 else i + 3)
    let old := d.enc
    let d : Dev := { d with enc := { d.enc with encoA := a, encoB := b, encoGather := 0 } }
    let d := if a ≠ old.encoA then d.emit (.pin 4 0 a) else d
    if b ≠ old.encoB then d.emit (.pin 4 1 b) else d
  else { d with enc := { d.enc with encoGather := g } }

/-- A count in an encoder's window, stamps and direction (R161, R162). -/
def EncSide.stamp (e : EncSide) (now : Nat) (sign : Int) : EncSide :=
  { e with
    prevT := e.lastT, lastT := now, prevSign := e.lastSign, lastSign := sign, quiet := 0,
    winFirst := if e.winN = 0 then now else e.winFirst,
    winSign := if e.winN = 0 then sign else e.winSign,
    winMixed := if e.winN = 0 then false else e.winMixed || e.winSign != sign,
    winN := e.winN + 1 }

/-- A filtered A or B level of encoder `n` changes (R156, R159, R160, R169). -/
def Dev.encCount (d : Dev) (n : Nat) (a b : Bool) : Dev :=
  let e := d.encSide n
  let move := (quadPlace a b + 4 - quadPlace e.a e.b) % 4
  let d := d.touchMax
  let d := d.setEncSide n { e with a := a, b := b }
  if move = 0 || e.abBad then d
  else if n = 1 && !d.enc1Use then
    if move = 2 || d.enc.encoSrc ≠ 1 then d else d.encoCount (if (move = 1) = d.encInv 1 then -1 else 1)
  else if move = 2 then d.bump (0x080058 + 4 * n)
  else
    let fwd : Int := if move = 1 then 1 else -1
    let sign := if d.encInv n then -fwd else fwd
    let d := d.setEncSide n ((d.encSide n).stamp d.now sign)
    let d := if d.enc.encoSrc = n then d.encoCount sign else d
    if n = 0 then (d.moveK0 sign).afterCount
    else
      let d := d.setEncSide 1 { d.enc.e1 with k := d.enc.e1.k + sign }
      let d := if sign < 0 then d.spoilSpan else d
      if d.enc.fallback then d.fallbackCount sign else d

/-- A level change while the internal reset is asserted (R175): only the regenerator counts. -/
def Dev.encCountReset (d : Dev) (n : Nat) (a b : Bool) : Dev :=
  let e := d.encSide n
  let move := (quadPlace a b + 4 - quadPlace e.a e.b) % 4
  let d := d.setEncSide n { e with a := a, b := b }
  if move = 0 || move = 2 || e.abBad || d.enc.encoSrc ≠ n then d
  else d.encoCount (if (move = 1) = d.encInv n then -1 else 1)

/-- A rising Z edge of ENC0 (R164, R165, R167): ignored unless the last count was forward. -/
def Dev.indexPulse (d : Dev) : Dev :=
  let d : Dev := { d with enc := { d.enc with e0 := { d.enc.e0 with z := true } } }
  let d := if d.enc.encoSrc = 0 then d.emit (.pin 4 2 true) else d
  match d.forme with
  | none => d
  | some f =>
    if d.enc.e0.lastSign ≤ 0 || !(d.indexOn f) then d
    else
      let kz := d.enc.e0.k
      let done : Dev := { d with enc := { d.enc with kb := kz, armed := true } }
      if !d.enc.armed then done
      else
        let p : Int := f.sys.indexPeriod
        let delta := (kz - d.enc.kb + p / 2) % p - p / 2
        let d := done.setReg 0x080060 (low32 delta)
        if delta.natAbs ≤ f.sys.indexTol then d
        else
          let d := d.indexSlip 1 delta
          if f.geom.reanchor && d.printing then
            let amount := roundDiv (delta * (d.inc : Int)) 4294967296
            let u : Update := { block := 0x09, tag := 0, by_ := 0xFF, seam := none,
                                payload := .reg [(0x00004000, low32 amount)], rows := f.rowsInUse, applied := [],
                                planes := [], planesDone := [] }
            (d.stage f u u.rows none).mirrorUpdate u
          else d

/-! ### Wire disagree (R158 to R160) -/

/-- The pair code of EV_WIRE_FAULT. -/
def pairCode : EncPair → Nat
  | .a => 0
  | .b => 1
  | .z => 2

/-- Since when a pair is in disagree. -/
def EncSide.dis (e : EncSide) : EncPair → Option Nat
  | .a => e.disA
  | .b => e.disB
  | .z => e.disZ
def EncSide.setDis (e : EncSide) (p : EncPair) (x : Option Nat) : EncSide :=
  match p with
  | .a => { e with disA := x }
  | .b => { e with disB := x }
  | .z => { e with disZ := x }

/-- EV_WIRE_FAULT; a disagree of an ENC1 that is not in use raises none (R169). -/
def Dev.wireFault (d : Dev) (n : Nat) (w6 w7 : Nat) : Dev :=
  if n = 1 && !d.enc1Use then d
  else d.raiseAll 0x000F (0x0800 + n) (BitVec.ofNat 32 w6) (BitVec.ofNat 32 (min w7 0xFFFFFFFF))

/-- What drives K_0 after a pair has changed (R160): counting on ENC0, fallback from a sound ENC1 with a ratio, or
nothing. Entering a disagree carries the fraction then read; leaving fallback clears ARMED (R165). -/
def Dev.driveK0 (d : Dev) (phi : Int) : Dev :=
  let bad := d.enc.e0.abBad
  let fb := bad && d.encFallback && d.enc1Use && !d.enc.e1.abBad && d.ratio != 0
  let was := d.enc.fallback
  let d : Dev := { d with enc := { d.enc with
    fallback := fb, armed := if was && !fb then false else d.enc.armed,
    fbFrac := (max phi 0).toNat } }
  if bad || d.enc.e1.abBad then d.spoilSpan else d

/-- A pair enters disagree (R158). -/
def Dev.disEnter (d : Dev) (n : Nat) (p : EncPair) : Dev :=
  let e := d.encSide n
  if (e.dis p).isSome then d
  else
    let phi := d.enc.frac0 d.now
    let d := d.setEncSide n (e.setDis p (some d.now))
    (d.wireFault n (pairCode p * 256) 0).driveK0 phi

/-- A pair leaves disagree (R158). -/
def Dev.disExit (d : Dev) (n : Nat) (p : EncPair) : Dev :=
  let e := d.encSide n
  match e.dis p with
  | none => d
  | some t0 =>
    let phi := d.enc.frac0 d.now
    let d := d.setEncSide n (e.setDis p none)
    (d.wireFault n (pairCode p * 256 + 1) ((d.now - t0) / 1000000)).driveK0 phi

/-! ### Speed (R161, R162) -/

/-- The speed at a window's end. -/
def EncSide.speedAt (e : EncSide) (now quiet : Nat) : Int :=
  if 2 ≤ e.winN && !e.winMixed then
    e.winSign * ((16 * (e.winN - 1) * 625000000 / (e.lastT / samplePs - e.winFirst / samplePs) : Nat) : Int)
  else if 256 ≤ quiet then 0
  else if e.lastSign = e.prevSign && e.lastSign ≠ 0 then
    let t := max (e.lastT / samplePs - e.prevT / samplePs) (now / samplePs - e.lastT / samplePs)
    e.lastSign * ((16 * 625000000 / t : Nat) : Int)
  else 0

/-- A speed window ends: the estimate is taken and the next window begins with the length then set (R161, R162). -/
def Dev.windowEnd (d : Dev) (n : Nat) : Dev :=
  let e := d.encSide n
  if d.now < e.winStart + e.winLen * 10000000 then d
  else
    let d := d.touchMax
    let quiet := if e.winN = 0 then e.quiet + 1 else 0
    let v := if n = 1 && !d.enc1Use then 0 else e.speedAt d.now quiet
    let d := d.setEncSide n { e with speed := v, quiet := quiet, winStart := d.now, winLen := d.encWindow, winN := 0,
                                     winFirst := d.now, winSign := 0, winMixed := false }
    let d := if n = 1 && v = 0 then d.spoilSpan else d
    d.refresh

/-- The web is found stopped: P has not advanced by 64 fu within the stop-detect time (R15). -/
def Dev.webStop (d : Dev) : Dev :=
  let ms := match d.forme with | some f => f.geom.stopMs | none => 50
  if d.fir.stopped || decide (d.now < d.fir.advT + ms * 1000000000) then d
  else
    let d := d.touchMax.graceCount
    { d with fir := { d.fir with stopped := true, ps := d.fir.pmax } }

/-! ### Snapshot and load -/

/-- A snapshot status word after a TAKE (R4). -/
def Dev.snapNext (d : Dev) (h off : Nat) : Dev := d.setRegOf h off (windowNext (d.regOf h off) 0)

/-- ENC_SNAP_CTRL.TAKE fills the context's snapshot from one sample (R176). -/
def Dev.encSnap (d : Dev) (h : Nat) : Dev :=
  let e0 := d.enc.e0
  let e1 := d.enc.e1
  let frac := fun (e : EncSide) => BitVec.ofNat 32 (e.phi d.now)
  let ws : List Word := [low32 e0.k, high32 e0.k, low32 d.enc.kmax, high32 d.enc.kmax, frac e0, low32 e0.speed,
    low32 e1.k, high32 e1.k, frac e1, low32 e1.speed]
  let d := ((List.range 10).zip ws).foldl (fun d (i, w) => d.setRegOf h (0x080028 + 4 * i) w) d
  d.snapNext h 0x080024

/-- A write of ENC_SNAP_CTRL. -/
def Dev.writeEncSnap (d : Dev) (w : Writer) (v : Word) : Eff :=
  d.guarded w 0x080020 (fun _ _ _ d => .ok (if flag v 0 then d.encSnap (d.window w) else d))

/-- A FULL forme has finished loading (R11, R157, R174, R180, R184): counts, position and everything of chapter 06 but
the regenerator are 0; its source and divider take effect. Pairs in disagree stay so. -/
def Dev.encLoad (d : Dev) (f : Forme) : Dev :=
  let clear := fun (e : EncSide) => { EncSide.zero with
    a := e.a, b := e.b, z := e.z, disA := e.disA, disB := e.disB, disZ := e.disZ, winStart := d.now, winLen := d.encWindow,
    illegal := e.illegal, illegalRound := e.illegalRound }
  let d := { d with
    enc := { d.enc with e0 := clear d.enc.e0, e1 := clear d.enc.e1, kmax := 0, kb := 0, armed := false, fbFrac := 0,
                        fallback := false, span := none, encoGather := 0, encoSrc := f.sys.encoSrc,
                        encoDiv := f.sys.encoDiv },
    fir := { d.fir with pos := 0, pmax := 0, gain := 0x40000000, anchor := 0, anchorNow := 0, anchorTgt := 0,
                        anchorLine := 0, anchors := [], gains := [], stopped := true, ps := 0, advT := d.now, advP := 0,
                        refT := d.now, refPos := 0, refR := 0 } }
  [0x080058, 0x08005C, 0x080060, 0x080064, 0x080068, 0x080078, 0x08007C].foldl (fun d o => d.setReg o 0) d

/-! ### The commands -/

/-- ENC_COUNT (R156): the filtered levels of encoder `n` become `a` and `b`. -/
def execEncCount (t n : Nat) (a b : Bool) (s : State) : Res :=
  if n < 2 && s.dev.inReset then .next { s with dev := (s.dev.at t).encCountReset n a b }
  else onUnit (decide (n < 2)) t (fun d => d.encCount n a b) s
/-- INDEX_PULSE (R165). -/
def execIndexPulse (t : Nat) (s : State) : Res :=
  if s.dev.inReset then
    .next { s with dev := if s.dev.enc.encoSrc = 0 then (s.dev.at t).emit (.pin 4 2 true) else s.dev.at t }
  else onDev t Dev.indexPulse s
/-- WIRE_DISAGREE_ENTER (R158). -/
def execWireDisagreeEnter (t n : Nat) (pair : EncPair) (s : State) : Res :=
  onUnit (decide (n < 2)) t (fun d => d.disEnter n pair) s
/-- WIRE_DISAGREE_EXIT (R158). -/
def execWireDisagreeExit (t n : Nat) (pair : EncPair) (s : State) : Res :=
  onUnit (decide (n < 2)) t (fun d => d.disExit n pair) s
/-- SPEED_WINDOW_END (R161). -/
def execSpeedWindowEnd (t n : Nat) (s : State) : Res := onUnit (decide (n < 2)) t (fun d => d.windowEnd n) s
/-- WEB_STOP_DETECTED (R15). -/
def execWebStopDetected (t : Nat) (s : State) : Res := onDev t Dev.webStop s
/-- ENC_SNAP_TAKE (R176). -/
def execEncSnapTake (t : Nat) (w : Writer) (v : Word) (s : State) : Res := onDevE t (fun d => d.writeEncSnap w v) s

end Sys2Proof.Machine
end

