-- ==== Sys2Proof/Machine/Link.lean ====
section
/-!
DEFINITION. Bar links at the device (R206 to R240): the states of a link, the frames the device builds and sends,
negotiation, latency, claims, ECHO RESEND and HK frames.
-/
namespace Sys2Proof.Machine

/-- Offset of a register of link `k` and of lane `n` (R240, R459). -/
def blReg (k o : Nat) : Nat := 0x0A0000 + 0x100 * k + o
def laneReg (n o : Nat) : Nat := 0x140000 + 0x40 * n + o

/-- A lane. -/
def Dev.lane (d : Dev) (n : Nat) : Lane := Sparse.get (fun _ => .zero) d.lanes n
def Dev.setLane (d : Dev) (n : Nat) (x : Lane) : Dev := { d with lanes := Sparse.set (fun _ => .zero) d.lanes n x }

/-- BL_STATUS.STATE: 0 DOWN, 1 LOCK, 2 CAPS, 3 CONFIG, 4 READY, 5 OWNED, 6 REFUSED, 7 WATCH. -/
def Dev.blState (d : Dev) (k : Nat) : Nat := fld (d.reg (blReg k 4)) 0 4
def Dev.setBlState (d : Dev) (k st : Nat) : Dev :=
  let d := d.setRegFld (blReg k 4) 0 4 st
  d.setBl k { d.bl k with since := d.now }
/-- The link is READY or OWNED. -/
def Dev.blUp (d : Dev) (k : Nat) : Bool := d.blState k == 4 || d.blState k == 5

/-- LANE_STATUS.PHY: 0 DEEP, 1 EIDLE, 2 ACTIVE, 3 EXITING, 4 TEST; LOCK and LOS. -/
def Dev.phy (d : Dev) (n : Nat) : Nat := fld (d.reg (laneReg n 4)) 0 3
def Dev.setPhy (d : Dev) (n p : Nat) : Dev := d.setRegFld (laneReg n 4) 0 3 p
def Dev.laneLock (d : Dev) (n : Nat) : Bool := flag (d.reg (laneReg n 4)) 5
def Dev.laneLos (d : Dev) (n : Nat) : Bool := flag (d.reg (laneReg n 4)) 4
/-- The lane is in test. -/
def Dev.inTest (d : Dev) (n : Nat) : Bool := (d.lane n).test.isSome

/-- HK_STATUS.TRIPPED (R436). -/
def Dev.tripped (d : Dev) : Bool := flag (d.reg 0x130004) 0

/-- The event source of a link (R472). -/
def blSource (k : Nat) : Nat := 0x0A00 + k

/-! ### Sending -/

/-- Blocks of 64 bits a frame takes; a set's ARM and FIRE and a HALT are one block each (R208, R209). -/
def blocksOf (bs : List Byte) : Nat := if bs.length ≤ 8 then 1 else (bs.length - 7) / 8 + 2

/-- A frame or ordered set leaves on a link: out of electrical idle first (R452), nothing while the transmitter sleeps,
wakes or tests. -/
def Dev.blSend (d : Dev) (k : Nat) (bs : List Byte) : Dev :=
  let d := if d.phy k = 1 then d.setPhy k 2 else d
  if d.phy k = 2 then
    ((d.setBl k { d.bl k with busyAt := d.now }).count (320 + 6 * k) (blocksOf bs)).emit (.barFrame k bs)
  else d

/-- Bytes of a frame with its CRC-32C appended (R209). -/
def framed (b : List Byte) : List Byte := b ++ leBytes 4 (crc32c b).toNat

/-- A frame of a type and length whose CRC passes (R209). -/
def frameGood (typ len : Nat) (f : List Byte) : Bool :=
  u8 f 0 == typ && f.length == len && (crc32c (f.take (len - 4))).toNat == u32 f (len - 4)

/-- A CTRL frame (R233): head position or 0xFF, KIND and body. -/
def ctrlFrame (p kind : Nat) (body : List Byte) : List Byte :=
  framed (leBytes 1 4 ++ leBytes 1 p ++ leBytes 1 kind ++ leBytes 1 0 ++ padTo 12 0 body)

/-- A CLAIM frame (R226). -/
def claimFrame (flags c : Nat) (le : Word) : List Byte :=
  framed (leBytes 1 3 ++ leBytes 1 0xFF ++ leBytes 1 flags ++ leBytes 1 0 ++ leBytes 5 c ++ leBytes 3 0 ++ leBytes 4 le.toNat)

/-- A DIGEST frame (R222). -/
def digestFrame (p : Nat) (part : Bool) (first : Word) (count : Nat) (dig : Word) : List Byte :=
  framed (leBytes 1 2 ++ leBytes 1 p ++ leBytes 1 (b2n part) ++ leBytes 1 0 ++ leBytes 4 first.toNat ++ leBytes 2 count
    ++ leBytes 2 0 ++ leBytes 4 dig.toNat)

/-- A PROBE frame (R236). -/
def probeFrame (seq : Nat) : List Byte := framed (leBytes 1 6 ++ leBytes 1 0xFF ++ leBytes 2 seq ++ leBytes 4 0)

/-- A HALT block (R208). -/
def haltBlock : List Byte := leBytes 1 0x33 ++ List.replicate 7 0x5A

/-- A nozzle line packed at `bits` bits per nozzle, nozzle 0 lowest (R211). -/
def packCodes (bits : Nat) (codes : List Nat) : List Byte :=
  leBytes ((codes.length * bits + 7) / 8) (codes.foldr (fun c acc => c % 2 ^ bits + acc * 2 ^ bits) 0)

/-- A LINE frame (R211). -/
def lineFrame (p bits : Nat) (fb : Bool) (s f : Int) (payload : List Byte) : List Byte :=
  let h := leBytes 1 1 ++ leBytes 1 p ++ leBytes 1 (b2n fb) ++ leBytes 1 bits ++ leBytes 4 (low32 s).toNat
    ++ leBytes 6 (f % 281474976710656).toNat
  framed (h ++ leBytes 2 (crc16 h) ++ payload)

/-- TD0 time of day is the local clock's (R406); the line of the next ARM of a head (R219). -/
def Dev.nextArm (d : Dev) (h : Nat) : Option Int :=
  let x := d.headFire h
  match x.commit with
  | some c => some c.s
  | none => x.lines.head?.map (·.s)

/-- A TICK frame (R219). -/
def Dev.tickFrame (d : Dev) (f : Forme) (k : Nat) : List Byte :=
  let next := (List.range 8).flatMap (fun p =>
    match (f.linkHeads k).find? (fun h => h.port == p) with
    | some h => leBytes 4 (match d.nextArm h.slot with | some s => (low32 s).toNat | none => 0xFFFFFFFF)
    | none => leBytes 4 0xFFFFFFFF)
  framed (leBytes 1 5 ++ leBytes 1 0xFF ++ leBytes 1 (b2n d.printing) ++ leBytes 1 f.geom.lpi
    ++ leBytes 4 (d.clockSec % 4294967296) ++ leBytes 4 d.clockNsWord.toNat ++ leBytes 4 (low32 d.webRate).toNat
    ++ leBytes 5 (d.bl k).own ++ leBytes 3 0 ++ next)

/-- The heads of a link whose next ARM is planned: their NEXT in a TICK sent now is a line. -/
def Dev.plannedPorts (d : Dev) (f : Forme) (k : Nat) : List Nat :=
  ((f.linkHeads k).filter (fun h => (d.nextArm h.slot).isSome)).map (·.port)

/-- A TICK is sent: nothing more is owed to the heads whose next line it names (R219). -/
def Dev.sendTick (d : Dev) (f : Forme) (k : Nat) : Dev :=
  (d.setBl k { d.bl k with tickFor := (d.bl k).tickFor.filter (fun p => !((d.plannedPorts f k).contains p)) }).blSend k
    (d.tickFrame f k)

/-- One PROBE goes out (R236). -/
def Dev.sendProbe (d : Dev) (k : Nat) : Dev :=
  let b := d.bl k
  let d := d.setBl k { b with probes := b.probes ++ [(b.seq, d.now)], seq := (b.seq + 1) % 65536, left := b.left - 1,
                              lastProbe := d.now }
  d.blSend k (probeFrame b.seq)

/-! ### Link states (R234, R235) -/

/-- The link goes DOWN (R235): its claim, latency probes and sets in progress are gone, and its heads are unowned. -/
def Dev.linkDown (d : Dev) (k : Nat) : Dev :=
  let b := d.bl k
  let d := d.setBl k { b with own := 0, probes := [], left := 0, resend := [], tickFor := [], lost := none, firing := [],
                              digs := [], sent := [] }
  let d := d.setRegFld (blReg k 4) 24 8 0
  d.setBlState k 0

/-- A link whose lane has locked and whose transmitter runs leaves DOWN for LOCK (R235). -/
def Dev.tryLock (d : Dev) (k : Nat) : Dev :=
  if d.blState k = 0 && d.laneLock k && d.phy k = 2 then d.setBlState k 1 else d

/-- The link is REFUSED (R234, R235). -/
def Dev.refuseLink (d : Dev) (k reason : Nat) : Dev :=
  let d := ((d.linkDown k).setBlState k 6).setRegFld (blReg k 4) 8 4 reason
  d.raiseAll 0x0009 (blSource k) (BitVec.ofNat 32 k) 0xFFFFFFFF

/-- A head's line rate falls short (R234): a head of a DUPLEX row fires every second line (R20). -/
def headShort (f : Forme) (h : HeadCfg) (caps : List Byte) : Bool :=
  let o := 0x18 + 16 * h.port
  let fmt := u8 caps (o + 0xA)
  decide (u16 caps (o + 8) < h.nozzles) || !(bit fmt (if h.npi1200 then 1 else 0)) || !(bit fmt (1 + h.bits))
    || decide (u8 caps (o + 0xB) * 1000 * f.rowStep h.row < f.geom.maxRate)

/-- The refusal cause of a CAPS against the forme (R234, R240); 0 none. -/
def capsReason (f : Forme) (k : Nat) (caps : List Byte) : Nat :=
  let hs := f.linkHeads k
  let l := f.link k
  if u8 caps 2 / 16 ≠ 1 then 1
  else if hs.any (fun h => decide (u8 caps 4 ≤ h.port)) then 2
  else if u8 caps 5 < l.minBuf then 3
  else if l.maxLat * 10 < u16 caps 6 || u16 caps 6 < 200 then 4
  else if l.dualPort && !(bit (u8 caps 3) 0) then 5
  else if hs.any (fun h => headShort f h caps) then 6
  else if !(bit (u8 caps 3) 2) && hs.any (fun h => h.bits == 3 &&
      (match f.plane (h.row / 2) with | some p => p.fallback != 0xFF && p.input != 3 | none => false)) then 7
  else 0

/-- XLATE of a head: the codes of its plane's fallback map (R98, R233). -/
def Dev.xlate (d : Dev) (f : Forme) (h : HeadCfg) : List Nat :=
  match f.plane (h.row / 2) with
  | some p =>
    (match (d.plane p.c).blks.find? (fun b => b.kind == 3 && b.index == p.fallback) with
     | some b => if h.bits = 3 then padTo 4 0 ((dropLevels b.body).map (·.code)) else [0, 1, 2, 3]
     | none => [0, 1, 2, 3])
  | none => [0, 1, 2, 3]

/-- HEADCFG of a head (R233). -/
def Dev.headcfg (d : Dev) (f : Forme) (h : HeadCfg) : List Byte :=
  ctrlFrame h.port 2 (leBytes 2 h.nozzles ++ leBytes 1 h.bits ++ leBytes 1 (f.rowStep h.row)
    ++ (d.xlate f h).flatMap (leBytes 1))

/-- A head slot's bit of HK_INHIBIT (R443). -/
def Dev.inhibited (d : Dev) (h : Nat) : Bool := flag (d.reg (0x130200 + 4 * (h / 32))) (h % 32)
def Dev.setInhibit (d : Dev) (h : Nat) (x : Bool) : Dev :=
  d.setReg (0x130200 + 4 * (h / 32)) (setFlag (d.reg (0x130200 + 4 * (h / 32))) (h % 32) x)

/-- Rounds in a row a head has stood inside its inner window (R434). -/
def Dev.setGood (d : Dev) (h n : Nat) : Dev := { d with hk := { d.hk with good := Sparse.set (fun _ => 0) d.hk.good h n } }

/-- From link-up every head of the link is inhibited until its first release, unless a take-over or reversion carries
its release over (R434). -/
def Dev.inhibitLink (d : Dev) (f : Forme) (k : Nat) : Dev :=
  if d.twState = 8 || d.twState = 9 then d
  else
    let hs := (f.linkHeads k).map (·.slot)
    let d : Dev := { d with hk := { d.hk with heard := d.hk.heard.filter (fun h => !(hs.contains h)) } }
    hs.foldl (fun d h => (d.setInhibit h true).setGood h 0) d

/-- CONFIG is entered (R235): HEADCFG per head, a TICK, and 16 PROBEs to send. -/
def Dev.enterConfig (d : Dev) (f : Forme) (k : Nat) : Dev :=
  let d := d.setBlState k 3
  let d := d.setBl k { d.bl k with lats := [], probes := [], left := 16 }
  let d := d.inhibitLink f k
  let d := (f.linkHeads k).foldl (fun d h => d.blSend k (d.headcfg f h)) d
  let d := d.sendTick f k
  d.setBl k { d.bl k with tickFor := (f.linkHeads k).map (·.port) }

/-- The last CAPS is judged and leads to CONFIG or REFUSED, with a downgrade reported (R234). -/
def Dev.negotiate (d : Dev) (f : Forme) (k : Nat) : Dev :=
  let caps := (d.bl k).caps
  let r := capsReason f k caps
  if r ≠ 0 then d.refuseLink k r
  else
    let dg := b2n (!(bit (u8 caps 3) 1)) + 2 * b2n (decide (0 < u8 caps 0xC))
    let d := (d.setRegFld (blReg k 4) 12 2 dg).setRegFld (blReg k 4) 8 4 0
    let d := if dg = 0 then d
      else d.raiseAll 0x0009 (blSource k) (BitVec.ofNat 32 k) (BitVec.ofNat 32 (dg * 4096))
    let d := (f.linkHeads k).foldl (fun d h => d.headIdentity f h (u64 caps (0x18 + 16 * h.port))) d
    d.enterConfig f k

/-- The highest epoch seen follows a claim number (R399, R405): only a unit of a pair keeps it. -/
def Dev.noteEpoch (d : Dev) (c : Nat) : Dev :=
  if d.twinned then d.setReg 0x11000C (BitVec.ofNat 32 (max (d.reg 0x11000C).toNat (c / 256))) else d

/-- The claim register of a link's endpoint is heard (R240). -/
def Dev.hearClaim (d : Dev) (k c : Nat) : Dev := (d.setBl k { d.bl k with claim := c }).noteEpoch c

/-- The link heads of the forme, none without one. -/
def Dev.linkHeads (d : Dev) (k : Nat) : List HeadCfg := match d.forme with | some f => f.linkHeads k | none => []

/-- An upstream frame discarded under R209. -/
def Dev.blBad (d : Dev) (k : Nat) : Dev := (d.bump (blReg k 0x20)).count (320 + 6 * k + 5) 1

/-- CAPS arrives (R232, R234, R235): recorded, and in LOCK judged. -/
def Dev.capsReceive (d : Dev) (k : Nat) (b : List Byte) : Dev :=
  if !(frameGood 0x82 (28 + 16 * u8 b 4) b) || u8 b 4 = 0 || 8 < u8 b 4 then d.blBad k
  else
    let d := d.setBl k { d.bl k with caps := b, capsAt := some d.now }
    let d := d.hearClaim k (u40 b 0x10)
    let d := d.setReg (blReg k 8) (BitVec.ofNat 32 (u32 b 2))
    let d := d.setReg (blReg k 0xC) (BitVec.ofNat 32 (u16 b 6 + u8 b 0xC % 4 * 65536))
    let d := d.setRegFld (blReg k 4) 16 1 (u8 b 0xD)
    let d := (List.range (u8 b 4)).foldl (fun d p =>
      (d.setReg (blReg k (0x40 + 8 * p)) (BitVec.ofNat 32 (u32 b (0x18 + 16 * p)))).setReg (blReg k (0x44 + 8 * p))
        (BitVec.ofNat 32 (u32 b (0x1C + 16 * p)))) d
    match d.forme with
    | some f => if d.blState k = 1 then (d.setBlState k 2).negotiate f k else d
    | none => d

/-! ### Latency and claims (R231, R236, R399) -/

/-- FIR_LINK_LAT: the mean of the last 16 accepted values, in ps (R236). -/
def Dev.setLats (d : Dev) (k : Nat) (l : List Nat) : Dev :=
  let l := l.take 16
  let d := d.setBl k { d.bl k with lats := l }
  d.setReg (0x090200 + 4 * k) (BitVec.ofNat 32 (if l.isEmpty then 0 else (l.sum / l.length) % 16777216))

/-- A claim is sent on a link (R226). -/
def Dev.sendClaim (d : Dev) (k flags c : Nat) (le : Int) : Dev :=
  let d := d.setBl k { d.bl k with own := c, lost := none }
  let d : Dev := if d.twinned && !(d.tw.claimed.contains k) then { d with tw := { d.tw with claimed := k :: d.tw.claimed } } else d
  d.blSend k (claimFrame flags c (low32 le))

/-- The switch line of a link at a take-over: the least resume line of the planes that have a head on it (R398). -/
def Dev.switchLine (d : Dev) (f : Forme) (k : Nat) : Option Int :=
  ((f.linkHeads k).map (fun h => Sparse.get (fun _ => (0 : Int)) d.tw.resume (h.row / 2))).foldl
    (fun acc u => match acc with | none => some u | some m => some (min m u)) none

/-- The claim number of a unit's next claim (R231, R386, R399): a unit of a pair keeps one epoch, one above the highest it
had seen when it became active, unless an endpoint's claim is already as high. -/
def Dev.nextClaim (d : Dev) (f : Forme) (k : Nat) : Nat :=
  if d.twinned then
    let e := (d.reg 0x11000C).toNat
    let mine := d.tw.epoch.getD (e + 1)
    if (d.bl k).claim < mine * 256 + f.twin.rank then mine * 256 + f.twin.rank else (max e mine + 1) * 256 + f.twin.rank
  else ((d.bl k).claim / 256 + 1) * 256 + 0x80

/-- A link that has reached READY is claimed (R231, R386, R399, R403). -/
def Dev.claimLink (d : Dev) (f : Forme) (k : Nat) : Dev :=
  let c := d.nextClaim f k
  match d.twState with
  | 0 => d.sendClaim k 1 c 0
  | 2 | 3 | 8 =>
    if d.printing && d.tw.td.isSome then
      match d.switchLine f k with
      | some le => d.sendClaim k 0 c le
      | none => d.sendClaim k 1 c 0
    else d.sendClaim k 1 c 0
  | 9 => (match d.tw.seam with | some s => d.sendClaim k 0 c s | none => d)
  | _ => d

/-- READY is reached with 16 accepted values in hand: the link is claimed (R231, R235). -/
def Dev.reachReady (d : Dev) (f : Forme) (k : Nat) : Dev :=
  let d := (d.setBlState k 4)
  (d.setBl k { d.bl k with fails := 0, lastProbe := d.now }).claimLink f k

/-- PROBE_ECHO arrives (R236): t_rt runs from the PROBE's instant to this one; the value is accepted or discarded. -/
def Dev.probeEcho (d : Dev) (k : Nat) (b : List Byte) : Dev :=
  if !(frameGood 0x84 12 b) then d.blBad k
  else
    let x := d.bl k
    match x.probes.find? (fun p => p.1 == u16 b 2), d.forme with
    | some (s, t0), some f =>
      let d := d.setBl k { x with probes := x.probes.filter (fun p => p.1 != s) }
      let v : Int := ((d.now : Int) - t0 - 10 * u32 b 4 + u16 x.caps 8 - u16 x.caps 0xA) / 2
      let mean : Int := if x.lats.isEmpty then v else x.lats.sum / x.lats.length
      if 1000 < (v - mean).natAbs || v < 0 then
        let d := d.bump (blReg k 0x34)
        if d.blState k = 3 then d.setBl k { d.bl k with left := (d.bl k).left + 1 } else d
      else
        let d := d.setLats k (v.toNat :: x.lats)
        if d.blState k = 3 && 16 ≤ (d.bl k).lats.length then d.reachReady f k else d
    | _, _ => d

/-! ### Timers of a link (R219, R235, R236) -/

/-- A TICK falls due on a link in CONFIG, READY or OWNED (R219). -/
def Dev.tickDue (d : Dev) (k : Nat) : Dev :=
  match d.forme with
  | some f => if 3 ≤ d.blState k && d.blState k ≤ 5 then d.sendTick f k else d
  | none => d

/-- A PROBE falls due (R236): those of CONFIG or REPROBE, else one every 10 ms. -/
def Dev.probeDue (d : Dev) (k : Nat) : Dev :=
  let b := d.bl k
  if d.blState k = 3 || d.blUp k then
    if 0 < b.left || (d.blUp k && decide (b.lastProbe + 10000000000 ≤ d.now)) then d.sendProbe k else d
  else d

/-- A PROBE_ECHO is not back within 2 µs: in CONFIG a further PROBE replaces it (R235). -/
def Dev.probeLate (d : Dev) (k : Nat) : Dev :=
  let b := d.bl k
  let gone := b.probes.filter (fun p => decide (p.2 + 2000000 ≤ d.now))
  if gone.isEmpty then d
  else
    d.setBl k { b with probes := b.probes.filter (fun p => !(gone.contains p)),
                       left := if d.blState k = 3 then b.left + gone.length else b.left }

/-- CAPS_REQ in LOCK (R235). -/
def Dev.capsReq (d : Dev) (k : Nat) : Dev := if d.blState k = 1 then d.blSend k (ctrlFrame 0xFF 1 []) else d

/-- 50 ms in LOCK without a valid CAPS (R235). -/
def Dev.lockTimeout (d : Dev) (k : Nat) : Dev :=
  if d.blState k = 1 && decide ((d.bl k).since + 50000000000 ≤ d.now) then d.linkDown k else d

/-- 1 ms in CONFIG without 16 values: DOWN, or REFUSED at the third time in a row (R235). -/
def Dev.configTimeout (d : Dev) (k : Nat) : Dev :=
  let b := d.bl k
  if d.blState k = 3 && decide (b.since + 1000000000 ≤ d.now) then
    if 2 ≤ b.fails then (d.setBl k { b with fails := 0 }).refuseLink k 0xF
    else (d.setBl k { b with fails := b.fails + 1 }).linkDown k
  else d

/-! ### Upstream frames (R213, R237) -/

/-- ECHO RESEND arrives (R213): the lines still in the lead buffer whose FIRE is not committed are resent. -/
def Dev.echoResendIn (d : Dev) (k : Nat) (b : List Byte) : Dev :=
  if !(frameGood 0x81 16 b) || u8 b 2 ≠ 1 then d.blBad k
  else
    let d := d.bumpBy (blReg k 0x24) (u16 b 8)
    if !(flag (d.reg (blReg k 0)) 2) || flag (d.reg (blReg k 4)) 12 then d
    else
      match d.forme, (d.linkHeads k).find? (fun h => h.port == u8 b 1) with
      | some f, some h =>
        let first : Word := BitVec.ofNat 32 (u32 b 4)
        let step := f.rowStep h.row
        let want := (List.range (u16 b 8)).map (fun i => first + BitVec.ofNat 32 (i * step))
        let lines := ((d.headFire h.slot).lines.filter (fun l => l.sent && want.contains (low32 l.s))).map (fun l => (h.slot, l.s))
        d.setBl k { d.bl k with resend := (d.bl k).resend ++ lines }
      | _, _ => d

/-- An HK frame arrives (R237): BL_HK takes its TEMP and FLAGS, and it is held for the next round. -/
def Dev.hkFrame (d : Dev) (k : Nat) (b : List Byte) : Dev :=
  if !(frameGood 0x83 28 b) then d.blBad k
  else
    match (d.linkHeads k).find? (fun h => h.port == u8 b 1) with
    | none => d
    | some h =>
      let d := d.setReg (blReg k (0x80 + 4 * h.port)) (BitVec.ofNat 32 (u16 b 4 + u8 b 2 % 8 * 65536))
      { d with hk := { d.hk with
        fresh := if d.hk.fresh.contains h.slot then d.hk.fresh else h.slot :: d.hk.fresh,
        heard := if d.hk.heard.contains h.slot then d.hk.heard else h.slot :: d.hk.heard } }

/-! ### BL_CTRL (R240) -/

/-- A write of BL_CTRL: RESEND_EN is kept; RECAPS takes the link DOWN, REPROBE discards the mean and runs 16 PROBEs. -/
def Dev.writeBlCtrl (d : Dev) (w : Writer) (k : Nat) (v : Word) : Eff :=
  d.guarded w (blReg k 0) (fun r _ _ d =>
    let d := d.storeReg w (blReg k 0) r v
    let d := if flag v 1 && !(d.inTest k) && d.blState k ≠ 7 then ((d.linkDown k).setRegFld (blReg k 4) 8 4 0) else d
    .ok (if flag v 0 && d.blUp k then
      let d := d.setLats k []
      d.setBl k { d.bl k with left := 16 }
    else d))

/-! ### The commands -/

/-- A link number the device has. -/
def linkOk (k : Nat) : Bool := decide (k < 32)

/-- TICK_SEND (R219). -/
def execTickSend (t k : Nat) (s : State) : Res := onUnit (linkOk k) t (fun d => d.tickDue k) s
/-- PROBE_SEND (R236). -/
def execProbeSend (t k : Nat) (s : State) : Res := onUnit (linkOk k) t (fun d => d.probeDue k) s
/-- PROBE_TIMEOUT (R235). -/
def execProbeTimeout (t k : Nat) (s : State) : Res := onUnit (linkOk k) t (fun d => d.probeLate k) s
/-- CAPS_REQ_SEND (R235). -/
def execCapsReqSend (t k : Nat) (s : State) : Res := onUnit (linkOk k) t (fun d => d.capsReq k) s
/-- LOCK_CAPS_TIMEOUT (R235). -/
def execLockCapsTimeout (t k : Nat) (s : State) : Res := onUnit (linkOk k) t (fun d => d.lockTimeout k) s
/-- CONFIG_TIMEOUT (R235). -/
def execConfigTimeout (t k : Nat) (s : State) : Res := onUnit (linkOk k) t (fun d => d.configTimeout k) s
/-- CAPS_RECEIVE (R234). -/
def execCapsReceive (t k : Nat) (f : List Byte) (s : State) : Res := onUnit (linkOk k) t (fun d => d.capsReceive k f) s
/-- PROBE_ECHO_RECEIVE (R236). -/
def execProbeEchoReceive (t k : Nat) (f : List Byte) (s : State) : Res := onUnit (linkOk k) t (fun d => d.probeEcho k f) s
/-- ECHO_RESEND_RECEIVE (R213). -/
def execEchoResendReceive (t k : Nat) (f : List Byte) (s : State) : Res := onUnit (linkOk k) t (fun d => d.echoResendIn k f) s
/-- HK_FRAME_RECEIVE (R237). -/
def execHkFrameReceive (t k : Nat) (f : List Byte) (s : State) : Res := onUnit (linkOk k) t (fun d => d.hkFrame k f) s
/-- RECAPS (R240): BL_CTRL is written with RECAPS. -/
def execRecaps (t : Nat) (w : Writer) (k : Nat) (v : Word) (s : State) : Res := onUnitE (linkOk k) t (fun d => d.writeBlCtrl w k v) s
/-- REPROBE (R240): BL_CTRL is written with REPROBE. -/
def execReprobe (t : Nat) (w : Writer) (k : Nat) (v : Word) (s : State) : Res := onUnitE (linkOk k) t (fun d => d.writeBlCtrl w k v) s

end Sys2Proof.Machine
end

