-- ==== Sys2Proof/Machine/Ladder.lean ====
section
/-!
DEFINITION. Lead, the throttling ladder and the slow request (R427, R437 to R442).
-/
namespace Sys2Proof.Machine

/-! ### Outputs that follow the twin role (R380) -/

/-- The hand-over seam of a reversion stands at the datum, with the anchor of R199 (R403). -/
def Dev.seamAtDatum (d : Dev) : Bool :=
  match d.tw.seam with
  | some s => decide (d.job.p0 + 64 * s + d.fir.anchorNow ≤ d.fir.pmax)
  | none => false

/-- The unit drives POS, TP, camera triggers and LINE_SLOW: a SOLO unit, an ACTIVE one that has lost no claim and not
handed over, or one reverting once S_s stands at the datum (R380). -/
def Dev.drives (d : Dev) : Bool :=
  match fld (d.reg 0x110004) 4 2 with
  | 0 => true
  | 1 => !d.tw.deposed && !d.seamAtDatum
  | _ => d.twState == 9 && d.seamAtDatum

/-- A level on an output that follows the role; after a thermal trip only LINE_SLOW (pin 3) is driven (R380, R436). -/
def Dev.drivePin (d : Dev) (name idx : Nat) (level : Bool) : Dev :=
  if d.drives && (name == 3 || !d.tripped) then d.emit (.pin name idx level) else d

/-- The level an output is driven to: `out` says whether its unit drives it. -/
def drivenLevel (out active low : Bool) : Option Bool := if out then some (active != low) else none

/-- A write that enables an output or turns its polarity drives the level that follows (R198, R419). -/
def Dev.redrive (d : Dev) (name idx : Nat) (was level : Option Bool) : Dev :=
  match level with
  | some l => if was = level then d else d.drivePin name idx l
  | none => d

/-! ### Lead (R427) -/

/-- The least of two leads with their links. -/
def leastLead (a b : Option (Nat × Nat)) : Option (Nat × Nat) :=
  match a, b with
  | none, y => y
  | x, none => x
  | some x, some y => if y.1 < x.1 then some y else some x

/-- The device lead of an interval: the least over the links where a commit took one, with its link (R427). -/
def deviceLead (m : Sparse (Option Nat)) : Option (Nat × Nat) :=
  m.foldl (fun acc (e : Nat × Option Nat) => leastLead acc (e.2.map (fun l => (l, e.1)))) none

/-- A lead joins an interval. -/
def addLead (m : Sparse (Option Nat)) (k lead : Nat) : Sparse (Option Nat) :=
  let old := Sparse.get (fun _ => none) m k
  Sparse.set (fun _ => none) m k (some (match old with | some l => min l lead | none => lead))

/-! ### The byte of R442 and LINE_SLOW -/

/-- HK is the source of every event of this chapter. -/
def hkSource : Nat := 0x13FF

/-- RUN in force. -/
def Dev.runCfg (d : Dev) : RunCfg :=
  d.fm.run.getD { scrMode := [], powerMode := 0, ladder := 0, grace := 0, lWarn := 0, lAsk := 0, lEnforce := 0, hkMs := 10 }

/-- LINE_SLOW is asserted: the state is not NORMAL (R438), or the device has tripped (R436). -/
def Dev.slowAsserted (d : Dev) : Bool := d.thState != 0 || d.tripped

/-- The byte of R442 is set; LINE_SLOW, active low, follows it. -/
def Dev.setThrottle (d : Dev) (state causes : Nat) : Dev :=
  let was := d.slowAsserted
  let rung := match d.hk.taken with | x :: _ => x.1 | [] => 0
  let d := d.setRegFld 0x130010 0 8 (state + 4 * rung + 32 * causes)
  if d.slowAsserted == was then d else d.drivePin 3 0 (!d.slowAsserted)

/-- Grace time left, in 0.1 s, while the state is ASKED. -/
def Dev.showGrace (d : Dev) : Dev :=
  let left := if d.thState = 1 then (d.runCfg.grace * 100000000000 - d.hk.grace) / 100000000000 else 0
  d.setRegFld 0x130010 16 16 left

/-- EV_SLOW_ASK (R438): the causes, the link with the least lead of the round and that lead, the hottest reading. -/
def Dev.raiseSlowAsk (d : Dev) : Dev :=
  let (lead, link) := (deviceLead d.hk.roundLead).getD (fld (d.reg 0x130014) 8 7, fld (d.reg 0x130014) 16 5)
  let c := d.thCauses
  d.raiseAll 0x0003 hkSource (BitVec.ofNat 32 ((if c = 0 then 2 else 1) + 256 * c + 65536 * link))
    (BitVec.ofNat 32 (lead + 65536 * fld (d.reg 0x13001C) 0 16))

/-- EV_SLOW_ENFORCE of a rung without a seam (R442). -/
def Dev.raiseEnforce (d : Dev) (lifted : Bool) : Dev :=
  d.raiseAll 0x0004 hkSource (BitVec.ofNat 32 (fld (d.reg 0x130010) 0 8 + 256 * b2n lifted)) 0xFFFFFFFF

/-- The times of R438 and R441 that rest on the ask causes follow a new set of them. -/
def Dev.timeCauses (d : Dev) (c : Nat) : Dev :=
  let old := d.thCauses
  let d := d.graceCount
  let d : Dev := if c ≠ 0 && old = 0 then { d with hk := { d.hk with grace := 0 } } else d
  if c ≠ 0 || old ≠ 0 then { d with hk := { d.hk with clean := d.now } } else d

/-- The ask causes change: NORMAL becomes ASKED, and the change is reported (R438). -/
def Dev.setCauses (d : Dev) (c : Nat) : Dev :=
  let old := d.thCauses
  let d := d.timeCauses c
  if d.thState = 0 then
    if c = 0 then d else (d.setThrottle 1 c).raiseSlowAsk
  else if c = old then d else (d.setThrottle d.thState c).raiseSlowAsk

/-! ### Rungs (R117, R439, R441) -/

/-- The bit of a rung in the rungs a plane holds: HYBRID 1, THRESHOLD 2, DROPBITS 4 (R117). -/
def rungBit : Nat → Nat
  | 2 => 1
  | 3 => 2
  | 4 => 4
  | _ => 0

/-- The rungs in force from those taken: skipped ones change nothing. -/
def rungMask (l : List (Nat × Bool)) : Nat := ((l.filter (·.2)).map (fun x => rungBit x.1)).sum

/-- A rung has something to act on (R439). -/
def Dev.rungActs (d : Dev) (f : Forme) (rung : Nat) : Bool :=
  let mode := fun (p : PlaneCfg) => (d.plane p.c).mode p.c
  match rung with
  | 2 => bit d.runCfg.ladder 0 && f.planes.any (fun p => mode p == 1)
  | 3 => bit d.runCfg.ladder 0 && f.planes.any (fun p => mode p == 1 || mode p == 2)
  | 4 => bit d.runCfg.ladder 1 && f.planes.any (fun p => p.dropBits == 3 && p.fallback != 0xFF && p.input != 3)
  | _ => false

/-- The rungs that shall be in force are bound to a seam as a device update (R28, R439, R441). -/
def Dev.stageRungs (d : Dev) (f : Forme) (lifted : Bool) : Dev :=
  let d : Dev := { d with hk := { d.hk with waiting := true, applied := none } }
  let u : Update := { block := 0x13, tag := 0, by_ := if lifted then 0xFE else 0xFF, seam := none,
                      payload := .rungs (rungMask d.hk.taken), rows := f.rowsInUse, applied := [],
                      planes := f.planes.map (·.c), planesDone := [] }
  d.submit f u none

/-- The next rung is taken; skipped ones are passed at the same instant (R439). -/
def Dev.takeRung (f : Forme) : Nat → Dev → Dev
  | 0, d => d
  | n + 1, d =>
    let next := (match d.hk.taken with | x :: _ => x.1 | [] => 0) + 1
    let acts := d.rungActs f next
    let d : Dev := { d with hk := { d.hk with taken := (next, acts) :: d.hk.taken } }
    let d := d.setThrottle d.thState d.thCauses
    if acts then d.stageRungs f false
    else
      let d := d.raiseEnforce false
      if 5 ≤ next then d else Dev.takeRung f n d

/-- VDD_CORE set point and ceiling in mV (HK_VSET). -/
def Dev.vset (d : Dev) : Nat := fld (d.reg 0x13000C) 0 16
def Dev.ceiling (d : Dev) : Nat := fld (d.reg 0x13000C) 16 16
/-- HK_STATUS.VSET_FAULT. -/
def Dev.vsetFault (d : Dev) : Bool := flag (d.reg 0x130004) 2

/-- The voltage rung counts as applied once the set point stands at the ceiling, or with a VSET fault (R439, R470). -/
def Dev.voltageApplied (d : Dev) : Dev :=
  match d.hk.taken with
  | [(1, _)] =>
    if d.hk.applied.isNone && (d.ceiling ≤ d.vset || d.vsetFault) then { d with hk := { d.hk with applied := some d.now } }
    else d
  | _ => d

/-- ENFORCED is entered: VOLTAGE is taken at once (R438, R439). -/
def Dev.enforce (d : Dev) : Dev :=
  let d : Dev := { d with hk := { d.hk with taken := [(1, true)], waiting := false, applied := none, base := d.now } }
  let d := d.setThrottle 2 d.thCauses
  d.raiseEnforce false |>.voltageApplied

/-- The grace time has run out (R438). -/
def Dev.graceOver (d : Dev) : Bool := decide (d.runCfg.grace * 100000000000 ≤ d.hk.grace)

/-- ASKED becomes ENFORCED where its conditions hold (R438). -/
def Dev.judgeEnforce (d : Dev) : Dev :=
  let d := d.graceCount
  if d.thState = 1 && d.thCauses ≠ 0 && (d.graceOver || d.hk.low || d.hk.heatEnf) then d.enforce else d

/-- The screening-pool busy share allows a rung's lift (R441). The share comes from slot counters that the fabric's pace
moves: whether it holds is a free value (log entry 3). -/
def Dev.busyAllows (d : Dev) (rung : Nat) (acted : Bool) : Bool × Dev :=
  if acted && (rung = 2 || rung = 3) then let (v, d) := d.takeFree; (v % 2 == 1, d) else (true, d)

/-- Rungs are lifted in reverse order, one acting rung at a time (R441). -/
def Dev.liftRungs (f : Forme) : Nat → Dev → Dev
  | 0, d => d
  | n + 1, d =>
    match d.hk.taken with
    | [] => d
    | (rung, acted) :: rest =>
      let from_ := max d.hk.base d.hk.clean
      if d.hk.waiting || decide (d.now < from_ + d.runCfg.grace * 100000000000) then d
      else
        let (ok, d) := d.busyAllows rung acted
        if !ok then d
        else
          let d : Dev := { d with hk := { d.hk with taken := rest } }
          if rung = 1 then
            let d := d.setThrottle 0 d.thCauses
            (d.raiseEnforce true).raiseSlowAsk
          else
            let d := d.setThrottle d.thState d.thCauses
            if acted && rung ≠ 5 then d.stageRungs f true else Dev.liftRungs f n (d.raiseEnforce true)

/-- A rung check (R439): at a round's end once its time has come. -/
def Dev.rungCheck (d : Dev) (f : Forme) : Dev :=
  match d.hk.taken, d.hk.applied with
  | (rung, _) :: _, some t =>
    let wait := if rung = 1 || bit d.thCauses 0 then 0 else 1000000000000
    if rung ≠ 5 && !d.hk.waiting && decide (t + wait < d.now) && (d.graceOver || d.hk.low || d.hk.heatEnf) then
      Dev.takeRung f 5 d
    else d
  | _, _ => d

/-- The ladder at a round's end: causes, then the state they lead to (R438, R439, R441). -/
def Dev.ladderRound (d : Dev) (f : Forme) : Dev :=
  let run := d.runCfg
  let lead := (deviceLead d.hk.roundLead).map (·.1)
  let heat := flag (d.reg 0x130004) 1
  let c := b2n (match lead with | some l => decide (l < run.lAsk) | none => false) + 2 * b2n heat
    + 4 * b2n (flag (d.reg 0x130000) 1)
  if d.thState = 1 && c = 0 && (match lead with | some l => decide (run.lWarn ≤ l) | none => true) then
    ((d.timeCauses 0).setThrottle 0 0).raiseSlowAsk
  else
    let d := d.setCauses c
    match d.thState with
    | 1 => d.judgeEnforce
    | 2 => if c ≠ 0 then d.rungCheck f else Dev.liftRungs f 5 d
    | _ => d

/-- POLICY_ASK is written (R438). -/
def Dev.policyAsk (d : Dev) (x : Bool) : Dev :=
  let c := d.thCauses
  d.setCauses (c % 4 + 4 * b2n x)

/-- The time link `k` has stood below L_WARN is counted up to now (R323). -/
def Dev.settleLead (d : Dev) (k : Nat) : Dev :=
  let since := Sparse.get (fun _ => 0) d.hk.leadAt k
  if since = 0 then d
  else
    let d : Dev := { d with hk := { d.hk with leadAt := Sparse.set (fun _ => 0) d.hk.leadAt k d.now } }
    if fld (d.reg (0x130100 + 4 * k)) 0 7 < d.runCfg.lWarn then
      d.count (320 + 6 * k + 4) (d.now / 1000000 - since / 1000000)
    else d

/-- A commit takes a lead of link `k` (R427, R438): HK_LINK_LEAD and HK_LEAD follow, the time with a low lead is counted
(R323), and ASKED may become ENFORCED at once. -/
def Dev.takeLead (d : Dev) (k lead : Nat) : Dev :=
  let run := d.runCfg
  let d := d.settleLead k
  let d : Dev := { d with hk := { d.hk with leadAt := Sparse.set (fun _ => 0) d.hk.leadAt k d.now } }
  let d := d.setRegFld (0x130100 + 4 * k) 0 7 lead
  let d := d.setRegFld 0x130014 0 7 lead
  let d : Dev := { d with hk := { d.hk with
    tickLead := addLead d.hk.tickLead k lead, roundLead := addLead d.hk.roundLead k lead,
    clean := if lead < run.lWarn then d.now else d.hk.clean,
    low := d.hk.low || decide (lead < run.lEnforce) } }
  if lead < run.lEnforce && d.thState = 1 then d.graceCount.enforce else d

/-- GRACE_EXPIRE (R438): an ask cause has held for GRACE. -/
def execGraceExpire (t : Nat) (s : State) : Res := onDev t (fun d => d.judgeEnforce) s

end Sys2Proof.Machine
end

