-- ==== Sys2Proof/Machine/Fire.lean ====
section
/-!
DEFINITION. Firing: predictions and commits (R189 to R193), LINE frames and the lead buffers (R194, R195), late lines
and their runs (R196, R197), FIRE ordered sets and digests (R214, R215, R221, R222), and DREF steps (R285).
-/
namespace Sys2Proof.Machine

/-! ### Predictions (R190 to R193) -/

/-- The instant at which P reaches a position, in units of `unit` ps, from the latest refresh; none while r ≤ 0 (R190). -/
def Dev.predict (d : Dev) (pos : Int) (unit : Nat) : Option Int :=
  if d.fir.refR ≤ 0 then none
  else
    let den := d.fir.refR.toNat * 4294967296
    some (roundDiv ((d.fir.refT : Int) * den + (pos * 4294967296 - d.fir.refPos) * 1000000000000) (unit * den))

/-- ℓ of a link and λ of its endpoint, in ps (R189). -/
def Dev.flight (d : Dev) (k : Nat) : Nat := (d.reg (0x090200 + 4 * k)).toNat + 100 * u16 (d.bl k).caps 6

/-- Where a FIRE goes: the instant t_f in ps, its block, its offset, and whether it is committed after its instant. -/
structure Slot where
  tf : Int
  block : Nat
  off : Nat
  past : Bool
deriving DecidableEq, Repr

/-- The block and offset of a FIRE for a fire position at the present instant; none before t_tx − 500 ns (R190, R191,
R193). -/
def Dev.fireSlot (d : Dev) (k : Nat) (pos : Int) : Option Slot :=
  match d.predict pos 100 with
  | none => none
  | some u =>
    let tf := 100 * u
    let ttx := tf - (d.flight k : Int)
    if (d.now : Int) < ttx - 500000 then none
    else if ttx - 500000 < (d.now : Int) then some { tf := tf, block := (d.now + 500000 + 6399) / 6400, off := 0, past := true }
    else
      let b := ttx.toNat / 6400
      let o := (roundDiv (ttx - 6400 * b) 100).toNat
      some (if o = 64 then { tf := tf, block := b + 1, off := 0, past := false } else { tf := tf, block := b, off := o, past := false })

/-- The instant a head fires, in ps (R189). -/
def Slot.fireAt (x : Slot) (flight : Nat) : Nat := x.block * 6400 + x.off * 100 + flight

/-- The least interval between two FIREs of a head, with 64 × step as denominator (R192). -/
def tooSoon (step : Nat) (last : Option (Int × Nat)) (pos : Int) (at_ : Nat) : Bool :=
  match last with
  | some (f0, t0) => decide (((at_ : Int) - t0) * (64 * step) < 6250000 * (pos - f0))
  | none => false

/-- A committed FIRE is a late line for its timing (R192, R193). -/
def Dev.timingLate (d : Dev) (step : Nat) (x : HeadFire) (pos : Int) (sl : Slot) (flight : Nat) : Bool :=
  (sl.past && decide (d.fireTol * 1000000000000 < ((sl.fireAt flight : Int) - sl.tf) * d.fir.refR))
    || tooSoon step x.last pos (sl.fireAt flight)

/-- The unit sends LINE, ARM and FIRE for a line on a link: it holds the claim, or it has lost it and the line is below
the new switch line (R231); a tripped device and a lane in test send nothing (R436, R456). -/
def Dev.maySend (d : Dev) (k : Nat) (s : Int) : Bool :=
  d.printPath && !d.tripped && !d.inTest k &&
    (d.blState k == 5 ||
      (d.blState k == 4 && (match (d.bl k).lost with | some (some l) => decide (s < l) | _ => false)))

/-! ### Late lines (R196, R197) -/

/-- A run of late lines ends: its event and its count. -/
def Dev.closeRun (d : Dev) (f : Forme) (r : Nat) : Dev :=
  let x := d.rowFire r
  match x.run with
  | none => d
  | some u =>
    let d := d.setRowFire r { x with run := none, late := x.late + BitVec.ofNat 32 u.n }
    let w6 : Word := BitVec.ofNat 32 (u.cause + 256 * r + 65536 * u.n)
    let pos := u.f
    match f.plane (r / 2), d.owner 0 (r / 2) with
    | some _, some h => d.raiseAt h pos 0x0002 (0x0900 + r) w6 (low32 u.s)
    | _, _ => d

/-- A late line of a row is counted for its plane (R323). -/
def Dev.countLate (d : Dev) (r : Nat) : Dev := d.count (128 + 24 * (r / 2) + 23) 1

/-- A late line of a head joins its row's run, or starts another. -/
def Dev.noteLate (d : Dev) (f : Forme) (r h : Nat) (s pos : Int) (cause : Nat) : Dev :=
  let step : Int := f.rowStep r
  let fresh : LateRun := { f := pos, s := s, cause := cause, n := 1, head := h, last := s }
  match (d.rowFire r).run with
  | none => (d.setRowFire r { d.rowFire r with run := some fresh }).countLate r
  | some u =>
    if u.last < s then
      if s = u.last + step then
        let d := (d.setRowFire r { d.rowFire r with run := some { u with n := u.n + 1, last := s } }).countLate r
        if 4096 ≤ u.n + 1 then d.closeRun f r else d
      else
        let d := d.closeRun f r
        (d.setRowFire r { d.rowFire r with run := some fresh }).countLate r
    else if s = u.s && h < u.head then d.setRowFire r { d.rowFire r with run := some { u with f := pos, head := h } }
    else if s + step = u.s then
      (d.setRowFire r { d.rowFire r with run := some { u with f := pos, head := h, s := s, cause := cause, n := u.n + 1 } }).countLate r
    else d

/-- A row's run ends once every head of the row has committed a later line. -/
def Dev.checkRun (d : Dev) (f : Forme) (r : Nat) : Dev :=
  match (d.rowFire r).run with
  | some u => if (f.rowHeads r).all (fun h => decide (u.last < (d.headFire h.slot).done)) then d.closeRun f r else d
  | none => d

/-! ### FIRE_COMMIT -/

/-- Lines of a head sent in full from the first one on without a gap (R427). -/
def leadOf : List PrepLine → Nat
  | [] => 0
  | l :: ls => if l.sent then leadOf ls + 1 else 0

/-- A head that fires its first line after a DREF step less than 2.2 µs after it (R285). -/
def Dev.spillAt (d : Dev) (r : Nat) (step : Int) (s : Int) (at_ : Nat) : Dev :=
  let x := d.drefRow r
  if x.last = some (s - step) && decide (at_ < x.stepT + 2200000) then d.setDrefRow r { x with spill := x.spill + 1 } else d

/-- The cause that makes a head's line late (R196, R469); none where it fires, or where an inhibited head blanks it
(R434). -/
def Dev.lateCause (d : Dev) (h : HeadCfg) (l : PrepLine) (timing : Bool) : Option Nat :=
  if !(d.maySend h.link l.s) then some 2
  else if d.inhibited h.slot then none
  else if l.ue then some 5
  else if !l.sent then some 2
  else if timing then some 3
  else none

/-- The lead of a commit is taken, from a head's first line that is ready on (R427). -/
def Dev.leadAt (d : Dev) (h : HeadCfg) (ready : Bool) (lead : Nat) : Dev :=
  if ready || d.hk.counting.contains h.slot then
    let d : Dev := if d.hk.counting.contains h.slot then d
      else { d with hk := { d.hk with counting := h.slot :: d.hk.counting } }
    d.takeLead h.link lead
  else d

/-- A head's next FIRE is committed (R190 to R193, R196). -/
def Dev.commitFire (d : Dev) (f : Forme) (h : HeadCfg) (l : PrepLine) (rest : List PrepLine) (sl : Slot) : Dev :=
  let x := d.headFire h.slot
  let fl := d.flight h.link
  let at_ := sl.fireAt fl
  let cause := d.lateCause h l (d.timingLate (f.rowStep h.row) x l.f sl fl)
  let inh := d.inhibited h.slot
  let blank := cause.isSome || inh
  let c : Committed := { s := l.s, f := l.f, block := sl.block, off := sl.off, fireAt := at_, blank := blank,
                         payload := if blank then [] else packCodes (if l.fb then 2 else h.bits) (l.codes.getD []) }
  let lead := if cause = some 2 then 0 else leadOf (l :: rest)
  let d := d.setHeadFire h.slot { x with lines := rest, commit := some c, last := some (l.f, at_), done := l.s }
  let d := match cause with
    | some q => (d.noteLate f h.row h.slot l.s l.f q).count (320 + 6 * h.link + 3) 1
    | none => d
  let d := d.checkRun f h.row
  let d := d.spillAt h.row (f.rowStep h.row) l.s at_
  if inh && cause.isNone then d else d.leadAt h (cause != some 2) lead

/-- FIRE_COMMIT's effect: the head's first uncommitted line at or after its commit instant (R190, R195). -/
def Dev.fireCommit (d : Dev) (h : Nat) : Dev :=
  match d.forme with
  | none => d
  | some f =>
    match f.head h with
    | none => d
    | some c =>
      let x := d.headFire h
      match x.lines, d.fireSlot c.link (match x.lines with | l :: _ => l.f | [] => 0) with
      | l :: rest, some sl => if d.printing && d.printPath && x.commit.isNone then d.commitFire f c l rest sl else d
      | _, _ => d

/-! ### LINE frames (R195, R211, R213) -/

/-- A line's LINE frame goes out. -/
def Dev.sendLine (d : Dev) (h : HeadCfg) (l : PrepLine) : Dev :=
  let bits := if l.fb then 2 else h.bits
  (d.blSend h.link (lineFrame h.port bits l.fb l.s l.f (packCodes bits (l.codes.getD [])))).count (320 + 6 * h.link + 1) 1

/-- A line asked for again is sent again while it is still in the lead buffer; else it is forgotten (R213). -/
def Dev.resendLine (d : Dev) (h : HeadCfg) (s : Int) : Dev :=
  let b := d.bl h.link
  let d := d.setBl h.link { b with resend := b.resend.filter (fun x => !(x.1 == h.slot && x.2 == s)) }
  match (d.headFire h.slot).lines.find? (fun l => l.s == s && l.sent) with
  | some l => if d.maySend h.link s then (d.sendLine h l).bump (blReg h.link 0x28) else d
  | none => d

/-- The next line of a head that is complete in the lead buffer is sent, in order; not while the head is inhibited
(R195, R434). A TICK owed before the head's first ARM goes ahead of its LINE frames (R219; log entry 58). -/
def Dev.lineSend (d : Dev) (f : Forme) (h : HeadCfg) : Dev :=
  match (d.bl h.link).resend.find? (fun x => x.1 == h.slot) with
  | some x => d.resendLine h x.2
  | none =>
    let y := d.headFire h.slot
    match y.lines.find? (fun l => !l.sent && !l.ue) with
    | some l =>
      if l.codes.isSome && d.maySend h.link l.s && !(d.inhibited h.slot) then
        let d := if (d.bl h.link).tickFor.contains h.port then d.sendTick f h.link else d
        (d.setHeadFire h.slot { y with lines := y.lines.map (fun q => if q.s = l.s then { q with sent := true } else q) }).sendLine h l
      else d
    | none => d

/-! ### FIRE ordered sets (R191, R192, R214, R215) -/

/-- One head of a set: position, line, offset and blank flag. -/
structure SetHead where
  port : Nat
  s : Int
  off : Nat
  blank : Bool
deriving DecidableEq, Repr

/-- MASK of a set. -/
def setMask (l : List SetHead) : Nat := (l.map (fun x => 2 ^ x.port)).sum

/-- The ARM block of a set (R214). -/
def armBlock (q : Nat) (l : List SetHead) : List Byte :=
  let b := leBytes 1 (0xA0 + q) ++ leBytes 1 (setMask l) ++ leBytes 1 (setMask (l.filter (·.blank)))
    ++ leBytes 4 ((l.map (fun x => (x.s % 16).toNat * 16 ^ x.port)).sum)
  b ++ leBytes 1 (crc8 b)

/-- The FIRE block of a set (R214). -/
def fireBlock (q : Nat) (l : List SetHead) : List Byte :=
  leBytes 1 (0xF0 + q) ++ leBytes 1 (setMask l) ++ leBytes 6 ((l.map (fun x => x.off * 64 ^ x.port)).sum)

/-! ### Digests (R221, R222) -/

/-- The digest block of a head position. -/
def BarLink.dig (b : BarLink) (p : Nat) : Option LinkDig := Sparse.get (fun _ => none) b.digs p
def BarLink.setDig (b : BarLink) (p : Nat) (x : Option LinkDig) : BarLink :=
  { b with digs := Sparse.set (fun _ => none) b.digs p x }

/-- A DIGEST is sent for a head's block, and the same to the standby (R222, R382). -/
def Dev.sendDigest (d : Dev) (h : HeadCfg) (part : Bool) : Dev :=
  let b := d.bl h.link
  match b.dig h.port with
  | none => d
  | some x =>
    let dig : Word := ~~~ x.crc
    let first := low32 (256 * x.block)
    let b := b.setDig h.port none
    let d := d.setBl h.link { b with sent := (h.port, first, x.count, dig) :: b.sent.take 63 }
    let d := d.blSend h.link (digestFrame h.port part first x.count dig)
    if d.mirroring then
      d.twinSend (.idig [{ link := h.link, head := h.port, first := first, count := x.count, digest := dig, part := part }])
    else d

/-- The payload a line counts with (R221). -/
def Committed.counted (c : Committed) (h : HeadCfg) : List Byte :=
  if c.blank then List.replicate ((h.nozzles * h.bits + 7) / 8) 0 else c.payload

/-- A line whose ARM is sent joins its head's digest block (R221). -/
def Dev.digestLine (d : Dev) (h : HeadCfg) (c : Committed) : Dev :=
  let j := c.s / 256
  let d := match (d.bl h.link).dig h.port with
    | some x => if x.block = j then d else d.sendDigest h false
    | none => d
  let b := d.bl h.link
  let old := (b.dig h.port).getD { block := j, count := 0, crc := 0xFFFFFFFF }
  d.setBl h.link (b.setDig h.port (some { old with count := old.count + 1, crc := crc32cGo old.crc (c.counted h) }))

/-- The block of a head ends with the line just fired (R222). -/
def Dev.digestEnd (d : Dev) (h : HeadCfg) (s : Int) (step : Nat) : Dev :=
  if s / 256 ≠ (s + step) / 256 then d.sendDigest h false else d

/-! ### FIRE_ORDERED_SET_SEND -/

/-- A head's FIRE has gone: its space is free, and the row has fired a line once its last head has (R84, R195, R205). -/
def Dev.headFired (d : Dev) (f : Forme) (h : HeadCfg) (c : Committed) : Dev :=
  let x := d.headFire h.slot
  let d := d.setHeadFire h.slot { x with commit := none, fired := c.s }
  let y := d.rowFire h.row
  let upTo := match (d.drefRow h.row).step with | (_, s) :: _ => decide (c.s ≤ s) | [] => true
  let y := if upTo then { y with firedAt := max y.firedAt c.fireAt } else y
  let least := (f.rowHeads h.row).foldl (fun m g => min m (d.headFire g.slot).fired) c.s
  if least = c.s then
    (d.setRowFire h.row { y with fired := c.s }).rowFired f h.row c.s
  else d.setRowFire h.row y

/-- The committed heads of a link in its lowest block that has started. -/
def Dev.dueSet (d : Dev) (f : Forme) (k : Nat) : List (HeadCfg × Committed) :=
  let l := (f.linkHeads k).filterMap (fun h => match (d.headFire h.slot).commit with
    | some c => if c.block * 6400 ≤ d.now then some (h, c) else none
    | none => none)
  match l.foldl (fun (m : Option Nat) x => match m with | none => some x.2.block | some b => some (min b x.2.block)) none with
  | none => []
  | some b => l.filter (fun x => x.2.block == b)

/-- The ARM and FIRE of a set go out for the heads whose lines the unit may send; the lines of the rest are retired
(R191, R192, R195, R231). -/
def Dev.sendSet (d : Dev) (f : Forme) (k : Nat) : Dev :=
  let all := d.dueSet f k
  let l := all.filter (fun x => d.maySend k x.2.s)
  let d := if l.isEmpty then d
    else
      let d := if l.any (fun x => (d.bl k).tickFor.contains x.1.port) then d.sendTick f k else d
      let d := l.foldl (fun d x => d.digestLine x.1 x.2) d
      let hs : List SetHead := l.map (fun x => { port := x.1.port, s := x.2.s, off := x.2.off, blank := x.2.blank })
      let q := (d.bl k).q
      let d := (d.blSend k (armBlock q hs)).blSend k (fireBlock q hs)
      let d := d.setBl k { d.bl k with q := (q + 1) % 8 }
      let d := (d.bump (blReg k 0x38)).count (320 + 6 * k + 2) 1
      l.foldl (fun d x => d.digestEnd x.1 x.2.s (f.rowStep x.1.row)) d
  all.foldl (fun d x => d.headFired f x.1 x.2) d

/-! ### DREF steps (R285) -/

/-- LOOP_DREF_NOW and the output follow a code. -/
def Dev.driveDref (d : Dev) (r code : Nat) : Dev :=
  let x := d.drefRow r
  if x.drive then d.emit (.dref r (some code)) else d

/-- The row drives its reference while the unit owns one of its heads (R283, R380). -/
def Dev.ownsRow (d : Dev) (f : Forme) (r : Nat) : Bool :=
  (f.rowHeads r).any (fun h => flag (d.reg (blReg h.link 4)) (24 + h.port))

/-- Every output follows the ownership of its row (R283, R380). -/
def Dev.refreshDref (d : Dev) (f : Forme) : Dev :=
  f.rowsInUse.foldl (fun d r =>
    let x := d.drefRow r
    let on := d.ownsRow f r && !d.tripped
    if on = x.drive then d
    else (d.setDrefRow r { x with drive := on }).emit (.dref r (if on then some x.now else none))) d

/-- The first DREF code that waits is stepped onto its output 200 ns after the row's last fire instant before its seam. -/
def Dev.drefStep (d : Dev) (f : Forme) (r : Nat) : Dev :=
  let x := d.drefRow r
  match x.step with
  | [] => d
  | (code, s) :: rest =>
    let y := d.rowFire r
    if (f.rowHeads r).all (fun h => decide (s ≤ (d.headFire h.slot).fired)) && decide (y.firedAt + 200000 ≤ d.now) then
      let d := d.setDrefRow r { x with now := code, step := rest, stepT := d.now, last := some s }
      let d := d.driveDref r code
      let step : Int := f.rowStep r
      (f.rowHeads r).foldl (fun d h =>
        let z := d.headFire h.slot
        match z.last with
        | some (_, t) => if s + step ≤ z.done then (if z.done = s + step then d.spillAt r step z.done t
            else (let x := d.drefRow r; d.setDrefRow r { x with spill := x.spill + 1 })) else d
        | none => d) d
    else d

/-! ### The commands -/

/-- FIRE_COMMIT (R190). -/
def execFireCommit (t h : Nat) (s : State) : Res := onUnit (decide (h < 256)) t (fun d => d.fireCommit h) s
/-- LINE_FRAME_SEND (R195). -/
def execLineFrameSend (t h : Nat) (s : State) : Res :=
  onUnit (decide (h < 256)) t (fun d => match d.forme with
    | some f => (match f.head h with | some c => d.lineSend f c | none => d)
    | none => d) s
/-- DREF_STEP (R285). -/
def execDrefStep (t row : Nat) (s : State) : Res :=
  onUnit (decide (row < 16)) t (fun d => match d.forme with | some f => d.drefStep f row | none => d) s

/-! ### Snapshots (R205) -/

/-- The fraction f of R177: the position's fraction in 1/2^32 fu. -/
def Dev.firSnap (d : Dev) (h : Nat) : Dev :=
  let ws : List Word := [low32 d.p, high32 d.p, low32 (max d.fir.pmax d.p), high32 (max d.fir.pmax d.p), low32 d.posNow,
    low32 d.webRate]
  let d := ((List.range 6).zip ws).foldl (fun d (i, w) => d.setRegOf h (0x090018 + 4 * i) w) d
  d.snapNext h 0x090014

/-- A write of FIR_SNAP_CTRL. -/
def Dev.writeFirSnap (d : Dev) (w : Writer) (v : Word) : Eff :=
  d.guarded w 0x090010 (fun _ _ _ d => .ok (if flag v 0 then d.firSnap (d.window w) else d))

/-- FIR_SNAP_TAKE (R205): FIR_SNAP_CTRL is written with TAKE. -/
def execFirSnapTake (t : Nat) (w : Writer) (v : Word) (s : State) : Res := onDevE t (fun d => d.writeFirSnap w v) s

end Sys2Proof.Machine
end

