-- ==== Sys2Proof/Machine/Compare.lean ====
section
/-!
DEFINITION. Compare units as they run: arming, edges, pulses, the outputs they drive and the camera triggers (R198 to
R204), and their registers (R205).
-/
namespace Sys2Proof.Machine

/-- PC_CTRL's other fields (R205). -/
def Dev.pcOut (d : Dev) (n : Nat) : Bool := flag (d.reg (pcReg n 0)) 8
def Dev.pcLow (d : Dev) (n : Nat) : Bool := flag (d.reg (pcReg n 0)) 7

/-- The camera ports whose trigger output carries a unit's pulses (R49, R204). -/
def Forme.trigPorts (f : Forme) (n : Nat) : List Nat :=
  match f.cam with
  | some c => ((c.chans.filter (fun x => x.trig == n)).map (·.port)).eraseDups
  | none => []

/-- A trigger output is active while any unit its channels name is active (R204). -/
def Dev.trigActive (d : Dev) (f : Forme) (p : Nat) : Bool :=
  (List.range 32).any (fun n => (d.pc n).active && (f.trigPorts n).contains p)

/-- A unit's output changes, and the camera triggers with it: POSn is pin 0, a trigger pin 1 (R198, R204, R380). -/
def Dev.setActive (d : Dev) (n : Nat) (x : Bool) : Dev :=
  let ports := match d.forme with | some f => f.trigPorts n | none => []
  let was := ports.map (fun p => match d.forme with | some f => d.trigActive f p | none => false)
  let d := d.setPc n { d.pc n with active := x }
  let d := if d.pcOut n then d.drivePin 0 n (x != d.pcLow n) else d
  (ports.zip was).foldl (fun d (p, old) =>
    let new := match d.forme with | some f => d.trigActive f p | none => false
    if new = old then d else d.drivePin 1 p new) d

/-- The instant of a unit's next active edge: the prediction less ADV, placed to 1.6 ns (R202). -/
def Dev.edgeAt (d : Dev) (n : Nat) : Option Int :=
  (d.pcNext n).bind (fun x =>
    (d.predict x 1).map (fun t => roundDiv (t - 1000 * fld (d.reg (pcReg n 0x10)) 16 16) samplePs * samplePs))

/-- The hit registers latch P and TD0 time, and the counts move on (R203). -/
def Dev.pcHit (d : Dev) (n : Nat) : Dev :=
  let d := d.setReg (pcReg n 0x18) (low32 d.p)
  let d := d.setReg (pcReg n 0x1C) (high32 d.p)
  let d := d.setReg (pcReg n 0x20) (BitVec.ofNat 32 d.clockSec)
  let d := d.setReg (pcReg n 0x24) d.clockNsWord
  let d := d.bump (pcReg n 0x28)
  let st := d.reg (pcReg n 0x14)
  d.setReg (pcReg n 0x14) (windowNext st st)

/-- Every channel a unit triggers takes a hit: the values latched, and the target less O and A_d (R247, R248); a full queue
of four drops its oldest. -/
def Dev.camHits (d : Dev) (n : Nat) (x : Int) : Dev :=
  match d.forme.bind (·.cam) with
  | none => d
  | some c =>
    let o : Int := if d.pcRef n = 0 then 0 else fld (d.reg (pcReg n 8)) 0 28
    let hit : CamHit := { pos := d.p, sec := d.clockSec % 4294967296, nsw := d.clockNsWord, at_ := d.now,
                          base := x - o - d.fir.anchorNow }
    (c.chans.filter (fun y => y.trig == n)).foldl (fun d y =>
      let ch := d.camChan y.port y.vc
      let d := if ch.hits.length < 4 then d else d.bump (0x0B001C + 0x400 * y.port)
      d.setCamChan y.port y.vc { ch with hits := ch.hits.drop (ch.hits.length - 3) ++ [hit] }) d

/-- A unit goes to its next target (R200). -/
def Dev.pcAdvance (d : Dev) (n : Nat) : Dev :=
  let u := d.pc n
  match d.pcMode n with
  | 2 => d.setPc n { u with targets := u.targets.drop 1 }
  | 1 => d.setPc n { u with m := u.m + 1 }
  | _ => d.setPcState n 3

/-- COMPARE_EDGE (R202): the edge falls due; a PERIODIC target due within the pulse before it is skipped. -/
def Dev.compareEdge (d : Dev) (n : Nat) : Dev :=
  let u := d.pc n
  match d.edgeAt n, d.pcNext n with
  | some t, some x =>
    if d.pcState n = 1 && !u.waiting && !u.disarm && decide (t ≤ (d.now : Int)) then
      if d.pcMode n = 1 && u.active && decide (d.now < u.pulseEnd) then
        let d := (d.setPc n { u with skipTold := true, m := u.m + 1 }).bump (pcReg n 0x2C)
        if u.skipTold then d else d.compareLate n x
      else
        let d := d.setPc n { u with pulseEnd := d.now + 10000 * fld (d.reg (pcReg n 0x10)) 0 16 }
        (((d.setActive n true).pcHit n).camHits n x).pcAdvance n
    else d
  | _, _ => d

/-- COMPARE_PULSE_END (R202, R205): WIDTH has elapsed; a DISARM that waited for it takes effect. -/
def Dev.pulseEnd (d : Dev) (n : Nat) : Dev :=
  let u := d.pc n
  if u.active && decide (u.pulseEnd ≤ d.now) then
    let d := d.setActive n false
    if u.disarm then (d.setPcState n 0).setPc n { d.pc n with disarm := false, targets := [], line := none, m := 0 } else d
  else d

/-- PC_CTRL's MODE and REF match, and the values they use are in range (R200, R205). -/
def Dev.pcLegal (d : Dev) (n : Nat) : Bool :=
  let m := d.pcMode n
  let r := d.pcRef n
  decide (m ≤ 2) && decide (r ≤ 2) && (m == 2) == (r == 2)
    && (m != 1 || decide (64 ≤ (d.reg (pcReg n 0xC)).toNat)) && decide (1 ≤ fld (d.reg (pcReg n 0x10)) 0 16)

/-- ARM (R199, R201): the unit waits for a job where its reference needs one, else it is judged at once. A standby of
the twin arms it at a take-over (R392). -/
def Dev.pcArm (d : Dev) (n : Nat) : Eff :=
  if !(d.pcLegal n) then hostError 205
  else
    let d := d.mirrored (.compare n (d.reg (pcReg n 0)) (d.reg (pcReg n 4)) (d.reg (pcReg n 8)) (d.reg (pcReg n 0xC))
      (d.reg (pcReg n 0x10)))
    let d := d.setPcState n 1
    let d := d.setPc n { d.pc n with targets := [], line := none, m := 0, waiting := true, skipTold := false, disarm := false }
    .ok (if d.pcRef n = 0 || d.printing then d.pcJudge n else d)

/-- DISARM (R205): IDLE, after any pulse in progress. -/
def Dev.pcDisarm (d : Dev) (n : Nat) : Dev :=
  let u := d.pc n
  if u.active then d.setPc n { u with disarm := true }
  else (d.setPcState n 0).setPc n { u with targets := [], line := none, m := 0, waiting := false, disarm := false }

/-- The level POSn is driven to (R198). -/
def Dev.pcLevel (d : Dev) (n : Nat) : Option Bool := drivenLevel (d.pcOut n) (d.pc n).active (d.pcLow n)

/-- A write of PC_CTRL: its fields are kept and the output follows them; DISARM acts before ARM (log entry 25). -/
def Dev.writePcCtrl (d : Dev) (w : Writer) (n : Nat) (v : Word) : Eff :=
  d.guarded w (pcReg n 0) (fun r _ _ d =>
    let was := d.pcLevel n
    let d := d.storeReg w (pcReg n 0) r v
    let d := d.redrive 0 n was (d.pcLevel n)
    let d := if flag v 1 then d.pcDisarm n else d
    if flag v 0 then d.pcArm n else .ok d)

/-- A write of a unit's target, period or pulse: a host error while it is ARMED (R205). -/
def Dev.writePcTarget (d : Dev) (w : Writer) (n off : Nat) (v : Word) : Eff :=
  d.guarded w off (fun r _ _ d => if d.pcState n = 1 then hostError 205 else .ok (d.storeReg w off r v))

/-- Every unit returns to IDLE and every output to its inactive level as a FULL load starts (R198). -/
def Dev.pcLoadStart (d : Dev) : Dev :=
  (List.range 32).foldl (fun d n =>
    let d := if (d.pc n).active then d.setActive n false else d
    (d.setPcState n 0).setPc n .zero) d

/-- A unit number the device has. -/
def pcOk (n : Nat) : Bool := decide (n < 32)

/-- PC_ARM (R201): PC_CTRL is written with ARM. -/
def execPcArm (t : Nat) (w : Writer) (n : Nat) (v : Word) (s : State) : Res := onUnitE (pcOk n) t (fun d => d.writePcCtrl w n v) s
/-- PC_DISARM (R200): PC_CTRL is written with DISARM. -/
def execPcDisarm (t : Nat) (w : Writer) (n : Nat) (v : Word) (s : State) : Res := onUnitE (pcOk n) t (fun d => d.writePcCtrl w n v) s
/-- COMPARE_EDGE (R202). -/
def execCompareEdge (t n : Nat) (s : State) : Res := onUnit (pcOk n) t (fun d => d.compareEdge n) s
/-- COMPARE_PULSE_END (R202). -/
def execComparePulseEnd (t n : Nat) (s : State) : Res := onUnit (pcOk n) t (fun d => d.pulseEnd n) s

end Sys2Proof.Machine
end

