-- ==== Sys2Proof/Machine/Time.lean ====
section
/-!
DEFINITION. Timekeeping: the local clock and its steps (R406 to R412), PTP (R413 to R417), the two domains (R418),
time pulses (R419 to R421) and time capture (R422, R423).
-/
namespace Sys2Proof.Machine

/-- A PTP domain, a time-pulse unit and a capture input. -/
def Dev.dom (d : Dev) (i : Nat) : PtpDom := Sparse.get (fun _ => .zero) d.tk.doms i
def Dev.setDom (d : Dev) (i : Nat) (x : PtpDom) : Dev :=
  { d with tk := { d.tk with doms := Sparse.set (fun _ => .zero) d.tk.doms i x } }
def Dev.tp (d : Dev) (n : Nat) : TimePulse := Sparse.get (fun _ => .zero) d.tk.tps n
def Dev.setTp (d : Dev) (n : Nat) (x : TimePulse) : Dev :=
  { d with tk := { d.tk with tps := Sparse.set (fun _ => .zero) d.tk.tps n x } }
def Dev.tc (d : Dev) (c : Nat) : TimeCap := Sparse.get (fun _ => .zero) d.tk.tcs c
def Dev.setTc (d : Dev) (c : Nat) (x : TimeCap) : Dev :=
  { d with tk := { d.tk with tcs := Sparse.set (fun _ => .zero) d.tk.tcs c x } }

/-- Offsets of the registers of a domain, a port, a pulse unit and a capture input (R424). -/
def domReg (i o : Nat) : Nat := 0x120100 + 0x40 * i + o
def tkPort (q o : Nat) : Nat := 0x120200 + 0x20 * q + o
def tpReg (n o : Nat) : Nat := 0x120400 + 0x20 * n + o
def tcReg (c o : Nat) : Nat := 0x120600 + 0x20 * c + o

/-- The event source of the block (R472). -/
def tkSource : Nat := 0x12FF

/-- A value that saturates at 32 bits, signed. -/
def sat32 (v : Int) : Word := BitVec.ofInt 32 (clampInt (-2147483648) 2147483647 v)

/-! ### Time pulses (R419 to R421) -/

/-- The local clock in 2^-40 ns now. -/
def Dev.localNow (d : Dev) : Nat := d.clock.valAt d.now

/-- The start time of a unit, in ns, and its next target. -/
def Dev.tpStart (d : Dev) (n : Nat) : Nat :=
  ((d.reg (tpReg n 4)).toNat + fld (d.reg (tpReg n 8)) 0 16 * 4294967296) * 1000000000 + fld (d.reg (tpReg n 0xC)) 0 30
def Dev.tpPeriod (d : Dev) (n : Nat) : Nat := (d.reg (tpReg n 0x10)).toNat
def Dev.tpPeriodic (d : Dev) (n : Nat) : Bool := flag (d.reg (tpReg n 0)) 2
def Dev.tpTarget (d : Dev) (n m : Nat) : Nat := d.tpStart n + (if d.tpPeriodic n then m * d.tpPeriod n else 0)
/-- TP_STATUS.STATE: 0 IDLE, 1 ARMED, 2 MISSED, 3 DONE. -/
def Dev.tpState (d : Dev) (n : Nat) : Nat := fld (d.reg (tpReg n 0x18)) 0 3
def Dev.setTpState (d : Dev) (n v : Nat) : Dev := d.setRegFld (tpReg n 0x18) 0 3 v

/-- A target in ns is past: not later than now plus 500 ns (R420). -/
def Dev.tpPast (d : Dev) (x : Nat) : Bool := decide (x * 1099511627776 ≤ d.localNow + 500 * 1099511627776)

/-- The least m whose target is not past (R420, R421). -/
def Dev.tpLeast (d : Dev) (n : Nat) : Nat :=
  let start := d.tpStart n * 1099511627776
  let lim := d.localNow + 500 * 1099511627776
  if lim < start || d.tpPeriod n = 0 then 0 else (lim - start) / (d.tpPeriod n * 1099511627776) + 1

/-- EV_PULSE_MISSED to the owner (R421). -/
def Dev.tpMissed (d : Dev) (n : Nat) (step : Bool) : Dev :=
  (d.setTpState n 2).raiseOwner 2 n 0x0011 tkSource (BitVec.ofNat 32 (n + 256 * b2n step))
    (BitVec.ofNat 32 (d.tpTarget n 0 / 1000000000))

/-- Every armed unit is judged against the time after a step (R421). -/
def Dev.tpStep (d : Dev) (forward : Bool) : Dev :=
  (List.range 8).foldl (fun d n =>
    if d.tpState n ≠ 1 then d
    else if d.tpPeriodic n then
      let u := d.tp n
      let m := d.tpLeast n
      let d := d.setTp n { u with m := m }
      if forward then d.setRegFld (tpReg n 0x18) 8 8 (fld (d.reg (tpReg n 0x18)) 8 8 + (m - u.m)) else d
    else if forward && d.tpPast (d.tpTarget n 0) then d.tpMissed n true
    else d) d

/-- A unit's output takes a level: TPn is pin 2 (R419, R380). -/
def Dev.setTpLevel (d : Dev) (n : Nat) (x : Bool) : Dev :=
  let d := d.setTp n { d.tp n with active := x }
  if flag (d.reg (tpReg n 0)) 4 then d.drivePin 2 n (x != flag (d.reg (tpReg n 0)) 3) else d

/-- TP_EDGE (R419): the clock reaches the target of an armed unit. -/
def Dev.tpEdge (d : Dev) (n : Nat) : Dev :=
  let u := d.tp n
  if d.tpState n = 1 && !u.disarm && decide (d.tpTarget n u.m * 1099511627776 ≤ d.localNow) then
    let d := d.setTp n { u with m := u.m + 1, pulseEnd := d.now + 1000 * (d.reg (tpReg n 0x14)).toNat }
    let d := (d.setTpLevel n true).bump (tpReg n 0x1C)
    let st := d.reg (tpReg n 0x18)
    let d := d.setReg (tpReg n 0x18) (windowNext st st)
    if d.tpPeriodic n then d else d.setTpState n 3
  else d

/-- TP_PULSE_END (R419): the pulse ends, and a DISARM that waited for it acts. -/
def Dev.tpPulseEnd (d : Dev) (n : Nat) : Dev :=
  let u := d.tp n
  if u.active && decide (u.pulseEnd ≤ d.now) then
    let d := d.setTpLevel n false
    if u.disarm then (d.setTpState n 0).setTp n { d.tp n with disarm := false, m := 0 } else d
  else d

/-- The unit's values are in range (R419, R424). -/
def Dev.tpLegal (d : Dev) (n : Nat) : Bool :=
  let wd := (d.reg (tpReg n 0x14)).toNat
  decide (10 < wd) && decide (wd + 10 < d.tpPeriod n) && decide (40 ≤ d.tpPeriod n)
    && decide (fld (d.reg (tpReg n 0xC)) 0 30 < 1000000000)

/-- ARM (R420). -/
def Dev.tpArm (d : Dev) (n : Nat) : Eff :=
  if !(d.tpLegal n) then hostError 419
  else
    let d := (d.setTpState n 1).setTp n { d.tp n with m := 0, disarm := false }
    if d.tpPeriodic n then .ok (d.setTp n { d.tp n with m := d.tpLeast n })
    else .ok (if d.tpPast (d.tpTarget n 0) then d.tpMissed n false else d)

/-- DISARM (R424): IDLE, after any edge in progress. -/
def Dev.tpDisarm (d : Dev) (n : Nat) : Dev :=
  let u := d.tp n
  if u.active then d.setTp n { u with disarm := true } else (d.setTpState n 0).setTp n { u with m := 0, disarm := false }

/-- The level TPn is driven to (R419). -/
def Dev.tpLevel (d : Dev) (n : Nat) : Option Bool :=
  drivenLevel (flag (d.reg (tpReg n 0)) 4) (d.tp n).active (flag (d.reg (tpReg n 0)) 3)

/-- A write of TP_CTRL: the output follows its fields; DISARM acts before ARM (log entry 25). -/
def Dev.writeTpCtrl (d : Dev) (w : Writer) (n : Nat) (v : Word) : Eff :=
  d.guarded w (tpReg n 0) (fun r _ _ d =>
    let was := d.tpLevel n
    let d := d.storeReg w (tpReg n 0) r v
    let d := d.redrive 2 n was (d.tpLevel n)
    let d := if flag v 1 then d.tpDisarm n else d
    if flag v 0 then d.tpArm n else .ok d)

/-- A write of a unit's other registers: a host error while it is ARMED (R424). -/
def Dev.writeTpReg (d : Dev) (w : Writer) (n off : Nat) (v : Word) : Eff :=
  d.guarded w off (fun r _ _ d => if d.tpState n = 1 then hostError 424 else .ok (d.storeReg w off r v))

/-! ### The clock and its steps (R407 to R412) -/

/-- TK_STATUS.SRC: 0 none, 1 TD0, 2 TD1. -/
def Dev.tkSrc (d : Dev) : Nat := fld (d.reg 0x120004) 0 2

/-- The rate correction changes: the clock goes on from its present value. -/
def Dev.setRate (d : Dev) (y : Int) : Dev :=
  { d with clock := { d.clock with val := d.localNow, since := d.now, y := y } }

/-- No step waits any more. -/
def Dev.clearPend (d : Dev) : Dev := ({ d with tk := { d.tk with pend := none } } : Dev).setRegFld 0x120004 4 1 0

/-- A step of the clock to a value, with its cause: 1 TD0, 2 TD1, 3 host (R410). -/
def Dev.stepClock (d : Dev) (val cause : Nat) : Dev :=
  let old := d.localNow
  let epoch := (d.clock.epoch + 1) % 256
  let d : Dev := { d with clock := { d.clock with val := val, since := d.now, epoch := epoch } }
  let d : Dev := { d with tk := { d.tk with doms := d.tk.doms.map (fun (x : Nat × PtpDom) =>
    (x.1, { x.2 with sync := none, two := none, reqs := [], peer := none })) } }
  let d : Dev := { d with tk := { d.tk with doms := d.tk.doms.filter (fun x => x.2 ≠ PtpDom.zero) } }
  let d := (d.clearPend).setRegFld 0x120004 16 8 epoch
  let us : Int := ((val : Int) - old) / (1000 * 1099511627776)
  let d := d.raiseAll 0x0012 tkSource (BitVec.ofNat 32 (epoch + 256 * cause)) (sat32 us)
  d.tpStep (decide (old ≤ val))

/-- A step may be made now (R411). -/
def Dev.stepAllowed (d : Dev) : Bool := d.job.phase == .idle || d.fir.stopped

/-- The value a step of a cause sets: TK_SET, or the domain's time by its latest offset (R410, R411). -/
def Dev.stepValue (d : Dev) (cause : Nat) : Nat :=
  if cause = 3 then
    (((d.reg 0x120010).toNat + fld (d.reg 0x120014) 0 16 * 4294967296) * 1000000000 + fld (d.reg 0x120018) 0 30) * 1099511627776
  else ((d.localNow : Int) - (d.dom (cause - 1)).theta * 16777216).toNat

/-- A step is made, or waits until it may be (R411). -/
def Dev.askStep (d : Dev) (cause : Nat) : Dev :=
  if d.stepAllowed then d.stepClock (d.stepValue cause) cause
  else ({ d with tk := { d.tk with pend := some cause } } : Dev).setRegFld 0x120004 4 1 1

/-- PENDING_STEP_MADE (R411). -/
def Dev.pendingStep (d : Dev) : Dev :=
  match d.tk.pend with
  | some c => if d.stepAllowed then d.stepClock (d.stepValue c) c else d
  | none => d

/-- An offset in ns from one in 2^-16 ns. -/
def nsOf (x : Int) : Int := x / 65536

/-- A new offset of the steering source (R409, R411): the servo slews, or a step is asked for. The filter's arithmetic
is a free value (log entry 3). -/
def Dev.steer (d : Dev) (i : Nat) : Dev :=
  let theta := nsOf (d.dom i).theta
  let d := d.setReg 0x12000C (sat32 theta)
  if theta.natAbs ≤ d.tk.tstepUs * 1000 then
    let d := if d.tk.pend = some (i + 1) then d.clearPend else d
    let y := clampInt (-32768000) 32768000 (Config.servo d.free theta d.clock.y)
    ({ d with free := d.free + 1 } : Dev).setRate y
  else d.askStep (i + 1)

/-! ### The source (R408, R418) -/

/-- TK_DOM_STATUS.STATE: 0 LISTENING, 1 UNCALIBRATED, 2 LOCKED, 3 LOST. -/
def Dev.domState (d : Dev) (i : Nat) : Nat := fld (d.reg (domReg i 4)) 0 2

/-- The source the rules choose: TD0 waits out RETURN_S while TD1 steers (R408, R418). -/
def Dev.chooseSource (d : Dev) : Nat :=
  if flag (d.reg 0x120000) 1 then 0
  else if d.tkSrc = 2 && d.domState 1 = 2 then 2
  else if d.domState 0 = 2 then 1
  else if d.domState 1 = 2 then 2
  else 0

/-- The steering source changes (R411, R418): a step that waits for a domain is discarded. -/
def Dev.setSource (d : Dev) (new : Nat) : Dev :=
  let old := d.tkSrc
  if old = new then d
  else
    let d := d.setRegFld 0x120004 0 2 new
    let d := match d.tk.pend with | some 3 => d | some _ => d.clearPend | none => d
    let (w7, d) : Word × Dev := if new = 0 then d.freeWord else (sat32 (nsOf (d.dom (new - 1)).theta), d)
    d.raiseAll 0x0013 tkSource (BitVec.ofNat 32 (old + 256 * new)) w7

def Dev.reselect (d : Dev) : Dev := d.setSource d.chooseSource

/-- DOMAIN_RETURN (R418): TD0 has been LOCKED for RETURN_S seconds. -/
def Dev.domainReturn (d : Dev) : Dev :=
  match (d.dom 0).lockedAt with
  | some t =>
    if d.tkSrc = 2 && d.domState 0 = 2 && decide (t + fld (d.reg 0x120000) 8 8 * 1000000000000 ≤ d.now) then d.setSource 1 else d
  | none => d

/-- A write of TK_CTRL: HOLD acts on the source; STEP asks for a step to TK_SET (R408, R410). -/
def Dev.writeTkCtrl (d : Dev) (w : Writer) (v : Word) : Eff :=
  d.guarded w 0x120000 (fun r _ _ d =>
    if fld v 8 8 = 0 then hostError 424
    else
      let d := (d.storeReg w 0x120000 r v).reselect
      if flag v 0 then
        (if 1000000000 ≤ fld (d.reg 0x120018) 0 30 then hostError 424 else .ok (d.askStep 3))
      else .ok d)

/-! ### PTP (R413 to R417) -/

/-- The domain a message is of: TD0 or TD1 by the numbers of the last FULL load (R407, R413). -/
def Dev.domOf (d : Dev) (num : Nat) : Option Nat :=
  (List.range 2).find? (fun i => d.tk.nums.getD i 0xFF == num && num != 0xFF)

/-- RX and MASTER masks, P2P, ANN_TIMEOUT of a domain. -/
def Dev.domRx (d : Dev) (i q : Nat) : Bool := flag (d.reg (domReg i 0)) q
def Dev.domMaster (d : Dev) (i q : Nat) : Bool := flag (d.reg (domReg i 0)) (2 + q) && d.tkSrc == i + 1
def Dev.domP2p (d : Dev) (i : Nat) : Bool := flag (d.reg (domReg i 0)) 4
def Dev.annTimeout (d : Dev) (i : Nat) : Nat := fld (d.reg (domReg i 0)) 16 4

/-- A message is discarded and counted (R413, R417), or accepted and counted. -/
def Dev.ptpBad (d : Dev) (q : Nat) : Dev := d.bump (tkPort q 0x14)
def Dev.ptpGood (d : Dev) (q : Nat) : Dev := d.bump (tkPort q 0xC)

/-- A signed number of ps as 2^-16 ns. -/
def psTo16 (w : Word) : Int := sgn w * 65536 / 1000

/-- The local clock in 2^-16 ns, at an arrival and at a departure on a port (R415). -/
def Dev.stamp (d : Dev) : Int := (d.localNow / 16777216 : Nat)
def Dev.arrival (d : Dev) (q : Nat) : Int := d.stamp - psTo16 (d.reg (tkPort q 4))
def Dev.departure (d : Dev) (q : Nat) : Int := d.stamp + psTo16 (d.reg (tkPort q 8))
def Dev.asym (d : Dev) (q : Nat) : Int := psTo16 (d.reg (tkPort q 0))

/-- A time stamp of a message in 2^-16 ns. -/
def msgTime (m : PtpMsg) : Int := ((m.sec * 1000000000 + m.ns : Nat) : Int) * 65536

/-- 2^n seconds in ps, for n from -7 up. -/
def logPs (n : Int) : Nat := if n < 0 then 1000000000000 / 2 ^ n.natAbs else 1000000000000 * 2 ^ n.natAbs

/-- The device's own port identity: the EUI-64 of the first port's MAC address, and the port number (log entry 26). -/
def Dev.portIdentity (d : Dev) (q : Nat) : Nat :=
  let mac := d.host.macs.getD 0 0
  ((mac / 16777216) * 1099511627776 + 0xFFFE * 16777216 + mac % 16777216) * 65536 + q + 1

/-- A domain's state changes: since when it is LOCKED, and the source with it. -/
def Dev.setDomState (d : Dev) (i st : Nat) : Dev :=
  let d := d.setRegFld (domReg i 4) 0 2 st
  let d := d.setDom i { d.dom i with lockedAt := if st = 2 then (match (d.dom i).lockedAt with | some t => some t | none => some d.now) else none }
  d.reselect

/-- One offset measured (R414): the sixteenth locks the domain. -/
def Dev.measure (d : Dev) (i : Nat) (theta : Int) : Dev :=
  let x := d.dom i
  let d := d.setDom i { x with theta := theta, n := x.n + 1 }
  let d := d.setReg (domReg i 8) (sat32 (nsOf theta))
  let d := if d.domState i = 1 && 16 ≤ x.n + 1 then d.setDomState i 2 else d
  if d.tkSrc = i + 1 then d.steer i else d

/-- The offset of a Sync whose sent time and arrival are known (R414, R415). -/
def Dev.syncDone (d : Dev) (i q : Nat) (t1 t2 : Int) : Dev :=
  let x := d.dom i
  let d := d.setDom i { x with sync := some (t1, t2), two := none }
  d.measure i (t2 - t1 - d.asym q - x.delay)

/-- A message comes from the parent of a domain on a port that receives it. -/
def Dev.fromParent (d : Dev) (i q : Nat) (m : PtpMsg) : Bool :=
  d.domRx i q && (d.dom i).parent == some (m.src, q) && d.domState i != 0

/-- Sync (R413, R414). -/
def Dev.ptpSync (d : Dev) (q : Nat) (m : PtpMsg) : Dev :=
  match d.domOf m.dom with
  | none => d.ptpBad q
  | some i =>
    if m.logInterval < -7 || 1 < m.logInterval then d.ptpBad q
    else
      let d := d.ptpGood q
      if !(d.fromParent i q m) then d
      else
        let d := d.setDom i { d.dom i with syncAt := some d.now, syncLog := m.logInterval }
        if m.twoStep then d.setDom i { d.dom i with two := some (m.seq, d.arrival q, m.corr) }
        else d.syncDone i q ((msgTime m) + m.corr) (d.arrival q)

/-- Follow_Up completes a two-step Sync of the same sequence (R414). -/
def Dev.ptpFollowUp (d : Dev) (q : Nat) (m : PtpMsg) : Dev :=
  match d.domOf m.dom with
  | none => d.ptpBad q
  | some i =>
    let d := d.ptpGood q
    match (d.dom i).two with
    | some (seq, t2, corr) => if d.fromParent i q m && seq == m.seq then d.syncDone i q ((msgTime m) + corr + m.corr) t2 else d
    | none => d

/-- A message the device sends: its sequence number, and TK_PORT_TX. -/
def Dev.ptpSend (d : Dev) (q kind i : Nat) (time corr : Int) : Nat × Dev :=
  let key := q * 256 + kind * 16 + i
  let seq := Sparse.get (fun _ => 0) d.tk.seqs key
  let d : Dev := { d with tk := { d.tk with seqs := Sparse.set (fun _ => 0) d.tk.seqs key ((seq + 1) % 65536) } }
  let ns := (time / 65536).toNat
  let d := d.bump (tkPort q 0x10)
  (seq, d.emit (.ptp q kind (d.tk.nums.getD i 0) seq (ns / 1000000000) (ns % 1000000000) corr))

/-- An answer carries the sequence number asked with. -/
def Dev.ptpAnswer (d : Dev) (q kind i seq : Nat) (time corr : Int) : Dev :=
  let ns := (time / 65536).toNat
  (d.bump (tkPort q 0x10)).emit (.ptp q kind (d.tk.nums.getD i 0) seq (ns / 1000000000) (ns % 1000000000) corr)

/-- A master port may answer one more request in this second (R417). -/
def Dev.mayAnswer (d : Dev) (q : Nat) : Bool × Dev :=
  let (sec, n) := Sparse.get (fun _ => (0, 0)) d.tk.answered q
  let now := d.now / 1000000000000
  let n := if sec = now then n else 0
  if 256 ≤ n then (false, d)
  else (true, { d with tk := { d.tk with answered := Sparse.set (fun _ => (0, 0)) d.tk.answered q (now, n + 1) } })

/-- A Delay_Req or Pdelay_Req at a port (R416, R417): answered by a master port of its domain in its mode. The turnaround
of a Pdelay_Resp is a free value. -/
def Dev.ptpRequest (d : Dev) (q : Nat) (m : PtpMsg) (peer : Bool) : Dev :=
  match d.domOf m.dom with
  | none => d.ptpBad q
  | some i =>
    if !(d.domMaster i q) || d.domP2p i ≠ peer then d.ptpGood q
    else
      match d.mayAnswer q with
      | (false, d) => d.ptpBad q
      | (true, d) =>
        let d := d.ptpGood q
        if peer then
          let (turn, d) := d.takeFree
          d.ptpAnswer q 3 i m.seq 0 (m.corr + turn)
        else
          let t := d.arrival q
          d.ptpAnswer q 9 i m.seq t (m.corr - t % 65536)

/-- meanPathDelay is taken. -/
def Dev.setDelay (d : Dev) (i : Nat) (x : Int) : Dev :=
  (d.setDom i { d.dom i with delay := x }).setReg (domReg i 0xC) (sat32 (x * 1000 / 65536))

/-- Delay_Resp from the parent to a request of this device gives the end-to-end delay (R414). -/
def Dev.delayResp (d : Dev) (q : Nat) (m : PtpMsg) : Dev :=
  match d.domOf m.dom with
  | none => d.ptpBad q
  | some i =>
    let d := d.ptpGood q
    let x := d.dom i
    match x.reqs.find? (fun r => r.1 == q && r.2.1 == m.seq), x.sync with
    | some r, some (t1, t2) =>
      if d.fromParent i q m && !(d.domP2p i) && m.requester == d.portIdentity q then
        let d := d.setDom i { x with reqs := x.reqs.filter (fun y => y != r) }
        d.setDelay i (((t2 - t1 - d.asym q) + ((msgTime m) - r.2.2 - m.corr)) / 2)
      else d
    | _, _ => d

/-- Pdelay_Resp and Pdelay_Resp_Follow_Up give the peer delay (R414). -/
def Dev.pdelayResp (d : Dev) (q : Nat) (m : PtpMsg) : Dev :=
  match d.domOf m.dom with
  | none => d.ptpBad q
  | some i =>
    let d := d.ptpGood q
    let x := d.dom i
    if !(d.domP2p i) || !(d.domRx i q) || m.requester ≠ d.portIdentity q then d
    else if m.followUp then
      match x.peer with
      | some (seq, t1, t4, t2, corr) =>
        if seq = m.seq then
          (d.setDom i { x with peer := none }).setDelay i (((t4 - t1) - ((msgTime m) - t2) - corr - m.corr - d.asym q) / 2)
        else d
      | none => d
    else
      match x.reqs.find? (fun r => r.1 == q && r.2.1 == m.seq) with
      | some r =>
        let d := d.setDom i { x with reqs := x.reqs.filter (fun y => y != r) }
        if m.twoStep then d.setDom i { d.dom i with peer := some (m.seq, r.2.2, d.arrival q, (msgTime m), m.corr) }
        else d.setDelay i ((d.arrival q - r.2.2 - m.corr - d.asym q) / 2)
      | none => d

/-- The order of grandmasters and paths in the dataset comparison (clause 9.3.4, R413): the first difference decides. -/
def gmRank (a : AnnounceBody) (src : Nat) : List Nat :=
  [a.prio1, a.clockClass, a.accuracy, a.variance, a.prio2, a.gmId, a.steps, src]

/-- A list of numbers that stands before another. -/
def before : List Nat → List Nat → Bool
  | x :: xs, y :: ys => if x = y then before xs ys else decide (x < y)
  | _, _ => false

/-- The best of the masters heard: qualified by two Announces (R414). -/
def bestMaster (l : List PtpParent) : Option PtpParent :=
  (l.filter (fun p => decide (2 ≤ p.count))).foldl (fun acc p =>
    match acc with
    | none => some p
    | some b => if before (gmRank p.body p.src) (gmRank b.body b.src) then some p else some b) none

/-- The parent of a domain is chosen anew (R413, R414): another parent or grandmaster calibrates again. -/
def Dev.chooseParent (d : Dev) (i : Nat) : Dev :=
  let x := d.dom i
  match bestMaster x.masters with
  | none => d
  | some p =>
    let same := x.parent == some (p.src, p.port) && (match x.gm with | some g => g.gmId == p.body.gmId | none => false)
    let d := d.setDom i { x with parent := some (p.src, p.port), gm := some p.body }
    let id := beBytes 8 p.body.gmId
    let d := (d.setReg (domReg i 0x10) (BitVec.ofNat 32 (u32 id 0))).setReg (domReg i 0x14) (BitVec.ofNat 32 (u32 id 4))
    let st := d.reg (domReg i 4)
    let d := d.setReg (domReg i 4) (setFld (setFld (setFld st 4 1 p.port) 8 8 p.body.clockClass) 16 16 p.body.steps)
    if same && d.domState i ≠ 0 then d
    else (d.setDom i { d.dom i with n := 0, sync := none, syncAt := none, two := none, reqs := [], peer := none }).setDomState i 1

/-- Announce (R413, R414). -/
def Dev.ptpAnnounce (d : Dev) (q : Nat) (m : PtpMsg) (a : AnnounceBody) : Dev :=
  match d.domOf m.dom with
  | none => d.ptpBad q
  | some i =>
    let d := d.ptpGood q
    if !(d.domRx i q) || !a.ptpTimescale then d
    else
      let x := d.dom i
      let alive := x.masters.filter (fun p => decide (d.now ≤ p.at_ + d.annTimeout i * logPs p.interval))
      let old := match alive.find? (fun p => p.src == m.src && p.port == q) with | some p => p.count | none => 0
      let p : PtpParent := { src := m.src, port := q, body := a, at_ := d.now, count := old + 1, interval := m.logInterval }
      let rest := alive.filter (fun p => !(p.src == m.src && p.port == q))
      (d.setDom i { x with masters := rest ++ [p] }).chooseParent i

/-- DOMAIN_LOST (R414): the parent's Announces or Syncs are overdue; LOST leads to LISTENING at once. -/
def Dev.domainLost (d : Dev) (i : Nat) : Dev :=
  let x := d.dom i
  let ann := match x.masters.find? (fun p => x.parent == some (p.src, p.port)) with
    | some p => decide (p.at_ + d.annTimeout i * logPs p.interval ≤ d.now)
    | none => true
  let syn := match x.syncAt with | some t => decide (t + 4 * logPs x.syncLog ≤ d.now) | none => false
  if (d.domState i = 1 || d.domState i = 2) && (ann || syn) then
    ((d.bump (domReg i 0x1C)).setDom i { PtpDom.zero with theta := x.theta, delay := x.delay }).setDomState i 0
  else d

/-- DELAY_REQ_SEND (R414, R416): end to end to the parent on its port, or to the peer. -/
def Dev.delayReqSend (d : Dev) (q i : Nat) : Dev :=
  let x := d.dom i
  if !(d.domRx i q) || d.tk.nums.getD i 0xFF = 0xFF then d
  else if d.domP2p i then
    let t := d.departure q
    let (seq, d) := d.ptpSend q 2 i 0 (-(d.asym q))
    d.setDom i { d.dom i with reqs := (q, seq, t) :: x.reqs.take 15 }
  else if (match x.parent with | some (_, p) => p == q | none => false) && d.domState i ≠ 0 then
    let t := d.departure q
    let (seq, d) := d.ptpSend q 1 i t (t % 65536 - d.asym q)
    d.setDom i { d.dom i with reqs := (q, seq, t - t % 65536) :: x.reqs.take 15 }
  else d

/-- MASTER_SYNC_SEND (R416, R417). -/
def Dev.masterSync (d : Dev) (q i : Nat) : Dev :=
  if d.domMaster i q then (let t := d.departure q; (d.ptpSend q 0 i t (t % 65536)).2) else d

/-- MASTER_ANNOUNCE_SEND (R417): the parent's grandmaster data, one step further. -/
def Dev.masterAnnounce (d : Dev) (q i : Nat) : Dev :=
  match (d.dom i).gm with
  | some g =>
    if d.domMaster i q then
      let key := q * 256 + 11 * 16 + i
      let seq := Sparse.get (fun _ => 0) d.tk.seqs key
      let d : Dev := { d with tk := { d.tk with seqs := Sparse.set (fun _ => 0) d.tk.seqs key ((seq + 1) % 65536) } }
      (d.bump (tkPort q 0x10)).emit (.announce q (d.tk.nums.getD i 0) seq { g with steps := g.steps + 1 })
    else d
  | none => d

/-- A FULL forme has loaded (R407, R414): the domain numbers and the step threshold are taken from SYSCFG, and every
domain listens again. -/
def Dev.tkLoad (d : Dev) (f : Forme) : Dev :=
  let d : Dev := { d with tk := { d.tk with nums := [f.sys.td0Domain, f.sys.td1Domain], tstepUs := f.sys.tstepUs, doms := [],
                                            answered := [] } }
  let d := [0, 1].foldl (fun d i => (d.setRegFld (domReg i 4) 0 2 0).setReg (domReg i 0x1C) 0) d
  let d := [0, 1].foldl (fun d q => [0xC, 0x10, 0x14].foldl (fun d o => d.setReg (tkPort q o) 0) d) d
  let d := (List.range 8).foldl (fun d n => d.setReg (tpReg n 0x1C) 0) d
  let d := (List.range 4).foldl (fun d c => d.setReg (tcReg c 0x1C) 0) d
  d.reselect

/-! ### Snapshots and captures (R422 to R424) -/

/-- TK_SNAP_CTRL.TAKE fills the context's snapshot from one sample. -/
def Dev.tkSnap (d : Dev) (h : Nat) : Dev :=
  let ws : List Word := [BitVec.ofNat 32 d.clockSec, BitVec.ofNat 32 (d.clockSec / 4294967296 % 65536 + d.clock.epoch * 65536),
    BitVec.ofNat 32 d.clockNs, BitVec.ofNat 32 d.clockFrac, low32 d.p, high32 d.p]
  let d := ((List.range 6).zip ws).foldl (fun d (i, w) => d.setRegOf h (0x120028 + 4 * i) w) d
  d.snapNext h 0x120024

/-- A write of TK_SNAP_CTRL. -/
def Dev.writeTkSnap (d : Dev) (w : Writer) (v : Word) : Eff :=
  d.guarded w 0x120020 (fun _ _ _ d => .ok (if flag v 0 then d.tkSnap (d.window w) else d))

/-- TC_EDGE (R422): a selected edge is queued; a full queue drops it. -/
def Dev.tcEdge (d : Dev) (c : Nat) (falling : Bool) : Dev :=
  if flag (d.reg (tcReg c 0)) (b2n falling) then
    let x := d.tc c
    if 16 ≤ x.queue.length then (d.setTc c { x with ovf := true }).bump (tcReg c 0x1C)
    else d.setTc c { x with queue := x.queue ++ [{ sec := d.clockSec, ns := d.clockNs, epoch := d.clock.epoch, falling := falling, p := d.p }] }
  else d

/-- A read of TC_POP (R423): the owner's pops the oldest capture into its holding registers. -/
def Dev.tcPop (d : Dev) (w : Writer) (c : Nat) : Word × Dev :=
  let x := d.tc c
  if (d.owner 3 c).isNone || d.asHost w ≠ d.owner 3 c then (0x80000000, d)
  else
    match x.queue with
    | [] => (BitVec.ofNat 32 (0x80000000 + b2n x.ovf * 0x40000000), d.setTc c { x with ovf := false })
    | e :: rest =>
      let h := d.window w
      let ws : List Word := [BitVec.ofNat 32 e.sec, BitVec.ofNat 32 (e.sec / 4294967296 % 65536), BitVec.ofNat 32 e.ns, low32 e.p, high32 e.p]
      let d := ((List.range 5).zip ws).foldl (fun d (i, w) => d.setRegOf h (tcReg c (8 + 4 * i)) w) d
      let v := b2n x.ovf * 0x40000000 + e.epoch * 65536 + b2n e.falling * 256 + rest.length
      (BitVec.ofNat 32 v, d.setTc c { queue := rest, ovf := false })

/-! ### The commands -/

/-- A port and a domain the device has. -/
def qOk (q : Nat) : Bool := decide (q < 2)

/-- PTP_SYNC (R414). -/
def execPtpSync (t q : Nat) (m : PtpMsg) (s : State) : Res := onUnit (qOk q) t (fun d => d.ptpSync q m) s
/-- FOLLOW_UP (R414). -/
def execPtpFollowUp (t q : Nat) (m : PtpMsg) (s : State) : Res := onUnit (qOk q) t (fun d => d.ptpFollowUp q m) s
/-- DELAY_REQ (R417). -/
def execPtpDelayReq (t q : Nat) (m : PtpMsg) (s : State) : Res := onUnit (qOk q) t (fun d => d.ptpRequest q m false) s
/-- PDELAY_REQ (R416). -/
def execPtpPdelayReq (t q : Nat) (m : PtpMsg) (s : State) : Res := onUnit (qOk q) t (fun d => d.ptpRequest q m true) s
/-- DELAY_RESP (R414). -/
def execPtpDelayResp (t q : Nat) (m : PtpMsg) (s : State) : Res := onUnit (qOk q) t (fun d => d.delayResp q m) s
/-- PDELAY_RESP (R414). -/
def execPtpPdelayResp (t q : Nat) (m : PtpMsg) (s : State) : Res := onUnit (qOk q) t (fun d => d.pdelayResp q m) s
/-- ANNOUNCE (R414). -/
def execPtpAnnounce (t q : Nat) (m : PtpMsg) (a : AnnounceBody) (s : State) : Res := onUnit (qOk q) t (fun d => d.ptpAnnounce q m a) s
/-- PTP_OTHER_MESSAGE (R413): discarded and counted. -/
def execPtpOther (t q : Nat) (_m : PtpMsg) (s : State) : Res := onUnit (qOk q) t (fun d => d.ptpBad q) s
/-- DELAY_REQ_SEND (R414). -/
def execDelayReqSend (t q dom : Nat) (s : State) : Res := onUnit (qOk q && qOk dom) t (fun d => d.delayReqSend q dom) s
/-- MASTER_ANNOUNCE_SEND (R417). -/
def execMasterAnnounceSend (t q dom : Nat) (s : State) : Res := onUnit (qOk q && qOk dom) t (fun d => d.masterAnnounce q dom) s
/-- MASTER_SYNC_SEND (R417). -/
def execMasterSyncSend (t q dom : Nat) (s : State) : Res := onUnit (qOk q && qOk dom) t (fun d => d.masterSync q dom) s
/-- DOMAIN_LOST (R414). -/
def execDomainLost (t dom : Nat) (s : State) : Res := onUnit (qOk dom) t (fun d => d.domainLost dom) s
/-- DOMAIN_RETURN (R418). -/
def execDomainReturn (t : Nat) (s : State) : Res := onDev t Dev.domainReturn s
/-- TK_STEP (R410): TK_CTRL is written with STEP. -/
def execTkStep (t : Nat) (w : Writer) (v : Word) (s : State) : Res := onDevE t (fun d => d.writeTkCtrl w v) s
/-- PENDING_STEP_MADE (R411). -/
def execPendingStepMade (t : Nat) (s : State) : Res := onDev t Dev.pendingStep s
/-- TK_SNAP_TAKE (R424). -/
def execTkSnapTake (t : Nat) (w : Writer) (v : Word) (s : State) : Res := onDevE t (fun d => d.writeTkSnap w v) s
/-- TP_ARM (R420): TP_CTRL is written with ARM. -/
def execTpArm (t : Nat) (w : Writer) (n : Nat) (v : Word) (s : State) : Res := onUnitE (decide (n < 8)) t (fun d => d.writeTpCtrl w n v) s
/-- TP_DISARM (R419): TP_CTRL is written with DISARM. -/
def execTpDisarm (t : Nat) (w : Writer) (n : Nat) (v : Word) (s : State) : Res := onUnitE (decide (n < 8)) t (fun d => d.writeTpCtrl w n v) s
/-- TP_EDGE (R419). -/
def execTpEdge (t n : Nat) (s : State) : Res := onUnit (decide (n < 8)) t (fun d => d.tpEdge n) s
/-- TP_PULSE_END (R419). -/
def execTpPulseEnd (t n : Nat) (s : State) : Res := onUnit (decide (n < 8)) t (fun d => d.tpPulseEnd n) s
/-- TC_EDGE (R422). -/
def execTcEdge (t c : Nat) (falling : Bool) (s : State) : Res := onUnit (decide (c < 4)) t (fun d => d.tcEdge c falling) s
/-- TC_POP (R423): the read answers. -/
def execTcPop (t : Nat) (w : Writer) (c : Nat) (s : State) : Res :=
  onUnit (decide (c < 4)) t (fun d => let (v, d) := d.tcPop w c; d.emit (.answer w (tcReg c 4) v)) s

end Sys2Proof.Machine
end

