-- ==== Sys2Proof/Machine/Perf.lean ====
section
/-!
DEFINITION. Counters, tallies and the sampler (R322 to R330), and the end of a job with what follows from it (R86,
R222, R329).
-/
namespace Sys2Proof.Machine

/-- A counter of the pace of self-timed logic (slots, stalls, activates, latencies): the spec gives it no value, so its
reads are free values (log entry 27). -/
def paceCounter (n : Nat) : Bool :=
  (decide (n < 128) && (n % 16 == 1 || n % 16 == 2 || n % 16 == 3))
    || (decide (128 ≤ n) && decide (n < 320) && decide ((n - 128) % 24 < 16))
    || (decide (512 ≤ n) && decide (n < 576) && decide ((n - 512) % 16 < 12))
    || (decide (576 ≤ n) && decide (n < 608) && ((n - 576) % 16 == 2 || (n - 576) % 16 == 7 || (n - 576) % 16 == 13 || (n - 576) % 16 == 14))

/-- A counter of time is brought up to now (R323): a core's waits, a plane's panic, a link's low lead. -/
def Dev.settleCounter (d : Dev) (n : Nat) : Dev :=
  if n < 128 then d.settleCore (n / 16)
  else if n < 320 then (if (n - 128) % 24 = 19 then d.settlePanic ((n - 128) / 24) else d)
  else if n < 512 then (if (n - 320) % 6 = 4 then d.settleLead ((n - 320) / 6) else d)
  else d

/-- The value of counter `n` as it is read. -/
def Dev.counter (d : Dev) (n : Nat) : Nat × Dev :=
  if paceCounter n then (let (v, d) := d.takeFree; (v % 281474976710656, d))
  else (let d := d.settleCounter n; (Sparse.get (fun _ => 0) d.perf.cnt n, d))

/-- Every counter of time is brought up to now. -/
def Dev.settleAll (d : Dev) : Dev :=
  let d := (List.range 8).foldl (fun d k => (d.settleCore k).settlePanic k) d
  (List.range 32).foldl Dev.settleLead d

/-- All 640 counters in one instant. -/
def Dev.counters : Nat → Dev → List Nat × Dev
  | 0, d => ([], d)
  | k + 1, d =>
    let (l, d) := Dev.counters k d
    let (v, d) := d.counter k
    (l ++ [v], d)

/-! ### The tally (R329, R330) -/

/-- PERF_TALLY_CTRL.EN and JOBEND. -/
def Dev.tallyOn (d : Dev) : Bool := flag (d.reg 0x0F0060) 0

/-- A dump's bytes. -/
def dumpBytes (seq cause : Nat) (p : Int) (sec : Nat) (nsw : Word) (vcore : Nat) (tj : Nat) (vals : List Nat) : List Byte :=
  let h := leBytes 4 0x594C4C54 ++ leBytes 2 0x0100 ++ leBytes 2 640 ++ leBytes 4 seq ++ leBytes 1 cause ++ List.replicate 3 0
    ++ leBytes 8 (p % 18446744073709551616).toNat ++ leBytes 4 sec ++ leBytes 4 nsw.toNat ++ leBytes 2 vcore ++ leBytes 2 tj
    ++ List.replicate 24 0
  let body := vals.flatMap (leBytes 8)
  h ++ leBytes 4 (crc32c (h ++ body)).toNat ++ body

/-- A snapshot is taken, or skipped while the dump before it is still being written (R329): cause 0 period, 1 job
boundary, 2 NOW. -/
def Dev.tally (d : Dev) (cause : Nat) : Dev :=
  match d.forme.bind (fun f => f.region (fld (d.reg 0x0F0068) 0 8)) with
  | none => d
  | some r =>
    if d.perf.dump.isSome then d.bump 0x0F0078
    else
      let (vals, d) := Dev.counters 640 d
      let slots := max 1 (min (fld (d.reg 0x0F006C) 0 16) (r.size * 65536 / 5184))
      let slot := d.perf.dumps % slots
      let bs := dumpBytes (d.perf.dumps + 1) cause d.p (d.clockSec % 4294967296) d.clockNsWord (fld (d.reg 0x13000C) 0 16)
        (fld (d.reg 0x13001C) 0 16) vals
      { d with perf := { d.perf with dump := some (slot, r.base * 65536 + 5184 * slot, bs), dumps := d.perf.dumps + 1 } }

/-- TALLY_PERIOD_EXPIRE (R329). -/
def Dev.tallyPeriod (d : Dev) : Dev :=
  let next := d.perf.periodAt + fld (d.reg 0x0F0064) 0 16 * 1000000000
  if d.tallyOn && decide (next ≤ d.now) then ({ d with perf := { d.perf with periodAt := next } } : Dev).tally 0 else d

/-- TALLY_DUMP_DONE (R330): the dump stands in its region, its header last; the owner's tally source fires. -/
def Dev.tallyDone (d : Dev) : Dev :=
  match d.perf.dump with
  | none => d
  | some (slot, addr, bs) =>
    let d : Dev := { d with perf := { d.perf with dump := none } }
    let d := d.portWrite addr bs
    let d := (d.setReg 0x0F0070 (windowNext (d.reg 0x0F0070) (BitVec.ofNat 32 slot))).bump 0x0F0074
    match d.owner 9 0 with
    | some h => d.fireIrq h 2
    | none => d

/-- A write of PERF_TALLY_CTRL: EN starts the period and the count of dumps; NOW takes a snapshot (R329). -/
def Dev.writeTallyCtrl (d : Dev) (w : Writer) (v : Word) : Eff :=
  d.guarded w 0x0F0060 (fun r _ _ d =>
    let was := d.tallyOn
    let d := d.storeReg w 0x0F0060 r v
    let d : Dev := if d.tallyOn && !was then { d with perf := { d.perf with periodAt := d.now, dumps := 0 } } else d
    .ok (if flag v 2 && d.tallyOn then d.tally 2 else d))

/-- A write of PERF_TALLY_REGION: a region that is not a HOST region of the owner of class 9 is rejected (R331). -/
def Dev.writeTallyRegion (d : Dev) (w : Writer) (v : Word) : Eff :=
  d.guarded w 0x0F0068 (fun r _ _ d =>
    let i := fld v 0 8
    let ok := i == 0xFF || (match d.forme.bind (fun f => f.region i) with
      | some g => g.kind == 3 && d.owner 9 0 == some g.owner
      | none => false)
    if ok then .ok (d.storeReg w 0x0F0068 r v)
    else .ok (d.rejectWrite w 0x0F0068 (some 0xFE) (match d.forme.bind (fun f => f.region i) with | some g => g.owner | none => 0xFF)))

/-- Every counter goes to 0, and time is counted from now (R322). -/
def Dev.clearPerf (d : Dev) : Dev :=
  let d := d.settleAll
  { d with perf := { d.perf with cnt := [] } }

/-- A write of PERF_CTRL: CLEAR sets every counter to 0 (R322). -/
def Dev.writePerfCtrl (d : Dev) (w : Writer) (v : Word) : Eff :=
  d.guarded w 0x0F0000 (fun _ _ _ d => .ok (if flag v 0 then d.clearPerf else d))

/-! ### The sampler (R326 to R328) -/

/-- One step of the generator of R108. -/
def xorshift (y : Word) : Word :=
  let y := y ^^^ (y <<< 13)
  let y := y ^^^ (y >>> 17)
  y ^^^ (y <<< 5)

/-- A core's countdown is loaded (R326). -/
def Dev.loadCountdown (d : Dev) (n : Nat) : Dev :=
  let g := xorshift d.perf.gen
  let jit := fld (d.reg 0x0F0080) 16 5
  let d : Dev := { d with perf := { d.perf with gen := g } }
  d.setCore n { d.core n with countdown := (d.reg 0x0F0084).toNat % 16777216 + g.toNat % 2 ^ jit }

/-- A core is sampled. -/
def Dev.sampled (d : Dev) (n : Nat) : Bool :=
  flag (d.reg 0x0F0080) 0 && flag (d.reg 0x0F0080) (8 + n) && !d.perf.stopped

/-- ARM (R328): WIDX is cleared, the generator seeded, and the countdowns of the selected cores loaded in core order. -/
def Dev.sampArm (d : Dev) : Dev :=
  let d := d.setReg 0x0F0088 0
  let d : Dev := { d with perf := { d.perf with gen := d.reg 0x0F008C, stopped := false } }
  (List.range 8).foldl (fun d n =>
    let d := d.setCore n { d.core n with tag := none, tagNext := false }
    if flag (d.reg 0x0F0080) (8 + n) then d.loadCountdown n else d) d

/-- A write of PERF_SAMP_CTRL. -/
def Dev.writeSampCtrl (d : Dev) (w : Writer) (v : Word) : Eff :=
  d.guarded w 0x0F0080 (fun r _ _ d =>
    if 16 < fld v 16 5 then hostError 331
    else
      let d := d.storeReg w 0x0F0080 r v
      .ok (if flag v 2 then d.sampArm else d))

/-- A retired instruction counts down (R326). -/
def Dev.sampRetire (d : Dev) (n : Nat) : Dev :=
  if d.sampled n then (let c := d.core n; d.setCore n { c with countdown := c.countdown - 1 }) else d

/-- A countdown that has reached 0 tags the next instruction to issue and reloads; a core has one tagged instruction at a
time (R326). -/
def Dev.sampleDue (d : Dev) (n : Nat) : Dev :=
  let c := d.core n
  if d.sampled n && c.countdown == 0 then
    (d.setCore n { c with tagNext := c.tag.isNone }).loadCountdown n
  else d

/-- The 32 bytes of a sample record (R327). -/
def sampleBytes (t : SampTag) (n : Nat) (o : SampleObs) (sec : Nat) (nsw : Word) : List Byte :=
  leBytes 4 t.pc.toNat ++ leBytes 4 t.insn.toNat ++ leBytes 1 n ++ leBytes 1 t.flags ++ leBytes 2 (min o.fetchLat 0xFFFF)
    ++ leBytes 2 (min o.execLat 0xFFFF) ++ leBytes 2 (min o.memLat 0xFFFF) ++ leBytes 4 t.daddr.toNat
    ++ leBytes 4 t.retired.toNat ++ leBytes 4 sec ++ leBytes 4 nsw.toNat

/-- SAMPLE_RECORD_WRITE (R327, R328). -/
def Dev.sampleWrite (d : Dev) (n : Nat) (o : SampleObs) : Dev :=
  match (d.core n).tag with
  | none => d
  | some t =>
    let d := d.setCore n { d.core n with tag := none }
    if d.perf.stopped || !(flag (d.reg 0x0F0080) 0) then d
    else
      let i := (d.reg 0x0F0088).toNat
      let bs := sampleBytes t n o (d.clockSec % 4294967296) d.clockNsWord
      let d : Dev := { d with perf := { d.perf with buf := Sparse.setList sramDefault d.perf.buf (32 * (i % 1024)) bs } }
      let d := d.bump 0x0F0088
      if flag (d.reg 0x0F0080) 1 && 1024 ≤ i + 1 then { d with perf := { d.perf with stopped := true } } else d

/-! ### The end of a job -/

/-- The job ends (R86): STATE IDLE, and a snapshot where JOBEND is set (R329). -/
def Dev.finishJob (d : Dev) (f : Forme) : Dev :=
  let d := d.endJob f
  let d : Dev := { d with tw := { d.tw with resume := [], td := none } }
  if d.tallyOn && flag (d.reg 0x0F0060) 1 then d.tally 1 else d

/-- JOB_BOUNDARY (R86, R197, R222): the last digests go out as PARTIAL and the late runs still open are reported. -/
def Dev.jobBoundary (d : Dev) (f : Forme) : Dev :=
  if d.atBoundary f then
    let d := f.heads.foldl (fun d h => d.sendDigest h true) d
    let d := f.rowsInUse.foldl (fun d r => d.closeRun f r) d
    d.finishJob f
  else d

/-! ### The commands -/

/-- JOB_BOUNDARY (R86). -/
def execJobBoundary (t : Nat) (s : State) : Res := onDev t (fun d => match d.forme with | some f => d.jobBoundary f | none => d) s
/-- CLEAR_COUNTERS (R322): PERF_CTRL is written with CLEAR. -/
def execClearCounters (t : Nat) (w : Writer) (v : Word) (s : State) : Res := onDevE t (fun d => d.writePerfCtrl w v) s
/-- NOW (R329): PERF_TALLY_CTRL is written with NOW. -/
def execTallyNow (t : Nat) (w : Writer) (v : Word) (s : State) : Res := onDevE t (fun d => d.writeTallyCtrl w v) s
/-- TALLY_PERIOD_EXPIRE (R329). -/
def execTallyPeriodExpire (t : Nat) (s : State) : Res := onDev t Dev.tallyPeriod s
/-- TALLY_DUMP_DONE (R330). -/
def execTallyDumpDone (t : Nat) (s : State) : Res := onDev t Dev.tallyDone s
/-- ARM (R328): PERF_SAMP_CTRL is written with ARM. -/
def execSampArm (t : Nat) (w : Writer) (v : Word) (s : State) : Res := onDevE t (fun d => d.writeSampCtrl w v) s
/-- SAMPLE_TAG (R326). -/
def execSampleTag (t n : Nat) (s : State) : Res := onUnit (decide (n < 8)) t (fun d => d.sampleDue n) s
/-- SAMPLE_RECORD_WRITE (R327). -/
def execSampleRecordWrite (t n : Nat) (obs : SampleObs) (s : State) : Res :=
  onUnit (decide (n < 8)) t (fun d => d.sampleWrite n obs) s

end Sys2Proof.Machine
end

