-- ==== Sys2Proof/Machine/Thermal.lean ====
section
/-!
DEFINITION. Housekeeping: the round with its sensors, supplies, HK frames and read-backs (R432, R433, R470), jet inhibit
(R434), heat and the thermal trip (R436, R437), the slack governor (R429 to R431) and the plumb (R426).
-/
namespace Sys2Proof.Machine

/-! ### Sensors and supplies (R432, R470) -/

/-- A sensor's reading in 1/16 °C, rounded down; none where its fused counts are equal (R432). -/
def dieReading (c1 c2 c : Nat) : Option Int :=
  if c1 = c2 then none
  else
    let num : Int := ((c : Int) - c1) * 1280
    let den : Int := (c2 : Int) - c1
    some (480 + (if 0 < den then num / den else (-num) / (-den)))

/-- Readings of the 24 sensors. -/
def Dev.readings (d : Dev) (counts : List Nat) : List (Option Int) :=
  (List.range 24).map (fun i => let f := d.hk.fuses.getD i (0, 0); dieReading f.1 f.2 (counts.getD i 0))

/-- A reading as a 16-bit field. -/
def tempField : Option Int → Nat
  | some t => (t % 65536).toNat
  | none => 0x8000

/-- The hottest usable reading with its sensor. -/
def hottest (l : List (Option Int)) : Option (Nat × Int) :=
  ((List.range l.length).zip l).foldl (fun acc (x : Nat × Option Int) =>
    match x.2, acc with
    | some t, none => some (x.1, t)
    | some t, some b => if b.2 < t then some (x.1, t) else some b
    | none, a => a) none

/-- The coldest usable reading. -/
def coldest (l : List (Option Int)) : Option Int :=
  l.foldl (fun acc x => match x, acc with
    | some t, none => some t
    | some t, some b => some (min t b)
    | none, a => a) none

/-- Monitor limits of the eight supplies in mV, in the order of HK_SUPPLY (R491). -/
def supplyLimits : List (Nat × Nat) :=
  [(600, 925), (760, 840), (760, 840), (873, 927), (1140, 1260), (1067, 1133), (1710, 1890), (3135, 3465)]

/-- The supply has been reported out of its limits: run values from 100 up stand for that. -/
def Dev.supplyRun (d : Dev) (i : Nat) : Nat := Sparse.get (fun _ => 0) d.hk.supplyRun i
def Dev.setSupplyRun (d : Dev) (i n : Nat) : Dev :=
  { d with hk := { d.hk with supplyRun := Sparse.set (fun _ => 0) d.hk.supplyRun i n } }

/-- One supply's reading: HK_SUPPLY follows; two rounds out of limits in a row are reported, and the return (R470). -/
def Dev.judgeSupply (d : Dev) (i mv : Nat) : Dev :=
  let (lo, hi) := supplyLimits.getD i (0, 0)
  let out := decide (mv < lo) || decide (hi < mv)
  let d := d.setReg (0x1300C0 + 4 * i) (BitVec.ofNat 32 (mv % 65536 + b2n out * 2147483648))
  let run := d.supplyRun i
  if out then
    if run = 0 then d.setSupplyRun i 1
    else if run = 1 then (d.setSupplyRun i 100).raiseAll 0x0024 hkSource (BitVec.ofNat 32 i) (BitVec.ofNat 32 mv)
    else d
  else
    if run = 100 then (d.setSupplyRun i 0).raiseAll 0x0024 hkSource (BitVec.ofNat 32 (i + 256)) (BitVec.ofNat 32 mv)
    else d.setSupplyRun i 0

/-- VDD_CORE against the set point (R429, R470): VSET_FAULT after two rounds more than 25 mV off, until it follows again. -/
def Dev.judgeVset (d : Dev) (mv : Nat) : Dev :=
  let off := decide (25 < ((mv : Int) - d.vset).natAbs)
  let run := d.hk.vsetRun
  if off then
    let d : Dev := { d with hk := { d.hk with vsetRun := run + 1 } }
    if 1 ≤ run && !d.vsetFault then
      (d.setRegFld 0x130004 2 1 1).raiseAll 0x0024 hkSource 0x00000200 (BitVec.ofNat 32 mv)
    else d
  else
    let d : Dev := { d with hk := { d.hk with vsetRun := 0 } }
    if d.vsetFault then (d.setRegFld 0x130004 2 1 0).raiseAll 0x0024 hkSource 0x00000300 (BitVec.ofNat 32 mv) else d

/-- Steps 1 and 2 of a round: the die sensors and the supply monitors (R433). -/
def Dev.roundSensors (d : Dev) (obs : HkObs) : Dev :=
  let r := d.readings obs.die
  let d := ((List.range 24).zip r).foldl (fun d (i, t) => d.setReg (0x130040 + 4 * i) (BitVec.ofNat 32 (tempField t))) d
  let d := d.setReg 0x13001C (BitVec.ofNat 32 (tempField ((hottest r).map (·.2)) + 65536 * tempField (coldest r)))
  (List.range 8).foldl (fun d i => d.judgeSupply i (obs.supplies.getD i 0)) d

/-! ### HK frames, read-backs and DRAM (R237, R286, R341) -/

/-- Offset of BL_HK of a head. -/
def hkReg (h : HeadCfg) : Nat := blReg h.link (0x80 + 4 * h.port)

/-- Step 3: rounds since each head's last HK frame, and a new HK_REQ to every READY or OWNED link (R433). -/
def Dev.roundHeads (d : Dev) (f : Forme) : Dev :=
  let d := f.heads.foldl (fun d h =>
    let age := if d.hk.fresh.contains h.slot then 0 else min 255 (fld (d.reg (hkReg h)) 24 8 + 1)
    d.setRegFld (hkReg h) 24 8 age) d
  let d : Dev := { d with hk := { d.hk with fresh := [] } }
  (List.range 32).foldl (fun d k => if d.blUp k then d.blSend k (ctrlFrame 0xFF 3 []) else d) d

/-- Step 4: the read-back of every driven DREF (R286). -/
def Dev.roundDref (d : Dev) (f : Forme) (rb : List Nat) : Dev :=
  f.rowsInUse.foldl (fun d r =>
    let x := d.drefRow r
    if x.drive then
      let v := rb.getD r 0
      let bad := decide (32 < ((v : Int) - x.now).natAbs)
      let x := { x with rb := v, bad := if bad then x.bad + 1 else 0, good := if bad then 0 else x.good + 1 }
      d.setDrefRow r { x with fault := if 2 ≤ x.bad then true else if 2 ≤ x.good then false else x.fault }
    else d) d

/-- Step 5: MR4 of every READY channel; a move of more than 10 °C starts a retraining round (R341, R343). -/
def Dev.roundDram (d : Dev) (obs : HkObs) : Dev :=
  [0, 1].foldl (fun d m =>
    if d.dcReady m then
      let t := obs.dramTemp.getD m 0
      let d := d.setRegFld (dcCh m 0) 16 3 (obs.mr4.getD m 0)
      let d := d.setRegFld (dcCh m 0) 19 1 (b2n (decide (85 < t)))
      let x := d.dch m
      let d := d.setDch m { x with read := some t, temp := match x.temp with | some u => some u | none => some t }
      (match x.temp with
       | some u => if 10 < (t - u).natAbs then d.startRound m else d
       | none => d)
    else d) d

/-! ### Heat (R436, R437) -/

/-- Every shared output stands at its inactive level, then at its reset state: no unit drives any more (R436). -/
def Dev.quietOutputs (d : Dev) : Dev :=
  let d := (List.range 32).foldl (fun d n => if (d.pc n).active then d.setActive n false else d) d
  let d := (List.range 8).foldl (fun d n => if (d.tp n).active then d.setTpLevel n false else d) d
  (List.range 16).foldl (fun d r =>
    let x := d.drefRow r
    if x.drive then (d.setDrefRow r { x with drive := false, step := [] }).emit (.dref r none) else d) d

/-- Sixteen HALT blocks on a link (R436). -/
def Dev.sendHalts (k : Nat) : Nat → Dev → Dev
  | 0, d => d
  | n + 1, d => Dev.sendHalts k n (d.blSend k haltBlock)

/-- The thermal trip (R436). -/
def Dev.trip (d : Dev) (sensor : Nat) (t : Int) : Dev :=
  let d := (List.range 32).foldl (fun d k => Dev.sendHalts k 16 d) d
  let slow := d.slowAsserted
  let d := (d.quietOutputs).setRegFld 0x130004 0 1 1
  let d := if slow then d else d.drivePin 3 0 false
  let d := d.raiseAll 0x0007 hkSource (BitVec.ofNat 32 sensor) (low32 t)
  match d.forme with
  | some f => if d.printing then d.finishJob f else d
  | none => d

/-- VSET moves to a level within the ceiling (R429, R430). -/
def Dev.moveVset (d : Dev) (mv : Nat) : Dev :=
  let mv := min mv d.ceiling
  if mv = d.vset then d else (d.setRegFld 0x13000C 0 16 mv).emit (.vset mv)

/-- The ceiling is set; a ceiling below the set point brings it down at once (R430). -/
def Dev.setCeiling (d : Dev) (mv : Nat) : Dev :=
  let d := d.setRegFld 0x13000C 16 16 mv
  if mv < d.vset then d.moveVset mv else d

/-- The heat rules at a round's end (R436, R437). -/
def Dev.judgeHeat (d : Dev) (hot : Option (Nat × Int)) : Dev :=
  match hot with
  | none => { d with hk := { d.hk with heatEnf := false } }
  | some (s, t) =>
    let d := if 2000 ≤ t && !d.tripped then d.trip s t else d
    let ask := flag (d.reg 0x130004) 1
    let d := if !ask && 1600 ≤ t then (d.setRegFld 0x130004 1 1 1).setCeiling d.vset
      else if ask && t < 1520 then (d.setRegFld 0x130004 1 1 0).setCeiling 900 else d
    { d with hk := { d.hk with heatEnf := decide (1760 ≤ t) } }

/-! ### Jet inhibit (R434) -/

/-- EV_JET_INHIBIT with the last TEMP. -/
def Dev.raiseInhibit (d : Dev) (h : HeadCfg) (reason : Nat) : Dev :=
  let temp : Word := if d.hk.heard.contains h.slot then low32 (signed 16 (fld (d.reg (hkReg h)) 0 16)) else 0x00008000
  d.raiseAll 0x0005 hkSource (BitVec.ofNat 32 (h.slot + 256 * reason)) temp

/-- Why a head is outside its jetting window (R237, R434); 0 where it is inside. -/
def Dev.outsideReason (d : Dev) (h : HeadCfg) : Nat :=
  let w := d.reg (hkReg h)
  let t := signed 16 (fld w 0 16)
  if 3 ≤ fld w 24 8 then 3
  else if !(d.hk.heard.contains h.slot) then 0
  else if !(flag w 16) then 4
  else if flag w 17 then 5
  else if t < 16 * h.tLow then 1
  else if 16 * h.tHigh < t then 2
  else 0

/-- A head's rounds inside its inner window. -/
def Dev.goodRounds (d : Dev) (h : Nat) : Nat := Sparse.get (fun _ => 0) d.hk.good h

/-- A head is judged at a round's end. -/
def Dev.judgeHead (d : Dev) (h : HeadCfg) : Dev :=
  let r := d.outsideReason h
  if r ≠ 0 then
    let d := d.setGood h.slot 0
    if d.inhibited h.slot then d
    else ((d.setInhibit h.slot true).bump 0x130024).raiseInhibit h r
  else if d.inhibited h.slot then
    let t := signed 16 (fld (d.reg (hkReg h)) 0 16)
    let inner := d.hk.heard.contains h.slot && decide (16 * h.tLow + 16 ≤ t) && decide (t ≤ 16 * h.tHigh - 16)
    if !inner then d.setGood h.slot 0
    else if 1 ≤ d.goodRounds h.slot then ((d.setGood h.slot 0).setInhibit h.slot false).raiseInhibit h 0
    else d.setGood h.slot 1
  else d

/-- Every head whose link is up is judged; a unit in watch judges none (R389, R434). -/
def Dev.judgeHeads (d : Dev) (f : Forme) : Dev :=
  if !d.printPath then d else f.heads.foldl (fun d h => if d.blUp h.link then d.judgeHead h else d) d

/-! ### The round (R433) -/

/-- A flash sequence in progress is checked at a round's end: outside the window it is halted where it stands (R435, log
entry 21). -/
def Dev.roundFlash (d : Dev) : Dev :=
  if d.flashWindow then d
  else
    let d := match d.nz.save with
      | some j => if j.halted then d
        else ({ d with nz := { d.nz with save := some { j with halted := true } } } : Dev).flashBlocked 0x01
      | none => d
    match d.fm.flashJob with
    | some j => if j.halted then d
      else ({ d with fm := { d.fm with flashJob := some { j with halted := true } } } : Dev).flashBlocked (flashCode j.target)
    | none => d

/-- EV_WIRE_FAULT for illegal transitions of the round (R156). -/
def Dev.roundIllegal (d : Dev) (n : Nat) : Dev :=
  let e := d.encSide n
  let now := d.reg (0x080058 + 4 * n)
  let moved := (now - e.illegal).toNat
  let d := d.setEncSide n { e with illegal := now }
  if moved = 0 then d else d.wireFault n 2 moved

/-- The leads of the round just ended are reported and the ladder judged (R427, R438). -/
def Dev.roundLadder (d : Dev) (f : Forme) : Dev :=
  let d := d.hk.roundLead.foldl (fun d (e : Nat × Option Nat) =>
    match e.2 with | some l => d.setRegFld (0x130100 + 4 * e.1) 8 7 l | none => d) d
  let d := match deviceLead d.hk.roundLead with
    | some (l, k) => (d.setRegFld 0x130014 8 7 l).setRegFld 0x130014 16 5 k
    | none => d
  let d := if d.printPath then d.ladderRound f else d
  { d with hk := { d.hk with roundLead := [], low := false } }

/-- HK_ROUND (R433): with no forme only the sensors, the supplies and the heat rules. -/
def Dev.hkRound (d : Dev) (obs : HkObs) : Dev :=
  let d := d.roundSensors obs
  let d := d.judgeVset (obs.supplies.getD 0 0)
  let d := match d.forme with
    | some f => ((d.roundHeads f).roundDref f obs.dref).roundDram obs
    | none => d
  let d := d.judgeHeat (hottest (d.readings obs.die))
  let d := match d.forme with
    | some f => (d.judgeHeads f).roundLadder f
    | none => d
  let d := d.roundFlash
  let d := d.setReg 0x130004 (windowNext (d.reg 0x130004) (d.reg 0x130004))
  let d := d.bump 0x130020
  let d := (List.range 8).foldl (fun d n => d.signalCore n 8) d
  let d := (d.roundIllegal 0).roundIllegal 1
  let d : Dev := { d with hk := { d.hk with roundAt := d.now }, dc := { d.dc with ce := 0 } }
  d.voltageApplied.showGrace

/-! ### The governor (R430, R431) -/

/-- The floor of a power mode in mV (R431). -/
def govFloor (mode : Nat) : Nat := match mode with | 0 => 620 | 1 => 700 | _ => 900

/-- The mode's raise threshold; none in MARGIN (R431). -/
def raiseThreshold (run : RunCfg) (dmin : Nat) : Option Nat :=
  match run.powerMode with
  | 0 => some run.lWarn
  | 1 => some (run.lWarn + (dmin - run.lWarn + 1) / 2)
  | _ => none

/-- HK_CTRL.GOV_HOLD: the governor does not lower the set point (R430, the field's own words). -/
def Dev.govHold (d : Dev) : Bool := flag (d.reg 0x130000) 0

/-- Toward the floor by one step of 5 mV: down to it unless GOV_HOLD, or up to it where a mode has raised it (log
entry 28). -/
def Dev.toFloor (d : Dev) (floor : Nat) : Dev :=
  if floor < d.vset then (if d.govHold then d else d.moveVset (max floor (d.vset - 5)))
  else if d.vset < floor then d.moveVset (min floor (d.vset + 5)) else d

/-- GOV_TICK's move of the set point. -/
def Dev.govern (d : Dev) (f : Forme) (lead : Option Nat) : Dev :=
  let run := d.runCfg
  let floor := govFloor run.powerMode
  let quiet : Dev := { d with hk := { d.hk with lowerRun := 0 } }
  if d.thState = 2 then quiet.moveVset (d.vset + 20)
  else if !d.printing || !d.printPath then quiet.toFloor floor
  else if d.fir.stopped then quiet
  else
    match lead with
    | none => if d.vset < floor then quiet.toFloor floor else quiet
    | some l =>
      if l < run.lAsk then quiet.moveVset (d.vset + 20)
      else if (match raiseThreshold run f.dMin with | some t => decide (l < t) | none => false) then quiet.moveVset (d.vset + 5)
      else if d.vset < floor then quiet.toFloor floor
      else if f.dMin ≤ l + 2 then
        let n := d.hk.lowerRun + 1
        if fld (d.reg 0x130008) 16 8 ≤ n && !d.govHold then
          (if floor < d.vset then quiet.moveVset (max floor (d.vset - 5)) else quiet)
        else { d with hk := { d.hk with lowerRun := n } }
      else quiet

/-- GOV_TICK (R430): nothing moves with a VSET fault (R470), and before a forme the device holds 0.800 V (R429). -/
def Dev.govTick (d : Dev) : Dev :=
  let lead := (deviceLead d.hk.tickLead).map (·.1)
  let d : Dev := { d with hk := { d.hk with tickLead := [], tickAt := d.now } }
  match d.forme with
  | none => d
  | some f => if d.vsetFault then d.voltageApplied else (d.govern f lead).voltageApplied

/-- PLUMB_SAMPLE (R426): HK_FABRIC is the least quotient of the eight oscillators. -/
def Dev.plumb (d : Dev) (counts : List Nat) : Dev :=
  let q := (List.range 8).map (fun i =>
    let c := d.hk.oscFuses.getD i 0
    if c = 0 then 0 else counts.getD i 0 * 1024 / c)
  d.setReg 0x130018 (BitVec.ofNat 32 (min 65535 (q.foldl min (q.getD 0 0))))

/-- A write of HK_CTRL: POLICY_ASK acts on the ladder at once (R438, R443). -/
def Dev.writeHkCtrl (d : Dev) (w : Writer) (v : Word) : Eff :=
  d.guarded w 0x130000 (fun r _ _ d =>
    let d := d.storeReg w 0x130000 r v
    .ok (d.policyAsk (flag v 1)))

/-- HK_ROUND (R433). -/
def execHkRound (t : Nat) (obs : HkObs) (s : State) : Res := onDev t (fun d => d.hkRound obs) s
/-- GOV_TICK (R430). -/
def execGovTick (t : Nat) (s : State) : Res := onDev t Dev.govTick s
/-- PLUMB_SAMPLE (R426). -/
def execPlumbSample (t : Nat) (counts : List Nat) (s : State) : Res := onDev t (fun d => d.plumb counts) s

end Sys2Proof.Machine
end

