-- ==== Sys2Proof/Machine/CoreRun.lean ====
section
/-!
DEFINITION. How control cores run: exceptions (R311, R312), HALT, RESUME and START (R313), loading (R314), patches
(R315), mail (R331), timers and watchdogs (R310).
-/
namespace Sys2Proof.Machine

/-- Offset of a register of core `n` (R331). -/
def ccReg (n o : Nat) : Nat := 0x0E0000 + 0x40 * n + o

/-- A core number the device has. -/
def ccOk (n : Nat) : Bool := decide (n < 8)

/-- Microseconds since the forme loaded (R308). -/
def Dev.timerUs (d : Dev) : Nat := (d.now - d.cc.loadedAt) / 1000000

/-- The next whole-timer value after `us` whose low half is `cmp`. -/
def timerNext (cmp : Word) (us : Nat) : Nat := us + 1 + (cmp.toNat + 4294967296 - (us + 1) % 4294967296) % 4294967296

/-- An exception of core `n` (R312): `addr` goes to EADDR, `epc` is the address saved. Where no handler can take it the
core enters FAULT, its held group gone. -/
def Dev.exception (d : Dev) (n cause : Nat) (addr epc : Word) : Dev :=
  let d := d.count (16 * n + 13) 1
  let c := d.core n
  let csr : Csrs := { c.csr with cause := cause, eaddr := addr }
  if c.csr.evec ≠ 0 && !c.csr.inexc then
    let d := d.setCoreSt n .running
    d.setCore n { d.core n with csr := { csr with epc := epc, inexc := true }, pc := c.csr.evec, kickAt := d.now }
  else
    let d := d.setCoreSt n .fault
    let d := d.setCore n { d.core n with csr := csr, pc := epc, held := [] }
    (d.bump (ccReg n 0x24)).raiseOwner 8 n 0x0022 (0x0E00 + n) (BitVec.ofNat 32 cause) addr

/-- START of a core with a section and a role (R313): registers and control registers from reset, SIG.POLICY where a
policy block is in force; local memory, PATCHED and the policy halves stand (log entry 30). -/
def Dev.startCore (d : Dev) (f : Forme) (n : Nat) : Dev :=
  match f.core n with
  | none => d
  | some k =>
    if k.role = 5 then d
    else
      let d := d.setCoreSt n .running
      let c := d.core n
      let csr : Csrs := { Csrs.zero with
        patched := c.csr.patched, policyCur := c.csr.policyCur, policySeq := c.csr.policySeq,
        sig := if fld c.csr.policyCur 16 16 = 0 then 0 else 2, timerAt := timerNext 0 d.timerUs,
        mailOut := c.csr.mailOut, inSeq := c.csr.inSeq, outSeq := c.csr.outSeq }
      d.setCore n { c with s := [], v := [], pc := BitVec.ofNat 32 k.entry, csr := csr, held := [], kickAt := d.now,
                           wasWaiting := false }

/-- HALT (R313). -/
def Dev.haltCore (d : Dev) (n : Nat) : Dev :=
  let c := d.core n
  if c.st = .running || c.st = .waiting then
    let d := d.setCoreSt n .halted
    d.setCore n { d.core n with wasWaiting := c.st == .waiting, held := [], kickAt := d.now - c.kickAt }
  else d

/-- RESUME (R313): only a HALTED core goes on, where it stopped. -/
def Dev.resumeCore (d : Dev) (n : Nat) : Dev :=
  let c := d.core n
  if c.st = .halted then
    let d := d.setCoreSt n (if c.wasWaiting then .waiting else .running)
    d.setCore n { d.core n with kickAt := d.now - c.kickAt }
  else d

/-- A write of CC_CTRL: HALT, RESUME and START act in that order (log entry 31). -/
def Dev.writeCcCtrl (d : Dev) (w : Writer) (n : Nat) (v : Word) : Eff :=
  d.guarded w (ccReg n 0) (fun _ _ _ d =>
    let d := if flag v 1 then d.haltCore n else d
    let d := if flag v 2 then d.resumeCore n else d
    .ok (match d.forme with
      | some f => if flag v 0 && (d.core n).st ≠ .idle && (d.core n).csr.cause ≠ 5 then d.startCore f n else d
      | none => d))

/-- A write of CC_MAIL_IN (R331): the value, SIG.MAIL and IN_SEQ. -/
def Dev.writeMailIn (d : Dev) (w : Writer) (n : Nat) (v : Word) : Eff :=
  d.guarded w (ccReg n 0x14) (fun r _ _ d =>
    let d := d.storeReg w (ccReg n 0x14) r v
    let c := d.core n
    .ok ((d.setCore n { c with csr := { c.csr with mailIn := v, inSeq := (c.csr.inSeq + 1) % 256 } }).signalCore n 5))

/-- A FULL load fills a core's local memory (R314); a core without code has none. -/
def Dev.loadCore (d : Dev) (f : Forme) (n : Nat) : Dev :=
  match f.core n with
  | some k =>
    if k.role = 5 then d.setCore n .zero
    else
      let l := Sparse.setList sramDefault (Sparse.setList sramDefault [] 0 k.code) k.code.length k.data
      let c := d.core n
      d.setCore n { Core.zero with st := .halted, lmem := l, since := d.now, countdown := c.countdown,
                                   tagNext := c.tagNext, tag := c.tag }
  | none => d.setCore n .zero

/-- The cores of a forme just accepted: memories filled, policy blocks delivered, then all start together (R314). -/
def Dev.loadCores (d : Dev) (f : Forme) : Dev :=
  let d : Dev := { d with cc := { d.cc with recW := 0, seamLast := 0, loadedAt := d.now } }
  let d := (List.range 8).foldl (fun d n => (d.loadCore f n).setReg (ccReg n 0x24) 0) d
  let d := f.live.policy.foldl (fun d b => d.deliverPolicy f b) d
  (List.range 8).foldl (fun d n => d.startCore f n) d

/-- CC1 to CC7 are powered down in a watch state (R389), and start at a take-over or reversion (R400). -/
def Dev.sleepCores (d : Dev) : Dev :=
  (List.range 8).foldl (fun d n =>
    if n ≠ 0 && (d.core n).st ≠ .idle && (d.core n).st ≠ .watch then
      (let d := d.setCoreSt n .watch; d.setCore n { d.core n with held := [] }) else d) d
def Dev.wakeCores (d : Dev) (f : Forme) : Dev :=
  (List.range 8).foldl (fun d n => if (d.core n).st = .watch then d.startCore f n else d) d

/-- A core's recipe version (R314). -/
def Dev.recipe (d : Dev) (n : Nat) : Word := BitVec.ofNat 32 (u32 (Sparse.getList sramDefault (d.core n).lmem 0 4) 0)

/-! ### Timers (R310) -/

/-- TIMER_COMPARE: TIMER_LO reaches TIMER_CMP. A core whose power is off has no timer. -/
def Dev.timerCompare (d : Dev) (n : Nat) : Dev :=
  let c := d.core n
  if c.st = .idle || c.st = .watch || d.timerUs < c.csr.timerAt then d
  else (d.setCore n { c with csr := { c.csr with timerAt := timerNext c.csr.timerCmp d.timerUs } }).signalCore n 4

/-- WATCHDOG_EXPIRE: the limit has passed since the last kick, while the core runs or waits. -/
def Dev.watchdog (d : Dev) (n : Nat) : Dev :=
  let c := d.core n
  let lim := fld c.csr.wdog 0 16
  if (c.st = .running || c.st = .waiting) && lim ≠ 0 && decide (c.kickAt + lim * 1000000000 ≤ d.now) then
    d.exception n 7 0 c.pc
  else d

/-- WAIT_COMPLETE (R309): SIG and SIGEN have a bit in common. -/
def Dev.waitDone (d : Dev) (n : Nat) : Dev :=
  let c := d.core n
  if c.st = .waiting && (c.csr.sig &&& c.csr.sigen) ≠ 0 then d.setCoreSt n .running else d

/-! ### Patches (R315) -/

/-- A write of the local-memory window of a core: the owner of the core may patch an OEM or loop core that stands
still, in a SOLO unit; else the write is ignored. -/
def Dev.patchWrite (d : Dev) (w : Writer) (off : Nat) (v : Word) (be : BitVec 4) : Dev :=
  let n := (off - 0xC00000) / 0x40000
  if d.fullChecking then d
  else
    match d.byClass w 8 n with
    | .reject c o => d.rejectWrite w off c o
    | _ =>
      if d.standby then d.bump 0x11003C
      else
        let c := d.core n
        if 2 ≤ n && (c.st = .halted || c.st = .fault) && !d.twinned then
          let a := off % 0x40000 / 4 * 4
          let old := Sparse.getList sramDefault c.lmem a 4
          let bs := (List.range 4).map (fun i => if be.getLsbD i then BitVec.ofNat 8 (fld v (8 * i) 8) else old.getD i 0)
          d.setCore n { c with lmem := Sparse.setList sramDefault c.lmem a bs, csr := { c.csr with patched := true } }
        else d

/-- An offset in the local-memory window (R315, R482). -/
def patchOff (off : Nat) : Bool := decide (0xC00000 ≤ off) && decide (off < 0xE00000)

/-! ### The commands -/

/-- CC_HALT (R313): CC_CTRL is written with HALT. -/
def execCcHalt (t : Nat) (w : Writer) (n : Nat) (v : Word) (s : State) : Res := onUnitE (ccOk n) t (fun d => d.writeCcCtrl w n v) s
/-- CC_RESUME (R313): CC_CTRL is written with RESUME. -/
def execCcResume (t : Nat) (w : Writer) (n : Nat) (v : Word) (s : State) : Res := onUnitE (ccOk n) t (fun d => d.writeCcCtrl w n v) s
/-- CC_START (R313): CC_CTRL is written with START. -/
def execCcStart (t : Nat) (w : Writer) (n : Nat) (v : Word) (s : State) : Res := onUnitE (ccOk n) t (fun d => d.writeCcCtrl w n v) s
/-- CC_MAIL_IN (R331). -/
def execCcMailIn (t : Nat) (w : Writer) (n : Nat) (v : Word) (s : State) : Res := onUnitE (ccOk n) t (fun d => d.writeMailIn w n v) s
/-- CORE_PATCH_WRITE (R315). -/
def execCorePatchWrite (t : Nat) (w : Writer) (off : Nat) (v : Word) (s : State) : Res :=
  onUnit (patchOff off) t (fun d => d.patchWrite w off v 15) s
/-- TIMER_COMPARE (R310). -/
def execTimerCompare (t n : Nat) (s : State) : Res := onUnit (ccOk n) t (fun d => d.timerCompare n) s
/-- WATCHDOG_EXPIRE (R310). -/
def execWatchdogExpire (t n : Nat) (s : State) : Res := onUnit (ccOk n) t (fun d => d.watchdog n) s
/-- WAIT_COMPLETE (R309). -/
def execWaitComplete (t n : Nat) (s : State) : Res := onUnit (ccOk n) t (fun d => d.waitDone n) s

end Sys2Proof.Machine
end

