-- ==== Sys2Proof/Machine/LaneBase.lean ====
section
/-!
DEFINITION. What a lane does for the block it serves: the deep state and its exit (R453), and how a bar link comes out of
WATCH (R235); the updates LIVE images make (R62).
-/
namespace Sys2Proof.Machine

/-- A lane's transmitter goes into the deep state (R453). -/
def Dev.enterDeep (d : Dev) (n : Nat) : Dev :=
  (d.setPhy n 0).setLane n { d.lane n with exitAt := none }

/-- A transmitter begins to leave the deep state, which takes 1.5 ms (R453). -/
def Dev.leaveDeep (d : Dev) (n : Nat) : Dev :=
  if d.phy n = 0 && !(d.inTest n) then (d.setPhy n 3).setLane n { d.lane n with exitAt := some d.now } else d

/-- A lane in use (R450, R453): a bar link IN_USE, a twin lane under a TWIN forme, an Ethernet lane to which a context
is bound or which a PTP domain names. -/
def Dev.laneUsed (d : Dev) (n : Nat) : Bool :=
  match d.forme with
  | none => decide (34 ≤ n) && decide (n < 36) && d.boundTo 0 (n - 32)
  | some f =>
    if n < 32 then (f.link n).inUse
    else if n < 34 then f.twin.twin
    else (List.range 4).any (fun h => f.bind.getD h 0xFF == n - 32)
      || [0, 1].any (fun i => d.tk.nums.getD i 0xFF != 0xFF && (d.domRx i (n - 34) || flag (d.reg (domReg i 0)) (2 + n - 34)))

/-- A link coming out of WATCH (R235): straight to CONFIG where its receiver holds lock and a CAPS came within the last
1.1 s, else to LOCK. -/
def Dev.wakeLink (d : Dev) (f : Forme) (k : Nat) : Dev :=
  let fresh := match (d.bl k).capsAt with | some t => decide (d.now ≤ t + 1100000000000) | none => false
  if d.laneLock k && fresh then (d.setBlState k 2).negotiate f k else d.setBlState k 1

/-- The deep-state exit of a lane has taken its 1.5 ms (R453). -/
def Dev.exitDone (d : Dev) (n : Nat) : Dev :=
  match (d.lane n).exitAt with
  | some t =>
    if d.phy n = 3 && decide (t + 1500000000 ≤ d.now) then
      let d := (d.setPhy n 2).setLane n { d.lane n with exitAt := none }
      if n < 32 then
        match d.forme with
        | some f => if d.blState n = 7 then d.wakeLink f n else d.tryLock n
        | none => d
      else d
    else d
  | none => d

/-- A loss on a bar link's lane takes the link DOWN and its references with it (R235, R283, R450). -/
def Dev.laneDown (d : Dev) (k : Nat) : Dev :=
  if 1 ≤ d.blState k && d.blState k ≤ 5 then
    let d := d.linkDown k
    match d.forme with
    | some f => d.refreshDref f
    | none => d
  else d

/-- A forme's links and lanes come up (R60, R453): lanes in use leave the deep state, the rest enter it; a bar link of a
standby stands in WATCH. -/
def Dev.wakeBars (d : Dev) (f : Forme) : Dev :=
  (List.range 32).foldl (fun d k => if (f.link k).inUse then d.leaveDeep k else d) d

/-- Every bar link of a unit that becomes a standby goes to WATCH, its transmitter into the deep state (R235, R453). -/
def Dev.watchBars (d : Dev) (f : Forme) : Dev :=
  (List.range 32).foldl (fun d k =>
    if (f.link k).inUse then (let d := ((d.linkDown k).setBlState k 7); if d.inTest k then d else d.enterDeep k) else d) d

/-! ### LIVE images -/

/-- The update an accepted LIVE image makes (R62): every in-use row takes it, and every plane whose screening it
touches. -/
def liveUpdate (f : Forme) (l : LiveCfg) (dig : List Byte) (who : Nat) : Update :=
  { block := 0x03, tag := 0, by_ := who, seam := none, payload := .live l dig [], rows := f.rowsInUse, applied := [],
    planes := if l.run.isSome || !l.screen.isEmpty then f.planes.map (·.c) else [], planesDone := [] }

/-- A LIVE image is kept for the twin while its update waits (R392), and its values join those to come (R61). -/
def Dev.noteLive (d : Dev) (l : LiveCfg) (dig img : List Byte) : Dev :=
  let still := d.fm.images.filter (fun x => d.ups.any (fun u => match u.payload with | .live _ g _ => g == x.1 | _ => false))
  { d with fm := { d.fm with images := still ++ [(dig, img)], cur := d.fm.cur.merge l } }

/-- FORME_STATUS.LIVE_INFLIGHT (R63). -/
def Dev.liveInflight (d : Dev) : Nat := ((d.ups.filter (fun u => u.block == 0x03 && !u.rowsDone)).length)

end Sys2Proof.Machine
end

