-- ==== Sys2Proof/Machine/Resume.lean ====
section
/-!
DEFINITION. Taking up a job from a line on (R398, R400, R403): the resume lines, and the state of rows, planes, ports,
heads, rungs and compare units there; checkpoints as they are built and read (R394).
-/
namespace Sys2Proof.Machine

/-! ### Resume lines (R398) -/

/-- The substrate line from which a head's fire position is at least `thr`. -/
def Dev.headResume (d : Dev) (f : Forme) (h : HeadCfg) (thr : Int) : Int := -((d.firePos f h 0 - thr) / 64)

/-- U_c: the least line whose fire position at every head of the plane's front row is at least the threshold. -/
def Dev.resumeLine (d : Dev) (f : Forme) (c : Nat) (thr : Int) : Int :=
  ((f.rowHeads (2 * c)).map (fun h => d.headResume f h thr)).foldl max (-((d.job.p0 - thr) / 64))

/-- P(t_d) + r × RESUME_US / 10⁶, or P_max while r ≤ 0. -/
def Dev.resumeThreshold (d : Dev) : Int :=
  let us : Int := fld (d.reg 0x110008) 0 16
  if d.webRate ≤ 0 then max d.fir.pmax d.p else d.p + d.webRate * us / 1000000

/-! ### Taking up rows, planes and ports -/

/-- The last RESTART strip at or before a strip (R398). -/
def Dev.restartStrip (d : Dev) (base : Nat) : Nat → Nat
  | 0 => 0
  | j + 1 =>
    let off := u32 (d.dramRead (base + 64 + 4 * (j + 1)) 4) 0 * 64
    if bit (u8 (d.dramRead (base + off) 16) 6) 1 then j + 1 else d.restartStrip base j

/-- A plane's port stands before the image line that substrate line `u`, or the next image line, comes from (R91). -/
def Dev.resumePort (d : Dev) (f : Forme) (p : PlaneCfg) (u : Int) : Dev :=
  let s := if (d.job.imageAt u).isSome then u else d.job.nextImage (u - 1)
  match d.job.imageAt s with
  | none => d.setPort p.c { Swath.empty with rep := d.job.reps.length }
  | some (k, r) =>
    let i := ((s - r.b) / (f.fy p : Int)).toNat
    match (d.queue p.c).entries[k]? with
    | none => d.setPort p.c { Swath.empty with rep := k }
    | some e =>
      let base := d.jobBase f p.c + e.image * 64
      let j := d.restartStrip base (i / 32)
      let off := u32 (d.dramRead (base + 64 + 4 * j) 4) 0 * 64
      d.setPort p.c { Swath.empty with rep := k, strip := j, fetched := if j = 0 then 0 else off, skip := i - 32 * j }

/-- A plane's screening starts at a line, in the state in force there, with error rows from the seed (R400). -/
def Dev.resumePlane (d : Dev) (f : Forme) (p : PlaneCfg) (u : Int) : Dev :=
  let d := d.planeSeams f p u
  let pl : ScrPlane := { d.plane p.c with next := u, cur := [], curLine := none, carry := [], carryLine := 0, ring := [] }
  let pl := if pl.mode p.c = 1 then d.regenerate f p u pl else pl
  (d.setPlane p.c pl).resumePort f p u

/-- A row stands before its first line at or after a line: every update up to that line applied, corrections equal to
their targets (R182, R400). -/
def Dev.resumeRow (d : Dev) (f : Forme) (r : Nat) (u : Int) : Dev :=
  let s := f.rowLine r u
  let before := s - f.rowStep r
  let d := (d.setPrep r before).applySeams f r s
  let x := d.rowFire r
  let d := d.setRowFire r { x with c := x.tgt + x.anchor, run := none, fired := before }
  let d := (f.rowHeads r).foldl (fun d h =>
    let y := d.headFire h.slot
    d.setHeadFire h.slot { y with e := y.tgt, lines := [], last := none, commit := none, done := before, fired := before }) d
  d.rowFired f r before

/-- Every plane is taken up from its resume line. -/
def Dev.resumeAt (d : Dev) (f : Forme) (u : Nat → Int) : Dev :=
  let d := f.rowsInUse.foldl (fun d r => d.resumeRow f r (u (r / 2))) d
  f.planes.foldl (fun d p => d.resumePlane f p (u p.c)) d

/-! ### Checkpoints (R394) -/

/-- SCR_MODE_NOW (R119). -/
def Dev.scrModeNow (d : Dev) : Word :=
  match d.forme with
  | none => 0
  | some f => BitVec.ofNat 32 ((f.planes.map (fun p =>
      ((d.plane p.c).mode p.c + 1 + 8 * b2n (usesFallback p (d.plane p.c).rungs)) * 16 ^ p.c)).sum)

/-- The live digest with the images the most upstream row has applied (R394, R395). -/
def Dev.appliedDigest (d : Dev) (f : Forme) : List Byte :=
  let wait := d.ups.filter (fun u => u.block == 0x03 && u.seam.isSome
    && !(match f.upstream f.rowsInUse with | some r => u.applied.contains r | none => true))
  ((d.fm.liveDigest :: d.fm.oldDigests)[wait.length]?).getD d.fm.liveDigest

/-- The live digest with the images whose seam a checkpoint covers (R395). -/
def Dev.coveredDigest (d : Dev) (seam : Word) : List Byte :=
  let wait := d.ups.filter (fun u => u.block == 0x03 &&
    (match u.seam.bind d.job.seamLine with | some s => decide (0 < lineDiff (low32 s) seam) | none => false))
  ((d.fm.liveDigest :: d.fm.oldDigests)[wait.length]?).getD d.fm.liveDigest

/-- The TEMP field of a head slot: its last HK TEMP, or 0x8000 outside the jetting window (R237, R394). -/
def Dev.ckptTemp (d : Dev) (f : Forme) (slot : Nat) : Nat :=
  match f.head slot with
  | some h => if d.inhibited slot || !(d.hk.heard.contains slot) then 0x8000 else fld (d.reg (hkReg h)) 0 16
  | none => 0x8000

/-- The unit's claim number: the highest it holds on an OWNED link. -/
def Dev.ownClaim (d : Dev) : Nat :=
  ((List.range 32).map (fun k => if d.blState k = 5 then (d.bl k).own else 0)).foldl max 0

/-- The bytes of a checkpoint. -/
def Dev.ckptBytes (d : Dev) (f : Forme) (seq : Word) : List Byte :=
  let k := match d.job.imageAt (d.upLine f) with
    | some (k, _) => k
    | none => (d.job.reps.filter (fun r => decide (r.b ≤ d.upLine f))).length - 1
  let b := leBytes 1 0x43 ++ leBytes 1 (b2n d.printing + 2 * b2n d.fir.stopped) ++ leBytes 1 (fld (d.reg 0x130010) 0 8)
    ++ leBytes 1 0 ++ leBytes 4 seq.toNat ++ leBytes 8 (d.job.p0 % 18446744073709551616).toNat
    ++ leBytes 8 (max d.fir.pmax d.p % 18446744073709551616).toNat ++ leBytes 4 (low32 d.fir.anchorTgt).toNat
    ++ leBytes 4 d.fir.gain ++ leBytes 4 k ++ leBytes 4 d.job.dryLines ++ padTo 32 0 (d.appliedDigest f)
    ++ (List.range 16).flatMap (fun r => leBytes 4 (d.rowFire r).seam.toNat)
    ++ leBytes 4 (((List.range 32).map (fun n => if d.pcState n = 1 then 2 ^ n else 0)).sum)
    ++ leBytes 4 d.scrModeNow.toNat ++ leBytes 4 (d.reg 0x070028).toNat ++ leBytes 5 d.ownClaim ++ List.replicate 7 0
    ++ (List.range 256).flatMap (fun h => leBytes 2 (d.ckptTemp f h))
  framed b

/-- Fields of a checkpoint that the standby reads. -/
def ckptRunning (b : List Byte) : Bool := bit (u8 b 1) 0
def ckptP0 (b : List Byte) : Int := signed 64 (u64 b 8)
def ckptPmax (b : List Byte) : Int := signed 64 (u64 b 0x10)
def ckptSeam (b : List Byte) (r : Nat) : Word := BitVec.ofNat 32 (u32 b (0x48 + 4 * r))
def ckptTempOf (b : List Byte) (h : Nat) : Nat := u16 b (0xA0 + 2 * h)

/-! ### What a checkpoint gives the unit that takes over (R400) -/

/-- Throttling at the rung of the checkpoint (R67, R400). -/
def Dev.takeRungs (d : Dev) (f : Forme) (b : List Byte) : Dev :=
  let byte := u8 b 2
  let n := byte / 4 % 8
  let taken := ((List.range n).map (fun i => n - i)).map (fun r => (r, r == 1 || d.rungActs f r))
  let d : Dev := { d with hk := { d.hk with taken := taken, waiting := false, applied := some d.now, base := d.now } }
  let d := d.setThrottle (byte % 4) (byte / 32)
  let m := rungMask taken
  let d := f.rowsInUse.foldl (fun d r => d.setRowFire r { d.rowFire r with rungs := m }) d
  f.planes.foldl (fun d p => d.setPlane p.c { d.plane p.c with rungs := m }) d

/-- Heads released or inhibited as the checkpoint shows them (R400, R434). -/
def Dev.takeTemps (d : Dev) (f : Forme) (b : List Byte) : Dev :=
  f.heads.foldl (fun d h =>
    let v := ckptTempOf b h.slot
    if v = 0x8000 then (d.setInhibit h.slot true).setGood h.slot 0
    else
      let d : Dev := { d with hk := { d.hk with heard := if d.hk.heard.contains h.slot then d.hk.heard else h.slot :: d.hk.heard } }
      (d.setRegFld (hkReg h) 0 16 v).setInhibit h.slot false) d

/-- Compare units of PC_ARMED are armed; a target passed since then follows R201. -/
def Dev.takeCompares (d : Dev) (b : List Byte) : Dev :=
  (List.range 32).foldl (fun d n =>
    if bit (u32 b 0x88) n && d.pcState n ≠ 1 then (d.setPcState n 1).pcJudge n else d) d

end Sys2Proof.Machine
end

