-- ==== Sys2Proof/Machine/Twin.lean ====
section
/-!
DEFINITION. The twin: links and frames, pair formation and states, baseline and mirrored changes, position, watching
the endpoints, take-over and reversion (R379 to R405), and ECHO frames at the device (R224, R230, R231).
-/
namespace Sys2Proof.Machine

/-- The source of every twin event (R404, R472). -/
def twSource : Nat := 0x11FF

/-- Offset of a register of twin link `q` (R405). -/
def twLink (q o : Nat) : Nat := 0x110100 + 0x10 * q + o

/-- A twin link number the device has. -/
def twOk (q : Nat) : Bool := decide (q < 2)

/-- A twin link. -/
def Dev.twin (d : Dev) (q : Nat) : TwinPort := Sparse.get (fun _ => .zero) d.tw.ports q
def Dev.setTwin (d : Dev) (q : Nat) (x : TwinPort) : Dev :=
  { d with tw := { d.tw with ports := Sparse.set (fun _ => .zero) d.tw.ports q x } }

/-- TW_STATUS bits: READY, STALE, SUSPECT, FORCED, HOME, POS_SYNC (R405). -/
def Dev.twBit (d : Dev) (b : Nat) : Bool := flag (d.reg 0x110004) b
def Dev.setTwBit (d : Dev) (b : Nat) (x : Bool) : Dev := d.setReg 0x110004 (setFlag (d.reg 0x110004) b x)

/-- EV_TWIN_MISMATCH of a kind (R404). -/
def Dev.twinMismatch (d : Dev) (kind : Nat) (w7 : Word) : Dev := d.raiseAll 0x001D twSource (BitVec.ofNat 32 kind) w7

/-! ### Frames out (R382) -/

/-- The twin transmitter of a link runs and its lane has lock. -/
def Dev.twLive (d : Dev) (q : Nat) : Bool := d.phy (32 + q) == 2 && d.laneLock (32 + q)

/-- A frame that carries no sequence number leaves on a link (log entry 32). -/
def Dev.twinOut (d : Dev) (q : Nat) (x : TwinFrame) : Dev :=
  if d.twLive q then d.emit (.twinFrame q none x) else d

/-- The contents of a HELLO. -/
def Dev.helloMsg (d : Dev) (f : Forme) : Hello :=
  { rank := f.twin.rank, state := d.twState, twin := f.twin.twin, force := f.twin.force, base := d.fm.baseDigest,
    live := d.fm.liveDigest, versions := (List.range 8).map d.recipe, epoch := (d.reg 0x11000C).toNat,
    claim := d.ownClaim, lastCause := d.tw.tookCause }

/-- A HELLO goes out on each twin link (R384). -/
def Dev.sendHellos (d : Dev) (f : Forme) : Dev :=
  if f.twin.twin then [0, 1].foldl (fun d q => d.twinOut q (.hello (d.helloMsg f))) d else d

/-! ### States (R385, R388) -/

/-- The role of a state: 0 SOLO, 1 ACTIVE, 2 STANDBY. -/
def twRole (st : Nat) : Nat := if st = 0 then 0 else if st = 2 || st = 3 || st = 8 then 1 else 2

/-- READY follows WATCH and POS_SYNC, and since when it holds (R388, R391). -/
def Dev.judgeReady (d : Dev) : Dev :=
  let on := d.twState == 5 && d.twBit 15
  let d : Dev := { d with tw := { d.tw with readySince := if on then (if d.tw.readySince.isSome then d.tw.readySince else some d.now)
                                                       else if d.twState == 9 then d.tw.readySince else none } }
  d.setTwBit 10 (on || (d.twState == 6 && d.twBit 10))

/-- The unit enters a twin state: STATE and ROLE, the job home (R381; not by PAIRING, log entry 60), HELLO on both links
(R384). -/
def Dev.setTwState (d : Dev) (f : Forme) (st : Nat) : Dev :=
  let d := (d.setRegFld 0x110004 0 4 st).setRegFld 0x110004 4 2 (twRole st)
  let d := d.setTwBit 11 (st == 6)
  let d := if twRole st = 2 ∧ st ≠ 1 then d.setTwBit 14 true else d
  d.judgeReady.sendHellos f

/-- The print path goes to sleep with the links and cores (R389). -/
def Dev.sleepUnit (d : Dev) (f : Forme) : Dev :=
  let d := f.heads.foldl (fun d h =>
    d.setHeadFire h.slot { d.headFire h.slot with lines := [], commit := none }) d
  ((d.watchBars f).sleepCores).refreshDref f

/-- The unit becomes active: links and cores wake; it claims with an epoch above every one seen (R386, R399). -/
def Dev.wakeUnit (d : Dev) (f : Forme) : Dev :=
  let d : Dev := { d with tw := { d.tw with epoch := some ((d.reg 0x11000C).toNat + 1), claimed := [], told := false,
                                            deposed := false } }
  (d.wakeCores f).wakeBars f

/-- SYNC is entered (R388, R392): what the unit mirrors is to come anew. -/
def Dev.enterSync (d : Dev) (f : Forme) : Dev :=
  let d := d.dropSwath
  let d : Dev := { d with
    tw := { d.tw with baseline := false, ckptOk := false, ckpt := none, idigs := [], echoes := [], mism := [], overdue := [],
                      fails := [], td := none, resume := [], claimed := [], seam := none, dkRun := 0, dk := none, posBad := 0 },
    ups := [],
    job := { d.job with phase := .idle, queues := [], reps := [], stop := false, endLine := none, dryFrom := none,
                        doneRows := [], prep := [] } }
  let d := d.setTwBit 15 false
  (d.sleepUnit f).setTwState f 4

/-- MISMATCH is entered (R386, R387, R395). -/
def Dev.enterMismatch (d : Dev) (f : Forme) : Dev := (d.sleepUnit f).setTwState f 7

/-- PAIRING is entered again (R388). -/
def Dev.enterPairing (d : Dev) (f : Forme) : Dev := (d.sleepUnit f).setTwState f 1

/-- A PAIRING unit becomes active alone: cause 4 ALONE written, 5 pairing timeout (R388, R404); TW_TAKEOVERS counts
it (log entry 62). -/
def Dev.enterAlone (d : Dev) (f : Forme) (cause : Nat) : Dev :=
  let d := d.setReg 0x110024 (BitVec.ofNat 32 (cause + 0xFF00))
  let d : Dev := ({ d with tw := { d.tw with tookCause := cause } } : Dev).bump 0x110028
  (d.wakeUnit f).setTwState f 2

/-! ### Links up and down (R384) -/

/-- EV_TWIN_LINK_DOWN: the link bits, and bit 8 for heartbeat loss (R404). -/
def Dev.twinLinkEvent (d : Dev) : Dev :=
  let beat := !d.tw.beatHeard || decide (d.tw.lastBeat + 1000000000 ≤ d.now)
  d.raiseAll 0x001E twSource (BitVec.ofNat 32 (b2n (!(d.twUp 0)) + 2 * b2n (!(d.twUp 1)) + 256 * b2n beat)) 0

/-- A twin link comes up or goes down. -/
def Dev.setTwUp (d : Dev) (q : Nat) (x : Bool) : Dev :=
  if d.twUp q = x then d
  else ((d.setTwBit (8 + q) x).setReg (twLink q 0) (setFlag (d.reg (twLink q 0)) 1 x)).twinLinkEvent

/-- A twin link is down: no valid HELLO counts any more. -/
def Dev.twinDown (d : Dev) (q : Nat) : Dev := (d.setTwin q { d.twin q with heard := false }).setTwUp q false

/-- A valid frame has come on a link; numbering starts anew with the first HELLO after both links were down (log
entry 33). -/
def Dev.twinHeard (d : Dev) (q : Nat) (hello : Bool) : Dev :=
  let x := d.twin q
  let d := d.setTwin q { x with last := d.now, heard := x.heard || hello }
  if hello && !(d.twUp q) && d.laneLock (32 + q) then
    let d : Dev := if d.twPort.isSome then d
      else { d with tw := { d.tw with nextSeq := 1, applied := 0, unacked := [], waiting := [], ahead := [] } }
    d.setTwUp q true
  else d

/-- The unit is of a pair: the forme is a TWIN one. -/
def Dev.twinForme (d : Dev) : Option Forme :=
  match d.forme with
  | some f => if f.twin.twin then some f else none
  | none => none

/-! ### The baseline (R392) -/

/-- The gutter word of an entry. -/
def QEntry.gutterWord (e : QEntry) : Word := BitVec.ofNat 32 (e.gutter + 65536 * b2n e.last)

/-- The images that unretired entries of a plane name are sent as they stand in the job home. -/
def Dev.baseImages (d : Dev) (f : Forme) (c : Nat) : Dev :=
  match f.jobRegion c with
  | none => d
  | some r =>
    let q := d.queue c
    ((q.entries.drop q.done).map (·.image)).eraseDups.foldl (fun d img =>
      let n := d.imageSpan f c img
      d.mirrorBursts (f.homeOffset r.id + img * 64) (chunks 1984 (d.dramRead (d.homeOf f r + img * 64) n))) d

/-- The baseline is sent to a peer that has entered SYNC. -/
def Dev.sendBaseline (d : Dev) (f : Forme) : Dev :=
  let d := f.heads.foldl (fun d h =>
    let d := (List.range h.nozzles).foldl (fun d i =>
      d.twinSend (.state (.word (4096 * h.slot + i) (Sparse.get nzDefault d.nz.table (4096 * h.slot + i))))) d
    d.twinSend (.state (.word (0x100000 + h.slot) (Sparse.get nzHeadDefault d.nz.heads h.slot)))) d
  let d := f.planesInUse.foldl (fun d c =>
    (d.queue c).entries.foldl (fun d e => d.twinSend (.state (.queuePost c (BitVec.ofNat 32 e.image) e.gutterWord))) d) d
  let d := ((List.range d.job.reps.length).zip d.job.reps).foldl (fun d (k, r) =>
    d.twinSend (.state (.repeatStart k r.b r.n r.g))) d
  let d := match d.job.endLine with
    | some e => d.twinSend (.state (.jobEnd e))
    | none => d
  let d := (List.range 32).foldl (fun d n =>
    d.twinSend (.state (.compare n (d.reg (pcReg n 0)) (d.reg (pcReg n 4)) (d.reg (pcReg n 8)) (d.reg (pcReg n 0xC))
      (d.reg (pcReg n 0x10))))) d
  let d := (d.ups.filter (fun u => u.seam.isSome)).foldl (fun d u => d.mirrorUpdate u) d
  let d := f.planesInUse.foldl (fun d c => d.baseImages f c) d
  d.twinSend (.state .baselineDone)

/-! ### Pair formation (R386, R387) -/

/-- A state that prints (R385). -/
def twPrints (st : Nat) : Bool := twRole st == 1

/-- What differs between two units: 1 base digest, 2 recipe version with its core, 4 rank. -/
def helloDiff (a b : Hello) : Option (Nat × Nat) :=
  if a.rank = b.rank then some (4, 0)
  else if a.base ≠ b.base then some (1, 0)
  else (((List.range 8).find? (fun n => a.versions.getD n 0 != b.versions.getD n 0)).map (fun n => (2, n)))

/-- The line from which a unit of a pair hands heads over: the next seam, for claims while a job runs (R386, R403). -/
def Dev.nextSeamLine (d : Dev) (f : Forme) : Option Int :=
  if d.printing then (d.nextSeam f f.rowsInUse).bind d.job.seamLine else none

/-- Step 4: the unit of the higher claim claims the other's links at its next seam. -/
def Dev.claimRest (d : Dev) (f : Forme) : Dev :=
  let d : Dev := { d with tw := { d.tw with epoch := some ((d.reg 0x11000C).toNat + 1) } }
  (List.range 32).foldl (fun d k =>
    if d.blState k = 4 then
      (match d.nextSeamLine f with
       | some s => d.sendClaim k 0 (d.nextClaim f k) s
       | none => d.sendClaim k 1 (d.nextClaim f k) 0)
    else d) d

/-- The states that steps 3 to 5 give; `whole` where nothing stands against a pair. -/
def Dev.formRoles (d : Dev) (f : Forme) (m : Hello) (whole : Bool) : Dev :=
  let mine := d.ownClaim
  match d.twState with
  | 1 =>
    if 0 < m.claim then d.enterSync f
    else if f.twin.rank = 0x80 then (d.wakeUnit f).setTwState f (if whole then 3 else 2)
    else d.enterSync f
  | 6 => d.enterSync f
  | 2 | 3 | 8 => if 0 < mine && 0 < m.claim && m.claim < mine && twPrints m.state then d.claimRest f else d
  | _ => d

/-- A mismatch met at a HELLO (R386 steps 1 and 2): the unit that does not print enters MISMATCH, unless it is
forced. -/
def Dev.formMismatch (d : Dev) (f : Forme) (m : Hello) (kind core : Nat) : Dev :=
  let loses := !(twPrints d.twState) && (kind = 4 || twPrints m.state || f.twin.rank = 0x40)
  if !loses then
    (if d.twState = 3 && kind = 4 then d.setTwState f 2
     else if kind = 4 then d else d.formRoles f m false)
  else if kind ≠ 4 && f.twin.force then (d.setTwBit 13 true).formRoles f m true
  else if d.twState = 7 then d
  else (d.twinMismatch kind (BitVec.ofNat 32 core)).enterMismatch f

/-- HELLO arrives (R386, R388). -/
def Dev.hello (d : Dev) (f : Forme) (q : Nat) (m : Hello) : Dev :=
  let d := d.twinHeard q true
  let was := d.tw.peer
  let d := d.setReg 0x110010 (BitVec.ofNat 32 (m.rank + 256 * m.state))
  let d := d.setReg 0x11000C (BitVec.ofNat 32 (max (d.reg 0x11000C).toNat (max m.epoch (m.claim / 256))))
  let d : Dev := { d with tw := { d.tw with peer := some m } }
  let d := if d.tw.deposed && m.lastCause = 1 then d.setTwBit 12 true else d
  let d := if was.isNone then d.sendHellos f else d
  if !m.twin then d
  else
    let d := match helloDiff (d.helloMsg f) m with
      | some (kind, core) => d.formMismatch f m kind core
      | none => d.formRoles f m true
    let fresh := match was with | some p => p.state != 4 | none => true
    if (d.twState = 2 || d.twState = 3) && m.state = 4 && fresh then (d.setTwState f 3).sendBaseline f else d

/-! ### Applying numbered frames in order (R382) -/

/-- A seam line as the unit's own job names it. -/
def Dev.seamRefOf (d : Dev) (s : Int) : SeamRef :=
  match (List.range d.job.reps.length).find? (fun k => 1 ≤ k && (d.job.reps[k]?.map (·.b)) == some s) with
  | some k => .repStart k s
  | none => if s = d.job.nextB && 1 ≤ d.job.reps.length then .repStart d.job.reps.length s else .line s

/-- A mirrored batch is staged with its seam, or applied at once (R392, R395). -/
def Dev.mirrorBatch (d : Dev) (f : Forme) (kind tag : Nat) (seam : Option Int) (recs : List (Word × Word)) : Dev :=
  let p : Payload := match kind with
    | 0x07 => .nozzle (recs.map (fun rc => (rc.1.toNat, rc.2)))
    | 0x09 => .reg recs
    | _ => .dref (recs.map (fun rc => (rc.1.toNat, rc.2.toNat)))
  let rows := match p with
    | .nozzle rs => f.nzRows rs
    | .reg rs => f.regRows rs
    | .dref rs => f.rowsInUse.filter (fun r => rs.any (fun rc => rc.1 == r))
    | _ => []
  let u : Update := { block := kind, tag := tag, by_ := 0xFF, seam := seam.map d.seamRefOf, payload := p, rows := rows,
                      applied := [], planes := [], planesDone := [] }
  match u.seam with
  | some s => ({ d with ups := d.ups ++ [u] } : Dev).holdGains s p
  | none => d.applyNow f u

/-- A mirrored LIVE image is checked, bound to its seam or applied, and its digest taken in (R395). -/
def Dev.mirrorLive (d : Dev) (f : Forme) (seam : Option Int) (img : List Byte) : Dev :=
  match checkLive d.fm.keys f d.fm.cur d.fm.baseDigest img with
  | .error _ => d
  | .ok l =>
    let dig := imageDigest img
    let d := d.noteLive l dig img
    let u := liveUpdate f l dig 0xFF
    match seam with
    | some s =>
      let (d, p) := d.onBound u.payload
      { d with ups := d.ups ++ [{ u with seam := some (d.seamRefOf s), payload := p }] }
    | none => d.applyNow f u

/-- A unit in SYNC that has everything enters WATCH (R388). -/
def Dev.tryWatch (d : Dev) (f : Forme) : Dev :=
  if d.twState = 4 && d.tw.baseline && d.tw.ckptOk && d.twBit 15 then d.setTwState f 5 else d

/-- One STATE item applied (R392). -/
def Dev.stateItem (d : Dev) (f : Forme) (x : TwinItem) : Dev :=
  match x with
  | .word i w =>
    if i < 0x100000 then { d with nz := { d.nz with table := Sparse.set nzDefault d.nz.table i w } }
    else { d with nz := { d.nz with heads := Sparse.set nzHeadDefault d.nz.heads (i - 0x100000) w } }
  | .batch kind tag seam recs => d.mirrorBatch f kind tag seam recs
  | .live seam img => d.mirrorLive f seam img
  | .queuePost c img gut =>
    let q := d.queue c
    let e : QEntry := { image := img.toNat, gutter := fld gut 0 12, last := flag gut 16, seq := 0 }
    d.setQueue c { q with entries := q.entries ++ [e], posted := q.posted + 1 }
  | .repeatStart k b n g =>
    let r : Repeat := { b := b, n := n, g := g, dry := 0 }
    let reps := d.job.reps.take k
    let reps := match reps.getLast? with
      | some p => reps.dropLast ++ [{ p with g := p.g + (b - p.stop).toNat, dry := p.dry + (b - p.stop).toNat }]
      | none => reps
    { d with job := { d.job with reps := reps ++ [r] } }
  | .jobEnd line => { d with job := { d.job with stop := true, endLine := some line } }
  | .compare n ctrl lo hi period pulse =>
    [(0, ctrl), (4, lo), (8, hi), (0xC, period), (0x10, pulse)].foldl (fun d (o, w) => d.setReg (pcReg n o) w) d
  | .baselineDone => ({ d with tw := { d.tw with baseline := true } } : Dev).tryWatch f

/-- A checkpoint is kept, and gives position, gain, anchor and the job's P₀; its live digest is judged (R394, R395). -/
def Dev.ckptIn (d : Dev) (f : Forme) (b : List Byte) : Dev :=
  if !(frameGood 0x43 0x2A4 b) || !d.standby then d
  else
    let d : Dev := { d with tw := { d.tw with ckpt := some b } }
    let d : Dev := { d with fir := { d.fir with
      pmax := ckptPmax b, gain := u32 b 0x1C, anchorTgt := signed 32 (u32 b 0x18), anchorNow := signed 32 (u32 b 0x18) } }
    let d := { d with job := { d.job with dryLines := u32 b 0x24 } }
    let d := if ckptRunning b && d.job.phase = .idle then
        { d with job := { d.job with phase := .running, p0 := ckptP0 b } }
      else if !(ckptRunning b) && d.job.phase ≠ .idle then
        { d with job := { d.job with phase := .idle, queues := [], reps := [], stop := false, endLine := none,
                                     dryFrom := none, doneRows := [], prep := [] } }
      else d
    let up := (f.upstream f.rowsInUse).getD 0
    let same := d.coveredDigest (ckptSeam b up) == slice b 0x28 32
    if same || d.twBit 13 then
      ({ d with tw := { d.tw with ckptOk := true, resynced := false } } : Dev).tryWatch f
    else if d.twState ≠ 4 && d.twState ≠ 5 then d
    else
      let d := (d.twinMismatch 3 0).setTwBit 10 false
      if d.tw.resynced then d.enterMismatch f
      else ({ d with tw := { d.tw with resynced := true } } : Dev).enterSync f

/-- A MIRROR frame's bursts are written into the standby's job home, or poisoned there (R393). -/
def Dev.mirrorIn (d : Dev) (f : Forme) (off : Nat) (bs : List Byte) (poison : Bool) : Dev :=
  match f.mirrorBase with
  | none => d
  | some m =>
    let d := d.portWrite (m + off) bs
    if poison then
      (List.range (bs.length / 64)).foldl (fun d i =>
        { d with poison := Sparse.set (fun _ => false) d.poison ((m + off) / 64 + i) true }) d
    else d

/-! ### Take-over (R397 to R400) -/

/-- Planes, rows and heads are made ready at the resume lines, in the state the checkpoint gives (R398, R400). -/
def Dev.prepareResume (d : Dev) (f : Forme) (u : Nat → Int) : Dev :=
  let d : Dev := match d.tw.ckpt with
    | some b => ((d.takeRungs f b).takeTemps f b)
    | none => f.heads.foldl (fun (d : Dev) h => (d.setInhibit h.slot true).setGood h.slot 0) d
  if d.printing then
    let d : Dev := { d with tw := { d.tw with resume := f.planes.foldl (fun m p => Sparse.set (fun _ => 0) m p.c (u p.c)) [] } }
    d.resumeAt f u
  else d

/-- The take-over decision (R397): the cause is recorded; with CLAIM_EN the unit becomes TAKEOVER. -/
def Dev.takeOver (d : Dev) (f : Forme) (cause link : Nat) : Dev :=
  let d := d.setReg 0x110024 (BitVec.ofNat 32 (cause + 256 * link))
  if !(flag (d.reg 0x110000) 4) then d
  else
    let d : Dev := { d with tw := { d.tw with tookCause := cause, td := some d.now } }
    let d := d.bump 0x110028
    let d := ({ d with fir := { d.fir with pmax := max d.fir.pmax d.p } } : Dev).wakeUnit f
    let d := d.setTwState f 8
    let thr := d.resumeThreshold
    let d := match d.tw.ckpt with | some b => d.takeCompares b | none => d
    let base := f.rowsInUse.foldl (fun d r => let x := d.rowFire r; d.setRowFire r { x with c := x.tgt + x.anchor }) d
    let base := f.heads.foldl (fun d h => let x := d.headFire h.slot; d.setHeadFire h.slot { x with e := x.tgt }) base
    d.prepareResume f (fun c => base.resumeLine f c thr)

/-- A unit in WATCH or STALE judges a condition. -/
def Dev.mayTake (d : Dev) : Bool := d.twState == 5 || d.twState == 6

/-- No valid BEAT for 1 ms on either link (R384). -/
def Dev.beatLost (d : Dev) : Bool := d.tw.beatHeard && decide (d.tw.lastBeat + 1000000000 ≤ d.now)

/-- Echo failure at a head (R396): with heartbeat loss it is cause 0x03. -/
def Dev.echoFail (d : Dev) (f : Forme) (k p : Nat) : Dev :=
  let d : Dev := { d with tw := { d.tw with fails := if d.tw.fails.contains (8 * k + p) then d.tw.fails else (8 * k + p) :: d.tw.fails } }
  if d.mayTake && (d.beatLost || d.twState = 6) then d.takeOver f 3 k else d

/-- A head echoes as it should: it is no longer in echo failure (log entry 34). -/
def Dev.echoGood (d : Dev) (k p : Nat) : Dev := { d with tw := { d.tw with fails := d.tw.fails.filter (· != 8 * k + p) } }

/-- A block is judged against its intended digest (R396, R397). -/
def Dev.judgeEcho (d : Dev) (f : Forme) (e : TwinEcho) (i : IntDigest) : Dev :=
  let j := e.first.toNat / 256
  if e.count = i.count && e.digest = i.digest then d.echoGood e.link e.head
  else
    let d := d.bump 0x110030
    let twice := d.tw.mism.contains (e.link, e.head, j - 1) && 1 ≤ j
    let d : Dev := { d with tw := { d.tw with
      mism := (e.link, e.head, j) :: d.tw.mism.filter (fun x => !(x.1 == e.link && x.2.1 == e.head)) } }
    if twice && d.twState = 5 then d.takeOver f 1 e.link else d.echoFail f e.link e.head

/-- An ECHO BLOCK heard by a standby: judged where its IDIG is at hand, else kept for 200 µs. -/
def Dev.watchEcho (d : Dev) (f : Forme) (e : TwinEcho) (sw : Bool) : Dev :=
  let d : Dev := { d with tw := { d.tw with
    blocks := Sparse.set (fun _ => 0) d.tw.blocks (8 * e.link + e.head) (e.first.toNat / 256 + 1),
    overdue := d.tw.overdue.filter (fun x => !(x.1 == e.link && x.2.1 == e.head)) } }
  if sw then d
  else if d.twState = 6 then d.echoGood e.link e.head
  else
    match d.tw.idigs.find? (fun x => x.2.link == e.link && x.2.head == e.head && x.2.first == e.first) with
    | some x => d.judgeEcho f e x.2
    | none => { d with tw := { d.tw with echoes := e :: d.tw.echoes.filter (fun x => decide (d.now < x.at_ + 200000000)) } }

/-- An IDIG arrives: echoes that wait for it are judged (R396). -/
def Dev.idigIn (d : Dev) (f : Forme) (l : List IntDigest) : Dev :=
  l.foldl (fun d i =>
    let d : Dev := { d with tw := { d.tw with idigs := (d.now, i) :: d.tw.idigs.take 4095 } }
    let hit := fun (e : TwinEcho) => e.link == i.link && e.head == i.head && e.first == i.first
    match d.tw.echoes.find? hit with
    | some e =>
      let d : Dev := { d with tw := { d.tw with echoes := d.tw.echoes.filter (fun x => !(hit x)) } }
      if d.now < e.at_ + 200000000 && d.mayTake then d.judgeEcho f e i else d
    | none => d) d

/-- One numbered frame's effect. -/
def Dev.twinApply (d : Dev) (f : Forme) (x : TwinFrame) : Dev :=
  if !d.standby then d
  else
    match x with
    | .ckpt b => d.ckptIn f b
    | .mirror off bs poison => d.mirrorIn f off bs poison
    | .state i => d.stateItem f i
    | .idig l => d.idigIn f l
    | _ => d

/-- Frames that came ahead of their turn. -/
def Dev.twinAhead (f : Forme) : Nat → Dev → Dev
  | 0, d => d
  | n + 1, d =>
    match d.tw.ahead.find? (fun x => x.1 == d.tw.applied + 1) with
    | some x =>
      let d : Dev := { d with tw := { d.tw with applied := x.1, ahead := d.tw.ahead.filter (fun y => y.1 != x.1) } }
      Dev.twinAhead f n (d.twinApply f x.2)
    | none => d

/-- A numbered frame arrives: applied in sequence order, and acknowledged (R382). -/
def Dev.twinNumbered (d : Dev) (q : Nat) (seq : Word) (x : TwinFrame) : Dev :=
  match d.twinForme with
  | none => d
  | some f =>
    let d := d.twinHeard q false
    let ahead := lineDiff seq d.tw.applied
    let d := if ahead ≤ 0 then d
      else if ahead = 1 then
        let d : Dev := { d with tw := { d.tw with applied := seq } }
        Dev.twinAhead f 256 (d.twinApply f x)
      else if d.tw.ahead.any (fun y => y.1 == seq) || 256 ≤ d.tw.ahead.length then d
      else { d with tw := { d.tw with ahead := (seq, x) :: d.tw.ahead } }
    d.twinOut q (.ack d.tw.applied)

/-! ### Position and time (R391) -/

/-- The unit's own K_0 at an instant not long past; none within 10 ns of a count. -/
def EncSide.kAt (e : EncSide) (t : Nat) : Option Int :=
  let near := fun (x : Nat) => decide (x ≤ t + 10000) && decide (t ≤ x + 10000)
  if near e.lastT || near e.prevT then none
  else if e.lastT ≤ t then some e.k
  else if e.prevT ≤ t then some (e.k - e.lastSign)
  else some (e.k - e.lastSign - e.prevSign)

/-- The gain under which the count increment is `i`: a standby adopts the active unit's increment. -/
def Dev.adoptInc (d : Dev) (f : Forme) (i : Nat) : Dev :=
  if d.inc = i || f.sys.enc0Scale = 0 then d
  else d.setGain ((i * 1073741824 + f.sys.enc0Scale - 1) / f.sys.enc0Scale)

/-- The time difference is shown, and reported as it comes above 10 µs. -/
def Dev.beatTime (d : Dev) (at_ : Nat) (m : Beat) : Dev :=
  let diff : Int := ((m.sec * 1000000000 + m.ns : Nat) : Int) - (d.clock.valAt at_ / 1099511627776 : Nat)
  let d := d.setReg 0x110014 (sat32 diff)
  let far := decide (10000 < diff.natAbs)
  let d := if far && !d.tw.far then d.twinMismatch 6 (sat32 diff) else d
  { d with tw := { d.tw with far := far } }

/-- The standby follows the active unit's position (R391). -/
def Dev.beatPos (d : Dev) (f : Forme) (at_ : Nat) (m : Beat) : Dev :=
  match d.enc.e0.kAt at_ with
  | none => d
  | some k =>
    let dk := m.k0 - k
    if !(d.twBit 15) then
      let run := if d.tw.dk = some dk then d.tw.dkRun + 1 else 1
      let d : Dev := { d with tw := { d.tw with dk := some dk, dkRun := run } }
      if 4 ≤ run then
        let d : Dev := { (d.setTwBit 15 true) with tw := { d.tw with posBad := 0 } }
        let since := d.enc.e0.k - k
        let d := d.adoptInc f m.inc
        let d : Dev := { d with fir := { d.fir with pos := m.pos * 4294967296 + m.frac + since * m.inc } }
        (d.judgeReady).tryWatch f
      else d
    else
      let since := d.enc.e0.k - k
      let own := d.fir.pos - since * d.inc
      let far := decide (1 < (own / 4294967296 - m.pos).natAbs)
      let bad := if far then d.tw.posBad + 1 else 0
      let d := if far then d.bump 0x110038 else d
      let d := d.adoptInc f m.inc
      let d : Dev := { d with fir := { d.fir with pos := m.pos * 4294967296 + m.frac + since * m.inc },
                              tw := { d.tw with posBad := bad } }
      let d := d.touchMax
      if 8 ≤ bad then
        let d : Dev := { (d.setTwBit 15 false) with tw := { d.tw with posBad := 0, dk := none, dkRun := 0 } }
        (d.judgeReady).twinMismatch 5 0
      else d

/-- BEAT arrives (R384, R391): judged at its arrival less the measured latency of the link. -/
def Dev.beatIn (d : Dev) (f : Forme) (q : Nat) (m : Beat) : Dev :=
  let d := d.twinHeard q false
  let d : Dev := { d with tw := { d.tw with lastBeat := d.now, beatHeard := true } }
  if d.standby then
    let at_ := d.now - fld (d.reg (twLink q 4)) 0 24
    (d.beatTime at_ m).beatPos f at_ m
  else d

/-! ### Leaving and coming back (R402, R403) -/

/-- EV_REVERT: S_s and the epoch claimed (R404). -/
def Dev.raiseRevert (d : Dev) (s : Int) : Dev :=
  d.raiseAll 0x001B twSource (low32 s) (BitVec.ofNat 32 (d.reg 0x11000C).toNat)

/-- No row of the unit has a line below a lost link's switch line still to fire. -/
def Dev.lastFired (d : Dev) (f : Forme) : Bool :=
  !d.printing || f.heads.all (fun h =>
    match (d.bl h.link).lost with
    | some (some l) => decide (f.rowLine h.row l ≤ (d.headFire h.slot).fired + f.rowStep h.row)
    | _ => true)

/-- An active unit that has lost every link and fired its last line becomes STANDBY: WATCH after a reversion, else SYNC,
or PAIRING with no twin link up (R388, R402, R403). -/
def Dev.settleDeposed (d : Dev) (f : Forme) : Dev :=
  let lostAny := (List.range 32).any (fun k => (d.bl k).lost.isSome)
  let owns := (List.range 32).any (fun k => d.blState k == 5)
  if twPrints d.twState && lostAny && !owns && d.lastFired f then
    match d.tw.seam with
    | some s =>
      let d := (d.raiseRevert s).sleepUnit f
      ({ d with tw := { d.tw with seam := none, claimed := [], ckptOk := true, baseline := true, td := none } } : Dev).setTwState f 5
    | none => if d.twPort.isSome then d.enterSync f else d.enterPairing f
  else d

/-- A primary that has claimed and whose most downstream row has come to S_s is ACTIVE (R388, R403). -/
def Dev.settleRevert (d : Dev) (f : Forme) : Dev :=
  match d.tw.seam with
  | some s =>
    let there := match f.downstream f.rowsInUse with
      | some r => decide (f.rowLine r s ≤ (d.rowFire r).fired)
      | none => true
    if d.twState = 9 && !d.tw.claimed.isEmpty && d.tw.claimed.all (fun k => d.blState k == 5) && there then
      let d := (d.bump 0x11002C).raiseRevert s
      ({ d with tw := { d.tw with seam := none } } : Dev).setTwState f (if d.twPort.isSome then 3 else 2)
    else d
  | none => d

/-- What a change of claims or a fired line may lead to. -/
def Dev.settleTwin (d : Dev) (f : Forme) : Dev :=
  if f.twin.twin then (d.settleDeposed f).settleRevert f else d

/-- TAKEOVER ends once every claimed link has accepted, or after 50 ms (R388). -/
def Dev.endTakeover (d : Dev) (f : Forme) : Dev :=
  if d.twState = 8 then d.setTwState f (if d.twPort.isSome then 3 else 2) else d

/-- A hand-over line (R403): the first seam the most upstream row has not begun whose fire instant there lies at least
RESUME_US ahead. -/
def Dev.handoverLine (d : Dev) (f : Forme) : Option Int :=
  match f.upstream f.rowsInUse with
  | none => none
  | some r =>
    let us : Int := fld (d.reg 0x110008) 0 16
    let thr := d.p + max 0 d.webRate * us / 1000000
    let low := (f.rowHeads r).foldl (fun m h => max m (d.headResume f h thr)) (d.prep r + 1)
    let reps := (d.job.reps.drop 1).map (·.b) ++ (if d.job.stop then [] else [d.job.nextB])
    let rep := reps.find? (fun b => decide (low ≤ b))
    if f.geom.seamMode = 1 then
      let i : Int := 2 ^ f.geom.seamLog2
      let c := -((-low) / i) * i
      some (match rep with | some b => min b c | none => c)
    else rep

/-- A REVERT request at the active unit: it answers with the hand-over seam, which counts as update-bearing (R403). -/
def Dev.revertAsked (d : Dev) (f : Forme) (q : Nat) : Dev :=
  if !(twPrints d.twState) then d
  else
    match d.handoverLine f with
    | none => d.twinOut q (.revert 2 0)
    | some s =>
      let u : Update := { block := 0x11, tag := 0, by_ := 0xFF, seam := some (d.seamRefOf s), payload := .handover,
                          rows := f.rowsInUse, applied := [], planes := [], planesDone := [] }
      let d : Dev := { d with tw := { d.tw with seam := some s }, ups := d.ups ++ [u] }
      (d.setReg 0x110020 (low32 s)).twinOut q (.revert 1 s)

/-- The primary has S_s: it makes every plane ready from there, takes the head temperatures, and brings its links up
(R403). -/
def Dev.revertGranted (d : Dev) (f : Forme) (s : Int) : Dev :=
  if d.twState ≠ 9 then d
  else
    let d := d.setReg 0x110020 (low32 s)
    let d : Dev := { d with tw := { d.tw with seam := some s, epoch := some ((d.reg 0x11000C).toNat + 1), claimed := [] } }
    (d.prepareResume f (fun _ => s)).wakeBars f

/-- A reversion is given up: the primary is in WATCH again (R388, R403). -/
def Dev.revertDropped (d : Dev) (f : Forme) : Dev :=
  if d.twState = 9 then
    let d := d.sleepUnit f
    ({ d with tw := { d.tw with seam := none, claimed := [], resume := [] } } : Dev).setTwState f 5
  else { d with tw := { d.tw with seam := none }, ups := d.ups.filter (fun u => u.payload != .handover) }

/-- The hold-off has run out, or was ended (R388, R405). -/
def Dev.holdoffOver (d : Dev) (f : Forme) : Bool :=
  match d.tw.readySince with
  | some t => d.tw.noHold || decide (t + f.twin.holdoff * 1000000000 ≤ d.now)
  | none => false

/-- A primary in WATCH, ready for HOLDOFF without a break, asks for its place (R388, R403). -/
def Dev.tryRevert (d : Dev) (f : Forme) : Dev :=
  if d.twState = 5 && f.twin.rank = 0x80 && d.twBit 10 && d.holdoffOver f && !(flag (d.reg 0x110000) 3) && !(d.twBit 12)
      && d.printing then
    let d := ({ d with tw := { d.tw with noHold := false, claimed := [] } } : Dev).setTwState f 9
    match d.twPort with
    | some q => d.twinOut q (.revert 0 0)
    | none => d
  else d

/-! ### Claims and ECHO frames at the device (R224, R230, R231, R399, R402) -/

/-- The claim is lost on a link where the unit fired (R231, R402): the new switch line is none where every line is
lost. -/
def Dev.claimLost (d : Dev) (k c : Nat) (le : Option Int) : Dev :=
  let d := d.raiseAll 0x001C (blSource k) (BitVec.ofNat 32 k) (BitVec.ofNat 32 c)
  let d := d.setBl k { d.bl k with lost := some le }
  let d : Dev := if d.twinned && (d.tw.seam.isNone || d.tw.seam ≠ le) then { d with tw := { d.tw with deposed := true } } else d
  d.setBlState k 4

/-- A standby sees a head without a firing port that fired from the active unit's port before (R396). -/
def Dev.watchFiring (d : Dev) (f : Forme) (k p fp : Nat) : Dev :=
  let bits := Sparse.get (fun _ => 0) d.tw.shown k
  let mine := fld (d.reg (blReg k 4)) 16 1
  let was := bit bits p
  let other := fp == 1 - mine
  let now := if other = was then bits else if other then bits + 2 ^ p else bits - 2 ^ p
  let d : Dev := { d with tw := { d.tw with shown := Sparse.set (fun _ => 0) d.tw.shown k now } }
  if was && fp = 0xFF && d.mayTake then d.echoFail f k p else d

/-- ECHO BLOCK arrives (R224, R396). -/
def Dev.echoBlock (d : Dev) (k : Nat) (b : List Byte) : Dev :=
  if !(frameGood 0x81 28 b) || u8 b 2 ≠ 0 then d.blBad k
  else
    let p := u8 b 1
    let first : Word := BitVec.ofNat 32 (u32 b 4)
    let dig : Word := BitVec.ofNat 32 (u32 b 0xC)
    let sw := bit (u8 b 3) 2
    let c := u40 b 0x10
    let d := d.hearClaim k c
    let d := d.bumpBy (blReg k 0x30) (u16 b 0xA)
    let d := match (d.bl k).sent.find? (fun x => x.1 == p && x.2.1 == first) with
      | some x => if !sw && (x.2.2.1 ≠ u16 b 8 || x.2.2.2 ≠ dig) then d.bump (blReg k 0x2C) else d
      | none => d
    let d := if d.blState k = 5 && (d.bl k).own < c then d.claimLost k c none else d
    match d.twinForme with
    | some f =>
      if d.mayTake && d.printing then
        (d.watchEcho f { link := k, head := p, first := first, count := u16 b 8, digest := dig, at_ := d.now } sw).watchFiring f k p (u8 b 0x15)
      else d
    | none => d

/-- OWNED and the heads' firing ports follow a STATUS; a standby watches them (R230, R240, R396). -/
def Dev.takeFiring (d : Dev) (f : Forme) (k : Nat) (b : List Byte) : Dev :=
  let port := fld (d.reg (blReg k 4)) 16 1
  let fs := (List.range 8).map (fun p => u8 b (0x10 + p))
  let d := d.setRegFld (blReg k 4) 24 8 (((List.range 8).map (fun p => if fs.getD p 0xFF = port then 2 ^ p else 0)).sum)
  let d := d.setBl k { d.bl k with firing := fs }
  let d := if d.standby then (List.range 8).foldl (fun d p => d.watchFiring f k p (fs.getD p 0xFF)) d else d
  d.refreshDref f

/-- EV_TAKEOVER is raised once, when the first STATUS shows a claim accepted (R399, R404). -/
def Dev.tellTakeover (d : Dev) (c : Nat) : Dev :=
  if d.twinned && !d.tw.told && twPrints d.twState && 1 ≤ d.tw.tookCause then
    let d : Dev := { d with tw := { d.tw with told := true } }
    d.raiseAll 0x001A twSource (BitVec.ofNat 32 (fld (d.reg 0x110024) 0 16)) (BitVec.ofNat 32 (c / 256))
  else d

/-- What a STATUS says of the unit's own claim (R231, R235, R386, R399, R402). -/
def Dev.judgeClaim (d : Dev) (f : Forme) (k : Nat) (b : List Byte) : Dev :=
  let c := u40 b 4
  let own := (d.bl k).own
  let le : Option Int := if u32 b 0xC = 0xFFFFFFFF then none else some (resolveLine (d.upLine f) (BitVec.ofNat 32 (u32 b 0xC)))
  if own ≠ 0 && c = own && u8 b 9 = fld (d.reg (blReg k 4)) 16 1 then
    if d.blState k = 4 && (d.bl k).lost.isNone then
      let d := d.setBlState k 5
      (d.setBl k { d.bl k with tickFor := [0, 1, 2, 3, 4, 5, 6, 7] }).tellTakeover c
    else d
  else if own < c then
    if d.blState k = 5 then d.claimLost k c le
    else if (d.bl k).lost.isSome then d.setBl k { d.bl k with lost := some le }
    else if d.blState k = 4 && own ≠ 0 && u8 b 3 = 1 && d.twinned then
      d.raiseAll 0x001C (blSource k) (BitVec.ofNat 32 k) (BitVec.ofNat 32 c)
    else d
  else d

/-- An ANYLINE claim of a unit of a pair is repeated at each STATUS until it is accepted (R399). -/
def Dev.reclaim (d : Dev) (f : Forme) (k : Nat) : Dev :=
  if d.twinned && twPrints d.twState && d.blState k = 4 && (d.bl k).lost.isNone && !d.printing then d.claimLink f k else d

/-- ECHO STATUS arrives (R230). -/
def Dev.echoStatus (d : Dev) (k : Nat) (b : List Byte) : Dev :=
  if !(frameGood 0x81 32 b) || u8 b 2 ≠ 2 then d.blBad k
  else
    let d := d.hearClaim k (u40 b 4)
    match d.forme with
    | none => d
    | some f =>
      let d : Dev := { d with tw := { d.tw with statusAt := Sparse.set (fun _ => 0) d.tw.statusAt k d.now } }
      let d := (d.judgeClaim f k b).takeFiring f k b
      if f.twin.twin then
        let d := if d.twState = 9 && (d.bl k).own ≠ 0 && (d.bl k).own < u40 b 4 then d.revertDropped f else d
        let d := d.reclaim f k
        let d := if d.twState = 8 && !d.tw.claimed.isEmpty && d.tw.claimed.all (fun j => d.blState j == 5) then d.endTakeover f else d
        d.settleTwin f
      else d

/-- A block of a head is overdue (R396, R397): its ECHO has not come though P has passed the fire position of its last
line there. -/
def Dev.echoLate (d : Dev) (f : Forme) (k p block : Nat) : Dev :=
  match (f.linkHeads k).find? (fun h => h.port == p) with
  | none => d
  | some h =>
    let heard := Sparse.get (fun _ => 0) d.tw.blocks (8 * k + p)
    let old := d.tw.overdue.find? (fun x => x.1 == k && x.2.1 == p)
    let again := match old with | some x => decide (block ≤ x.2.2.1) | none => false
    if !d.mayTake || !d.printing || block < heard || again || d.p < d.firePos f h (f.rowLine h.row (256 * block + 256) - f.rowStep h.row) then d
    else
      let run := match old with | some x => if x.2.2.1 + 1 = block then x.2.2.2 + 1 else 1 | none => 1
      let d := d.bump 0x110034
      let d : Dev := { d with tw := { d.tw with
        overdue := (k, p, block, run) :: d.tw.overdue.filter (fun x => !(x.1 == k && x.2.1 == p)) } }
      let alive := decide (d.now < Sparse.get (fun _ => 0) d.tw.statusAt k + 20000000000)
      if 4 ≤ run && alive then d.takeOver f 2 k else d.echoFail f k p

/-! ### Timers and TW_CTRL -/

/-- Heartbeat loss (R384, R388, R397). -/
def Dev.heartbeat (d : Dev) (f : Forme) : Dev :=
  if !d.beatLost then d
  else
    let d := ({ d with tw := { d.tw with beatHeard := false } } : Dev).twinLinkEvent
    match d.twState with
    | 3 => d.setTwState f 2
    | 4 => d.enterPairing f
    | 5 =>
      let d := d.setTwState f 6
      (match d.tw.fails with
       | x :: _ => d.takeOver f 3 (x / 8)
       | [] => d)
    | _ => d

/-- A BEAT goes out on each twin link (R382); none after a thermal trip (R436). -/
def Dev.beatOut (d : Dev) (f : Forme) : Dev :=
  let d := if d.tripped then d else
    [0, 1].foldl (fun d q =>
      d.twinOut q (.beat { role := fld (d.reg 0x110004) 4 2, ready := d.twBit 10, k0 := d.enc.e0.k, pos := d.fir.pos / 4294967296,
                           frac := (d.fir.pos % 4294967296).toNat, inc := d.inc, sec := d.clockSec, ns := d.clockNs })) d
  d.settleTwin f

/-- Frames resent from the first unacknowledged one after 50 µs (R382). -/
def Dev.twinResend (d : Dev) : Dev :=
  match d.tw.unacked, d.twPort with
  | u :: _, some q =>
    if u.at_ + 50000000 ≤ d.now then
      let l := d.tw.unacked
      let d := (l.foldl (fun d u => d.emit (.twinFrame q (some u.seq) u.frame)) d).bumpBy (twLink q 8) l.length
      { d with tw := { d.tw with unacked := l.map (fun u => { u with at_ := d.now }) } }
    else d
  | _, _ => d

/-- An ACK arrives: frames up to its number are done with, waiting ones go out, and repeats that waited for their mirror
commit (R382, R393). -/
def Dev.twinAck (d : Dev) (q : Nat) (seq : Word) : Eff :=
  match d.twinForme with
  | none => .ok d
  | some f =>
    let d := d.twinHeard q false
    let d : Dev := { d with tw := { d.tw with unacked := d.tw.unacked.filter (fun u => decide (0 < lineDiff u.seq seq)) } }
    let d := Dev.twinDrain 256 d
    if d.twActive then Dev.commitReady f 64 d else .ok d

/-- Bursts sent and not acknowledged (TW_MIRROR_LAG). -/
def Dev.mirrorLag (d : Dev) : Nat :=
  (d.tw.unacked.map (fun u => match u.frame with | .mirror _ bs _ => (bs.length + 63) / 64 | _ => 0)).sum

/-- A latency value of a twin link (R236, R382). -/
def Dev.twinLat (d : Dev) (q tta rt : Nat) : Dev :=
  let x := d.twin q
  let v : Int := ((rt : Int) - 10 * tta) / 2
  let mean : Int := if x.lats.isEmpty then v else (x.lats.sum / x.lats.length : Nat)
  if v < 0 || 1000 < (v - mean).natAbs then d
  else
    let l := (v.toNat :: x.lats).take 16
    (d.setTwin q { x with lats := l }).setReg (twLink q 4) (BitVec.ofNat 32 (l.sum / l.length % 16777216))

/-- A write of TW_CTRL (R405): the owner's bits are kept and its actions taken; CC0 reaches HOLD only. -/
def Dev.writeTwCtrl (d : Dev) (w : Writer) (v : Word) : Eff :=
  d.guarded w 0x110000 (fun r _ _ d =>
    if w matches .core 0 then .ok (d.setReg 0x110000 (setFlag (d.reg 0x110000) 3 (flag v 3)))
    else
      let d := d.storeReg w 0x110000 r v
      .ok (match d.twinForme with
        | none => d
        | some f =>
          let d := if flag v 0 && d.twState = 1 then d.enterAlone f 4 else d
          let d := if flag v 1 && (d.twState = 4 || d.twState = 5 || d.twState = 6) then d.enterSync f else d
          if flag v 2 then ({ d with tw := { d.tw with noHold := true } } : Dev).tryRevert f else d))

/-- A FULL forme has loaded (R388): SOLO, or PAIRING with the twin lanes on their way up. -/
def Dev.twinLoad (d : Dev) (f : Forme) : Dev :=
  let d : Dev := { d with tw := { TwinDev.zero with ports := d.tw.ports.map (fun (x : Nat × TwinPort) => (x.1, { x.2 with lats := [] })) } }
  let d := [0x11000C, 0x110010, 0x110014, 0x110020, 0x110024, 0x110028, 0x11002C, 0x110030, 0x110034, 0x110038, 0x11003C,
    0x110104, 0x110108, 0x11010C, 0x110114, 0x110118, 0x11011C].foldl (fun d o => d.setReg o 0) d
  let d : Dev := { d with tw := { d.tw with ports := d.tw.ports.filter (fun x => x.2 ≠ TwinPort.zero) } }
  let d := d.setReg 0x110004 0
  let d := [0, 1].foldl (fun d q => d.setReg (twLink q 0) (setFlag (d.reg (twLink q 0)) 1 false)) d
  if f.twin.twin then (d.watchBars f).setTwState f 1 else d

/-! ### The commands -/

/-- ECHO_BLOCK_RECEIVE (R224). -/
def execEchoBlockReceive (t k : Nat) (f : List Byte) (s : State) : Res := onUnit (linkOk k) t (fun d => d.echoBlock k f) s
/-- ECHO_STATUS_RECEIVE (R230). -/
def execEchoStatusReceive (t k : Nat) (f : List Byte) (s : State) : Res := onUnit (linkOk k) t (fun d => d.echoStatus k f) s
/-- FIRE_ORDERED_SET_SEND (R191): the set goes out, and what its lines bring about in a pair follows. -/
def execFireOrderedSetSend (t k : Nat) (s : State) : Res :=
  onUnit (linkOk k) t (fun d => match d.forme with | some f => (d.sendSet f k).settleTwin f | none => d) s

/-- A twin command: nothing under a SOLO forme or without one. -/
def onTwin (ok : Bool) (t : Nat) (g : Dev → Forme → Dev) (s : State) : Res :=
  onUnit ok t (fun d => match d.twinForme with | some f => g d f | none => d) s

/-- HELLO (R386). -/
def execTwHello (t q : Nat) (m : Hello) (s : State) : Res := onTwin (twOk q) t (fun d f => d.hello f q m) s
/-- BEAT (R391). -/
def execTwBeat (t q : Nat) (m : Beat) (s : State) : Res := onTwin (twOk q) t (fun d f => d.beatIn f q m) s
/-- BEAT_SEND (R382). -/
def execTwBeatSend (t : Nat) (s : State) : Res := onTwin true t (fun d f => d.beatOut f) s
/-- CKPT (R394). -/
def execTwCkpt (t q : Nat) (seq : Word) (f : List Byte) (s : State) : Res :=
  onUnit (twOk q) t (fun d => d.twinNumbered q seq (.ckpt f)) s
/-- CKPT_SEND (R394): the active unit of an attached pair sends a checkpoint. -/
def execTwCkptSend (t : Nat) (s : State) : Res :=
  onTwin true t (fun d f => if d.mirroring then d.twinSend (.ckpt (d.ckptBytes f d.tw.nextSeq)) else d) s
/-- MIRROR (R393). -/
def execTwMirror (t q : Nat) (seq : Word) (off : Nat) (bursts : List Byte) (poison : Bool) (s : State) : Res :=
  onUnit (twOk q) t (fun d => d.twinNumbered q seq (.mirror off bursts poison)) s
/-- STATE (R392). -/
def execTwState (t q : Nat) (seq : Word) (item : TwinItem) (s : State) : Res :=
  onUnit (twOk q) t (fun d => d.twinNumbered q seq (.state item)) s
/-- IDIG (R396). -/
def execTwIdig (t q : Nat) (seq : Word) (digs : List IntDigest) (s : State) : Res :=
  onUnit (twOk q) t (fun d => d.twinNumbered q seq (.idig digs)) s
/-- TWIN_ACK (R382). -/
def execTwAck (t q : Nat) (seq : Word) (s : State) : Res := onUnitE (twOk q) t (fun d => d.twinAck q seq) s
/-- TWIN_PROBE (R382). -/
def execTwProbe (t q : Nat) (echo : Bool) (_seq : Word) (tta rtPs : Nat) (s : State) : Res :=
  onTwin (twOk q) t (fun d _ =>
    let d := d.twinHeard q false
    if echo then d.twinLat q tta rtPs else d.twinOut q .probeEcho) s
/-- TWIN_RESEND_TIMEOUT (R382). -/
def execTwResendTimeout (t : Nat) (s : State) : Res := onTwin true t (fun d _ => d.twinResend) s
/-- TWIN_LINK_TIMEOUT (R384): 1 ms without a valid frame. -/
def execTwLinkTimeout (t q : Nat) (s : State) : Res :=
  onTwin (twOk q) t (fun d _ => if d.twUp q && decide ((d.twin q).last + 1000000000 ≤ d.now) then d.twinDown q else d) s
/-- HEARTBEAT_LOSS (R384). -/
def execHeartbeatLoss (t : Nat) (s : State) : Res := onTwin true t (fun d f => d.heartbeat f) s
/-- ECHO_OVERDUE (R396). -/
def execEchoOverdue (t k h block : Nat) (s : State) : Res := onTwin (linkOk k) t (fun d f => d.echoLate f k h block) s
/-- TAKEOVER_TIMEOUT (R388): 50 ms after t_d. -/
def execTakeoverTimeout (t : Nat) (s : State) : Res :=
  onTwin true t (fun d f => match d.tw.td with
    | some td => if td + 50000000000 ≤ d.now then d.endTakeover f else d
    | none => d.endTakeover f) s
/-- PAIR_WAIT_EXPIRE (R388). -/
def execPairWaitExpire (t : Nat) (s : State) : Res :=
  onTwin true t (fun d f =>
    if d.twState = 1 && f.twin.rank = 0x80 && d.tw.peer.isNone
        && decide (d.cc.loadedAt + fld (d.reg 0x110008) 16 16 * 1000000000 ≤ d.now) then d.enterAlone f 5 else d) s
/-- HOLDOFF_EXPIRE (R388). -/
def execHoldoffExpire (t : Nat) (s : State) : Res := onTwin true t (fun d f => d.tryRevert f) s
/-- REVERT_REQUEST (R403). -/
def execRevertRequest (t q : Nat) (s : State) : Res := onTwin (twOk q) t (fun d f => (d.twinHeard q false).revertAsked f q) s
/-- REVERT_ACK (R403). -/
def execRevertAck (t q : Nat) (seam : Int) (s : State) : Res :=
  onTwin (twOk q) t (fun d f => (d.twinHeard q false).revertGranted f seam) s
/-- REVERT_ABORT (R403). -/
def execRevertAbort (t q : Nat) (s : State) : Res := onTwin (twOk q) t (fun d f => (d.twinHeard q false).revertDropped f) s
/-- REVERT_READY_CHECK (R403): a link in use that is not READY 1 ms before S_s aborts the reversion. -/
def execRevertReadyCheck (t : Nat) (s : State) : Res :=
  onTwin true t (fun d f =>
    if d.twState = 9 && (List.range 32).any (fun k => (f.link k).inUse && !(d.blUp k)) then
      let d := match d.twPort with | some q => d.twinOut q (.revert 2 0) | none => d
      d.revertDropped f
    else d) s
/-- REVERT_NOW (R405): TW_CTRL is written with REVERT_NOW. -/
def execRevertNow (t : Nat) (w : Writer) (v : Word) (s : State) : Res := onDevE t (fun d => d.writeTwCtrl w v) s
/-- RESYNC (R405): TW_CTRL is written with RESYNC. -/
def execTwResync (t : Nat) (w : Writer) (v : Word) (s : State) : Res := onDevE t (fun d => d.writeTwCtrl w v) s
/-- ALONE (R388): TW_CTRL is written with ALONE. -/
def execTwAlone (t : Nat) (w : Writer) (v : Word) (s : State) : Res := onDevE t (fun d => d.writeTwCtrl w v) s

end Sys2Proof.Machine
end

