-- ==== Sys2Proof/Machine/Lanes.lean ====
section
/-!
DEFINITION. Serial lanes (R444 to R459): loss of signal and lock, electrical idle and the deep state, lane tests.
-/
namespace Sys2Proof.Machine

/-- A lane number the device has (R444). -/
def laneOk (n : Nat) : Bool := decide (n < 36)

/-- LANE_STATUS bits: LOS, LOCK, PLOCK, TDONE. -/
def Dev.setLaneBit (d : Dev) (n b : Nat) (x : Bool) : Dev := d.setReg (laneReg n 4) (setFlag (d.reg (laneReg n 4)) b x)

/-! ### Signal and lock (R448 to R450) -/

/-- EV_LANE_LOS or EV_LANE_LOL: for lanes in use, not during a test, at most one per millisecond; word 7 is given on exit
only (R450). -/
def Dev.laneEvent (d : Dev) (n code : Nat) (exit : Bool) : Dev :=
  let l := d.lane n
  let soon := match l.evAt with | some t => decide (d.now < t + 1000000000) | none => false
  if d.laneUsed n && !(d.inTest n) && !soon then
    let us := min 4294967295 ((d.now - l.since) / 1000000)
    let (w, d) : Word × Dev := if exit then (BitVec.ofNat 32 us, d) else d.freeWord
    (d.setLane n { l with evAt := some d.now }).raiseAll code (0x1400 + n) (BitVec.ofNat 32 (n + 256 * b2n exit)) w
  else d

/-- What follows from a loss on a lane (R450): a bar link goes DOWN, a twin link goes down. -/
def Dev.laneLoss (d : Dev) (n : Nat) : Dev :=
  if n < 32 then d.laneDown n
  else if n < 34 then (d.twinDown (n - 32)).setReg (twLink (n - 32) 0) (setFlag ((d.twinDown (n - 32)).reg (twLink (n - 32) 0)) 0 false)
  else d

/-- The receiver's state changes now. -/
def Dev.laneSince (d : Dev) (n : Nat) : Dev := d.setLane n { d.lane n with since := d.now }

/-- Loss of signal is declared (R449). -/
def Dev.laneLosIn (d : Dev) (n : Nat) : Dev :=
  if d.laneLos n then d
  else
    let d := ((d.setLaneBit n 4 true).setLaneBit n 5 false).bump (laneReg n 0x2C)
    ((d.laneEvent n 0x001F false).laneSince n).laneLoss n

/-- Loss of signal clears: the receiver hunts, so its state without lock begins (R449, R450). -/
def Dev.laneLosOut (d : Dev) (n : Nat) : Dev :=
  if d.laneLos n then
    let d := (d.setLaneBit n 4 false).laneEvent n 0x001F true
    (d.laneSince n).laneEvent n 0x0020 false
  else d

/-- What follows from block lock: a bar link leaves DOWN, a twin link says HELLO (R235, R384). -/
def Dev.laneLocked (d : Dev) (n : Nat) : Dev :=
  if n < 32 then d.tryLock n
  else if n < 34 then
    let d := d.setReg (twLink (n - 32) 0) (setFlag (d.reg (twLink (n - 32) 0)) 0 true)
    match d.forme with
    | some f => d.sendHellos f
    | none => d
  else d

/-- Block lock (R448); of a lane that has kept its lock, the end of a DOWN link's training (R235, log entry 61). -/
def Dev.laneLockIn (d : Dev) (n : Nat) : Dev :=
  if d.laneLos n then d
  else if d.laneLock n then (if n < 32 then d.tryLock n else d)
  else (((d.laneEvent n 0x0020 true).setLaneBit n 5 true).laneSince n).laneLocked n

/-- Lock is lost with the signal present: the 16 headers that lost it are counted (R448). -/
def Dev.laneLockOut (d : Dev) (n : Nat) : Dev :=
  if d.laneLock n then
    let d := ((d.setLaneBit n 5 false).bump (laneReg n 0x30)).bumpBy (laneReg n 0x28) 16
    ((d.laneEvent n 0x0020 false).laneSince n).laneLoss n
  else d

/-! ### Electrical idle (R451, R452) -/

/-- A TEST frame's bytes (R458): its OP, and PATS, DUR and USER from the lane's registers. -/
def Dev.testFrame (d : Dev) (k op : Nat) : List Byte :=
  let c := d.reg (laneReg k 0)
  ctrlFrame 0xFF 5 (leBytes 1 op ++ leBytes 1 (fld c 4 3 + 8 * fld c 7 1) ++ leBytes 2 (fld (d.reg (laneReg k 0x18)) 0 16)
    ++ leBytes 4 (d.reg (laneReg k 0x10)).toNat ++ leBytes 4 (d.reg (laneReg k 0x14)).toNat)

/-- A LINE frame, an ARM or a resend is pending on a link. -/
def Dev.linkPending (d : Dev) (f : Forme) (k : Nat) : Bool :=
  !(d.bl k).resend.isEmpty || (f.linkHeads k).any (fun h =>
    let x := d.headFire h.slot
    x.commit.isSome || (!(d.inhibited h.slot) && x.lines.any (fun l => !l.sent && l.codes.isSome && d.maySend k l.s)))

/-- A link may enter electrical idle (R451). -/
def Dev.mayIdle (d : Dev) (f : Forme) (k : Nat) : Bool :=
  d.phy k == 2 && !(d.inTest k) && d.blUp k && (f.link k).idleOk
    && decide (((List.range 32).filter (fun j => (f.link j).inUse)).length ≤ 16)
    && (!d.printing || d.fir.stopped) && !(d.linkPending f k) && decide ((d.bl k).busyAt + 10000000 ≤ d.now)

/-- The transmitter says EIDLE and idles (R451). -/
def Dev.idleEnter (d : Dev) (k : Nat) : Dev :=
  match d.forme with
  | some f => if d.mayIdle f k then (d.blSend k (d.testFrame k 1)).setPhy k 1 else d
  | none => d

/-! ### The deep state (R453) -/

/-- A transmitter that stays in the deep state. -/
def Dev.laneDeep (d : Dev) (n : Nat) : Bool :=
  !(d.laneUsed n) || (decide (n < 32) && (d.watching || d.twState == 1))

/-- A deep-state exit ends; a twin lane that has lock says HELLO (R384). -/
def Dev.deepExit (d : Dev) (n : Nat) : Dev :=
  let was := d.phy n
  let d := d.exitDone n
  if was = 3 && d.phy n = 2 && 32 ≤ n && n < 34 && d.laneLock n then
    match d.forme with
    | some f => d.sendHellos f
    | none => d
  else d

/-! ### Lane tests (R455 to R458) -/

/-- A lane leaves its test: its transmitter returns to the deep state, leaves it, or runs; a bar link restarts at DOWN,
one of a standby in WATCH (R456, R235). -/
def Dev.leaveTest (d : Dev) (n : Nat) (x : LaneTest) : Dev :=
  let d := d.setLane n { d.lane n with test := none, since := d.now }
  let d := d.setReg (laneReg n 0) (setFld (d.reg (laneReg n 0)) 0 2 0)
  let d := if d.laneDeep n then d.enterDeep n
    else if x.phy = 2 && x.mode ≠ 3 then d.setPhy n 2
    else (d.enterDeep n).leaveDeep n
  if n < 32 then (if d.watching || d.twState = 1 then d.setBlState n 7 else d.linkDown n) else d

/-- A test's counts join the lane's: bits of 48, errors saturating (R455). -/
def Dev.testCounts (d : Dev) (n bits errs : Nat) : Dev :=
  let d := d.setLane n { d.lane n with bits := ((d.lane n).bits + bits) % 281474976710656 }
  d.setReg (laneReg n 0x1C) (BitVec.ofNat 32 (min 4294967295 ((d.reg (laneReg n 0x1C)).toNat + errs)))

/-- A test ends: PLOCK, TDONE, VALID and SEQ (R456). -/
def Dev.testResult (d : Dev) (n : Nat) (plock full : Bool) : Dev :=
  let r := setFlag (setFlag (d.reg (laneReg n 4)) 6 plock) 7 full
  d.setReg (laneReg n 4) (windowNext (d.reg (laneReg n 4)) r)

/-- LANE_TEST_END: the test has run its length, and its checker has counted what it saw. -/
def Dev.testEnd (d : Dev) (n : Nat) (obs : LaneObs) : Dev :=
  match (d.lane n).test with
  | some x =>
    if d.now < x.endAt then d
    else ((d.testCounts n obs.bits (min obs.errs obs.bits)).testResult n obs.plock true).leaveTest n x
  | none => d

/-- A test ended early by TMODE 0: what its checker has counted so far is not stated by any command (log entry 35). -/
def Dev.testStop (d : Dev) (n : Nat) : Dev :=
  match (d.lane n).test with
  | some x =>
    let (a, d) := d.takeFree
    let (b, d) := d.takeFree
    let (c, d) := d.takeFree
    let bits := a % 281474976710656
    ((d.testCounts n bits (b % (bits + 1))).testResult n (c % 2 == 1) false).leaveTest n x
  | none => d

/-- A test write is ignored (R457). -/
def Dev.testBarred (d : Dev) (w : Writer) (n : Nat) : Bool :=
  if n < 32 then d.printing
  else if n < 34 then (match d.forme with | some f => f.twin.twin && !(d.twUp (33 - n)) | none => false)
  else (d.attach (d.actsFor w)) == some (n - 32)

/-- A test starts (R456 to R458): four TEST frames first on a bar link, which then is DOWN. -/
def Dev.testStart (d : Dev) (n mode : Nat) : Dev :=
  let old := match (d.lane n).test with | some x => x.phy | none => d.phy n
  let d := if n < 32 && mode ≠ 3 then
      (List.range 4).foldl (fun d _ => d.blSend n (d.testFrame n (mode + 1))) d else d
  let d := if n < 32 then
      (let d := d.linkDown n
       match d.forme with | some f => d.refreshDref f | none => d)
    else if n < 34 then d.laneLoss n else d
  let d := d.setLane n { d.lane n with
    test := some { mode := mode, endAt := d.now + fld (d.reg (laneReg n 0x18)) 0 16 * 10000000000, phy := old }, exitAt := none }
  let d := (d.setPhy n (if mode = 3 then 0 else 4)).setLaneBit n 5 false
  let d := (d.setLaneBit n 6 false).setLaneBit n 7 false
  d.setReg (laneReg n 4) (windowBusy (d.reg (laneReg n 4)) (d.reg (laneReg n 4)))

/-- CLR: the lane's counters (R459). -/
def Dev.laneClear (d : Dev) (n : Nat) : Dev :=
  let d := d.setLane n { d.lane n with bits := 0 }
  [0x1C, 0x28, 0x2C, 0x30].foldl (fun d o => d.setReg (laneReg n o) 0) d

/-- A write of LANE_CTRL (R455 to R459): a test that R457 bars leaves the whole write without effect. -/
def Dev.writeLaneCtrl (d : Dev) (w : Writer) (n : Nat) (v : Word) : Eff :=
  d.guarded w (laneReg n 0) (fun r _ _ d =>
    if 4 < fld v 4 3 then hostError 459
    else
      let mode := fld v 0 2
      let now := match (d.lane n).test with | some x => x.mode | none => 0
      if mode ≠ 0 && mode ≠ now && d.testBarred w n then .ok d
      else
        let d := d.storeReg w (laneReg n 0) r v
        let d := if flag v 8 then d.laneClear n else d
        let d := if flag v 9 && 2 ≤ d.phy n then d.emit (.bitFlip n) else d
        .ok (if mode = now then d else if mode = 0 then d.testStop n else d.testStart n mode))

/-- A FULL forme has loaded (R60, R445, R446, R453, R459): lanes in use leave the deep state, the rest enter it; REFO runs
for the links in use; the counters clear. -/
def Dev.laneLoad (d : Dev) (f : Forme) : Dev :=
  let used := (List.range 32).filter (fun k => (f.link k).inUse)
  let d := d.setReg 0x140C04 (BitVec.ofNat 32 ((used.map (fun k => 2 ^ k)).sum))
  let d := d.setReg 0x140C00 (setFlag (d.reg 0x140C00) 1 f.sys.refoSpread)
  (List.range 36).foldl (fun d n =>
    let was := d.inTest n
    let d := (d.laneClear n).setReg (laneReg n 0) (setFld (d.reg (laneReg n 0)) 0 2 0)
    let d := d.setLane n { d.lane n with test := none }
    if d.laneDeep n then d.enterDeep n
    else if was || d.phy n = 0 then (d.enterDeep n).leaveDeep n
    else d) d

/-! ### The commands -/

/-- LOSS_OF_SIGNAL (R449). -/
def execLossOfSignal (t n : Nat) (s : State) : Res := onUnit (laneOk n) t (fun d => d.laneLosIn n) s
/-- SIGNAL_RESTORED (R449). -/
def execSignalRestored (t n : Nat) (s : State) : Res := onUnit (laneOk n) t (fun d => d.laneLosOut n) s
/-- BLOCK_LOCK (R448). -/
def execBlockLock (t n : Nat) (s : State) : Res := onUnit (laneOk n) t (fun d => d.laneLockIn n) s
/-- LOCK_LOST (R448). -/
def execLockLost (t n : Nat) (s : State) : Res := onUnit (laneOk n) t (fun d => d.laneLockOut n) s
/-- EIDLE_ENTER (R451). -/
def execEidleEnter (t k : Nat) (s : State) : Res := onUnit (linkOk k) t (fun d => d.idleEnter k) s
/-- EIDLE_EXIT (R452): the transmitter leaves electrical idle with its training burst. -/
def execEidleExit (t k : Nat) (s : State) : Res := onUnit (linkOk k) t (fun d => if d.phy k = 1 then d.setPhy k 2 else d) s
/-- DEEP_STATE_EXIT_DONE (R453). -/
def execDeepStateExitDone (t n : Nat) (s : State) : Res := onUnit (laneOk n) t (fun d => d.deepExit n) s
/-- LANE_TEST_PATTERN (R456): LANE_CTRL is written with TMODE 1. -/
def execLaneTestPattern (t : Nat) (w : Writer) (n : Nat) (v : Word) (s : State) : Res :=
  onUnitE (laneOk n) t (fun d => d.writeLaneCtrl w n v) s
/-- LANE_TEST_FAR_LOOP (R456): LANE_CTRL is written with TMODE 2. -/
def execLaneTestFarLoop (t : Nat) (w : Writer) (n : Nat) (v : Word) (s : State) : Res :=
  onUnitE (laneOk n) t (fun d => d.writeLaneCtrl w n v) s
/-- LANE_TEST_NEAR_LOOP (R456): LANE_CTRL is written with TMODE 3. -/
def execLaneTestNearLoop (t : Nat) (w : Writer) (n : Nat) (v : Word) (s : State) : Res :=
  onUnitE (laneOk n) t (fun d => d.writeLaneCtrl w n v) s
/-- LANE_TEST_OFF (R456): LANE_CTRL is written with TMODE 0. -/
def execLaneTestOff (t : Nat) (w : Writer) (n : Nat) (v : Word) (s : State) : Res :=
  onUnitE (laneOk n) t (fun d => d.writeLaneCtrl w n v) s
/-- LANE_TEST_END (R456). -/
def execLaneTestEnd (t n : Nat) (obs : LaneObs) (s : State) : Res := onUnit (laneOk n) t (fun d => d.testEnd n obs) s
/-- ERRINJ (R455): LANE_CTRL is written with ERRINJ. -/
def execLaneErrinj (t : Nat) (w : Writer) (n : Nat) (v : Word) (s : State) : Res :=
  onUnitE (laneOk n) t (fun d => d.writeLaneCtrl w n v) s
/-- CLR (R459): LANE_CTRL is written with CLR. -/
def execLaneClr (t : Nat) (w : Writer) (n : Nat) (v : Word) (s : State) : Res :=
  onUnitE (laneOk n) t (fun d => d.writeLaneCtrl w n v) s

end Sys2Proof.Machine
end

