-- ==== Sys2Proof/Machine/Dma.lean ====
section
/-!
DEFINITION. The DMA engine (R364, R367 to R376), the gaps of the interrupt sources (R366), and what a Function Level
Reset or a PCIe link-down does to a context (R356).
-/
namespace Sys2Proof.Machine

/-- A DMA channel and a context number the device has; channel `4h + j` is HCh's local channel `j` (R367). -/
def chanOk (n : Nat) : Bool := decide (n < 16)
def ctxOk (h : Nat) : Bool := decide (h < 4)

/-- Offset of a register of a local channel (R378). -/
def dmReg (j o : Nat) : Nat := 0x020000 + 0x40 * j + o

/-- A channel's register, private to its context. -/
def Dev.dmGet (d : Dev) (ch o : Nat) : Word := d.regOf (ch / 4) (dmReg (ch % 4) o)
def Dev.dmSet (d : Dev) (ch o : Nat) (v : Word) : Dev := d.setRegOf (ch / 4) (dmReg (ch % 4) o) v

/-- DM_STATUS.STATE: 0 IDLE, 1 RUNNING, 2 STOPPING, 3 HALTED. -/
def Dev.dmState (d : Dev) (ch : Nat) : Nat := fld (d.dmGet ch 4) 0 2
def Dev.setDmState (d : Dev) (ch st : Nat) : Dev := d.dmSet ch 4 (setFld (d.dmGet ch 4) 0 2 st)
/-- A chain runs on the channel. -/
def Dev.dmRuns (d : Dev) (ch : Nat) : Bool := d.dmState ch == 1 || d.dmState ch == 2

/-- The event source of a context's DMA (R472). -/
def dmSource (ch : Nat) : Nat := 0x0200 + ch / 4

/-! ### Descriptors (R368 to R370) -/

/-- A descriptor's fields. -/
def parseDesc (addr : Nat) (b : List Byte) : Desc :=
  { addr := addr, src := u64 b 0, dst := u64 b 8, next := u64 b 0x10, len := u32 b 0x18, srcSpace := bits (u8 b 0x1C) 0 2,
    dstSpace := bits (u8 b 0x1C) 2 2, mode := bits (u8 b 0x1D) 0 2, elem := 1 + b2n (bit (u8 b 0x1D) 2), nplane := u8 b 0x1E,
    plane := u8 b 0x1F, stride := u64 b 0x20, end_ := bit (u8 b 0x28) 0, irq := bit (u8 b 0x28) 1, wb := bit (u8 b 0x28) 2 }

/-- A descriptor whose codes and lengths are host errors (R368, R370). -/
def descBad (b : List Byte) (x : Desc) : Bool :=
  2 ≤ x.srcSpace || x.dstSpace = 3 || 16 ≤ u8 b 0x1C || 8 ≤ u8 b 0x1D || x.len < 64
    || (x.mode ≠ 0 && !(decide (2 ≤ x.nplane) && decide (x.nplane ≤ 8)))
    || (x.mode = 3 && decide (x.nplane ≤ x.plane)) || (x.mode = 1 && x.dstSpace = 2)

/-- A descriptor that breaks the alignment rule (R369). -/
def Desc.misaligned (x : Desc) : Bool :=
  x.src % 64 ≠ 0 || (x.dstSpace ≠ 2 && x.dst % 64 ≠ 0) || ((x.mode = 1 || x.mode = 2) && x.stride % 64 ≠ 0)
    || (if x.mode = 0 then x.len % 64 ≠ 0 else (x.len % x.nplane ≠ 0 || x.len / x.nplane % 64 ≠ 0))

/-- Where byte `i` of LEN stands on the side taken apart: its plane and its offset from the start (R370). -/
def Desc.scatter (x : Desc) (i : Nat) : Nat × Nat :=
  let e := i / x.elem / x.nplane
  let k := i / x.elem % x.nplane
  (k, k * x.stride + e * x.elem + i % x.elem)

/-- The byte ranges of a descriptor's source and destination: start and length. -/
def Desc.srcRanges (x : Desc) : List (Nat × Nat) :=
  if x.mode = 2 then (List.range x.nplane).map (fun k => (x.src + k * x.stride, x.len / x.nplane)) else [(x.src, x.len)]
def Desc.dstRanges (x : Desc) : List (Nat × Nat) :=
  if x.mode = 1 then (List.range x.nplane).map (fun k => (x.dst + k * x.stride, x.len / x.nplane))
  else if x.mode = 3 then [(x.dst, x.len / x.nplane)] else [(x.dst, x.len)]

/-! ### DRAM rights (R364, R390) -/

/-- The region an address lies in. -/
def Forme.regionAt (f : Forme) (a : Nat) : Option Region :=
  f.dram.regions.find? (fun r => decide (r.base * 65536 ≤ a) && decide (a < (r.base + r.size) * 65536))

/-- The planes a JOB region holds. -/
def Forme.regionPlanes (f : Forme) (r : Region) : List Nat := (f.planes.filter (fun p => p.region == r.id)).map (·.c)

/-- A context may use a region by DMA: a HOST or FRAME region of its own, or a JOB region of a plane whose queue it owns
(R364); a standby refuses JOB regions (R390). -/
def Dev.mayUse (d : Dev) (f : Forme) (h : Nat) (r : Region) : Bool :=
  if r.kind = 3 || r.kind = 1 then r.owner == h
  else r.kind == 0 && !d.standby && (f.regionPlanes r).any (fun c => d.owner 0 c == some h)

/-- The first address of a range that the context may not reach, by 64 KiB units, in at most `fuel` units. -/
def Dev.firstBad (d : Dev) (f : Forme) (h : Nat) : Nat → Nat → Nat → Option Nat
  | 0, a, _ => some a
  | fuel + 1, a, n =>
    if n = 0 then none
    else
      match f.regionAt a with
      | some r =>
        if d.mayUse f h r then
          let k := (r.base + r.size) * 65536 - a
          if n ≤ k then none else d.firstBad f h fuel (a + k) (n - k)
        else some a
      | none => some a

/-- A DRAM range refused: class 0xFE and the region's OWNER; none where it is allowed (R364, R375). -/
def Dev.dramRefused (d : Dev) (f : Forme) (h : Nat) (rs : List (Nat × Nat)) : Option (Nat × Nat) :=
  rs.findSome? (fun r =>
    (d.firstBad f h 257 r.1 r.2).map (fun a =>
      (0xFE, match f.regionAt a with | some g => g.owner | none => 0xFF)))

/-- Why a descriptor is refused (R364, R368, R375, R390): the class and owner of its record. -/
def Dev.descRefused (d : Dev) (h : Nat) (x : Desc) : Option (Nat × Nat) :=
  let f := d.forme
  let dram := fun rs => match f with | some f => d.dramRefused f h rs | none => some (0xFE, 0xFF)
  let src := if x.srcSpace = 1 then dram x.srcRanges else none
  match src with
  | some r => some r
  | none =>
    if x.dstSpace = 1 then dram x.dstRanges
    else if x.dstSpace = 2 then
      (if 8 ≤ x.dst then some (0xFD, 0xFF)
       else if x.dst / 2 ≠ h then some (0xFD, x.dst / 2)
       else if fld (d.reg (cmpReg x.dst 0x10)) 0 2 ≠ 1 || d.standby then some (0xFD, h)
       else none)
    else none

/-! ### Chains (R367, R373 to R376) -/

/-- The channel asks for its next descriptor, where its address is aligned. -/
def Dev.askDesc (d : Dev) (ch : Nat) : Dev :=
  let a := (d.chan ch).next
  if a % 64 = 0 then d.hostRead (ch / 4) a 64 else d

/-- A chain starts at a head. -/
def Dev.startChain (d : Dev) (ch head : Nat) : Dev :=
  ((d.setChan ch { (d.chan ch) with next := head, desc := none, moved := 0, pending := none }).setDmState ch 1).askDesc ch

/-- A channel halts: RESULT, VALID, SEQ, RESIDUE, the pending chain discarded, its source signalled (R366). -/
def Dev.haltChan (d : Dev) (ch result : Nat) (residue : Word) : Dev :=
  let st := d.dmGet ch 4
  let d := d.dmSet ch 4 (windowNext st (setFld (setFld (setFld st 0 2 3) 20 3 result) 3 1 0))
  let d := d.dmSet ch 0x1C residue
  (d.setChan ch { (d.chan ch) with desc := none, pending := none }).fireIrq (ch / 4) (3 + ch % 4)

/-- The status of a descriptor in the host's memory: DONE with RESULT, and RESIDUE (R368). -/
def Dev.writeBack (d : Dev) (ch : Nat) (x : Desc) (result residue : Nat) : Dev :=
  d.hostWrite (ch / 4) (x.addr + 0x30) (leBytes 4 (0x80000000 + result * 0x10000000) ++ leBytes 4 residue)

/-- A burst of a channel's data is wanted from its host. -/
def Dev.askData (d : Dev) (ch : Nat) : Dev :=
  let c := d.chan ch
  match c.desc with
  | some x =>
    if x.srcSpace = 0 && decide (c.moved < x.len) then
      let n := min 4096 (x.len - c.moved)
      if x.mode = 2 then
        (List.range x.nplane).foldl (fun d k =>
          let is := ((List.range n).map (· + c.moved)).filter (fun i => (x.scatter i).1 == k)
          match is.head? with
          | some i => d.hostRead (ch / 4) (x.src + (x.scatter i).2) is.length
          | none => d) d
      else d.hostRead (ch / 4) (x.src + c.moved) n
    else d
  | none => d

/-- Non-responding memory (R376): RESIDUE is free where no descriptor was read (log entry 38). -/
def Dev.nonResponding (d : Dev) (ch kind addr : Nat) : Dev :=
  let c := d.chan ch
  let (res, d) : Word × Dev := match c.desc with
    | some x => (BitVec.ofNat 32 (x.len - c.moved), d)
    | none => d.freeWord
  let d := match c.desc with
    | some x => if kind = 4 || !(d.hostReachable (ch / 4)) then d else d.writeBack ch x 3 (x.len - c.moved)
    | none => d
  let d := d.haltChan ch 3 res
  d.raiseTo (ch / 4) 0x0017 (dmSource ch) (BitVec.ofNat 32 (ch % 4 + 256 * kind)) (BitVec.ofNat 32 addr)

/-- DM_DOORBELL (R367): the chain starts, waits, or is dropped. -/
def Dev.doorbell (d : Dev) (ch : Nat) : Dev :=
  let h := ch / 4
  let d := d.count (608 + 8 * h + 2) 1
  let d := d.dmSet ch 4 (setFld (d.dmGet ch 4) 31 1 0)
  let head := (d.dmGet ch 8).toNat + (d.dmGet ch 0xC).toNat * 4294967296
  if d.dmRuns ch then
    if (d.chan ch).pending.isSome then d.dmSet ch 4 (setFld (d.dmGet ch 4) 4 1 1)
    else (d.setChan ch { (d.chan ch) with pending := some head }).dmSet ch 4 (setFld (d.dmGet ch 4) 3 1 1)
  else d.startChain ch head

/-- A write of DM_DOORBELL of a local channel. -/
def Dev.writeDoorbell (d : Dev) (w : Writer) (j : Nat) : Eff :=
  d.guarded w (dmReg j 0x10) (fun _ _ _ d => .ok (d.doorbell (4 * d.window w + j)))

/-- A descriptor refused before anything moves: MISALIGNED or OWNER, with RESIDUE = LEN (R369, R375). -/
def Dev.refuseDesc (d : Dev) (ch : Nat) (x : Desc) (why : Option (Nat × Nat)) : Dev :=
  let h := ch / 4
  let d := d.setChan ch { (d.chan ch) with desc := some x }
  let res := BitVec.ofNat 32 x.len
  match why with
  | none => (d.haltChan ch 2 res).raiseTo h 0x0016 (dmSource ch) (BitVec.ofNat 32 (ch % 4)) (BitVec.ofNat 32 x.addr)
  | some (cls, o) =>
    ((d.haltChan ch 5 res).count (608 + 8 * h + 4) 1).raiseTo h 0x0021 (0x0100 + h)
      (BitVec.ofNat 32 (dmReg (ch % 4) 0 + cls * 16777216)) (BitVec.ofNat 32 o)

/-- DESCRIPTOR_FETCH (R368, R369, R375): the bytes read are checked, and the descriptor taken up; DM_CUR follows it. -/
def Dev.fetchDesc (d : Dev) (ch : Nat) (b : List Byte) : Eff :=
  let c := d.chan ch
  let h := ch / 4
  if !(d.dmRuns ch) || c.desc.isSome then .ok d
  else
    let d := (d.dmSet ch 0x14 (BitVec.ofNat 32 c.next)).dmSet ch 0x18 (BitVec.ofNat 32 (c.next / 4294967296))
    if c.next % 64 ≠ 0 then
      let (res, d) := d.freeWord
      .ok ((d.haltChan ch 2 res).raiseTo h 0x0016 (dmSource ch) (BitVec.ofNat 32 (ch % 4)) (BitVec.ofNat 32 c.next))
    else if !(d.hostReachable h) then .ok (d.nonResponding ch 1 c.next)
    else
      let x := parseDesc c.next (padTo 64 0 b)
      if descBad (padTo 64 0 b) x then hostError 368
      else if x.misaligned then .ok (d.refuseDesc ch x none)
      else
        match d.descRefused h x with
        | some r => .ok (d.refuseDesc ch x (some r))
        | none => .ok ((d.setChan ch { c with desc := some x, moved := 0 }).askData ch)

/-! ### Bursts (R370, R371) -/

/-- A channel has a burst to move. -/
def Dev.burstReady (d : Dev) (ch : Nat) : Bool :=
  d.dmRuns ch && (match (d.chan ch).desc with | some x => decide ((d.chan ch).moved < x.len) | none => false)

/-- A context has a channel with a burst to move. -/
def Dev.ctxReady (d : Dev) (h : Nat) : Bool := (List.range 4).any (fun j => d.burstReady (4 * h + j))

/-- The context whose burst comes next: weighted round robin (R371). -/
def Dev.nextCtx (d : Dev) : Option Nat :=
  if 0 < d.host.rrLeft && d.ctxReady d.host.rrCtx then some d.host.rrCtx
  else ((List.range 4).map (fun i => (d.host.rrCtx + 1 + i) % 4)).find? d.ctxReady

/-- The channel whose burst comes next: its context's channels in round robin (R371). -/
def Dev.nextChan (d : Dev) : Option Nat :=
  d.nextCtx.bind (fun h =>
    (((List.range 4).map (fun i => (Sparse.get (fun _ => 3) d.host.rrChan h + 1 + i) % 4)).map (4 * h + ·)).find? d.burstReady)

/-- The round robin moves on past a burst of a channel. -/
def Dev.tookBurst (d : Dev) (ch : Nat) : Dev :=
  let h := ch / 4
  let left := if h = d.host.rrCtx && 0 < d.host.rrLeft then d.host.rrLeft - 1 else fld (d.reg (0x0100C0 + 4 * h)) 0 4 - 1
  { d with host := { d.host with rrCtx := h, rrLeft := left,
                                 rrChan := Sparse.set (fun _ => 3) d.host.rrChan h (ch % 4) } }

/-- A DRAM address as the device holds it: a JOB region through the job home map (R381). -/
def Dev.dmaAddr (d : Dev) (f : Forme) (a : Nat) : Nat :=
  match f.regionAt a with
  | some r => if r.kind = 0 then d.homeOf f r + (a - r.base * 65536) else a
  | none => a

/-- DRAM read by the engine, cut at 64 KiB: bytes, whether uncorrectable, the device. -/
def Dev.dmaRead (d : Dev) (f : Forme) : Nat → Nat → Nat → List Byte × Bool × Dev
  | 0, _, _ => ([], false, d)
  | fuel + 1, a, n =>
    if n = 0 then ([], false, d)
    else
      let k := min n (65536 - a % 65536)
      let (bs, bad, d) := d.portRead 10 (d.dmaAddr f a) k false
      let (cs, bad', d) := d.dmaRead f fuel (a + k) (n - k)
      (bs ++ cs, !bad.isEmpty || bad', d)

/-- DRAM written by the engine, mirrored where it lies in a JOB region (R393). -/
def Dev.dmaWrite (d : Dev) (f : Forme) : Nat → Nat → List Byte → Dev
  | 0, _, _ => d
  | fuel + 1, a, bs =>
    if bs.isEmpty then d
    else
      let k := 65536 - a % 65536
      let d := match f.regionAt a with
        | some r => if r.kind = 0 then d.jobWrite f r (a - r.base * 65536) (bs.take k) else d.portWrite a (bs.take k)
        | none => d
      d.dmaWrite f fuel (a + k) (bs.drop k)

/-- The bytes of a burst, in the order LEN counts them, from DRAM. -/
def Dev.burstRead (d : Dev) (f : Forme) (x : Desc) (i n : Nat) : List Byte × Bool × Dev :=
  if x.mode = 2 then
    let is := (List.range n).map (· + i)
    let (parts, bad, d) := (List.range x.nplane).foldl (fun (acc : List (Nat × List Byte) × Bool × Dev) k =>
      let mine := is.filter (fun j => (x.scatter j).1 == k)
      match mine.head? with
      | some j =>
        let a := (x.scatter j).2
        let (bs, bad, d) := acc.2.2.dmaRead f 2 (x.src + a) mine.length
        (acc.1 ++ [(a, bs)], acc.2.1 || bad, d)
      | none => (acc.1 ++ [(0, [])], acc.2.1, acc.2.2)) ([], false, d)
    (is.map (fun j =>
      let (k, o) := x.scatter j
      let (a, bs) := parts.getD k (0, [])
      bs.getD (o - a) 0), bad, d)
  else d.dmaRead f 2 (x.src + i) n

/-- The writes of a burst at byte `i` of LEN: address and bytes of each run (R370). -/
def Desc.burstWrites (x : Desc) (i : Nat) (bs : List Byte) : List (Nat × List Byte) :=
  let js := ((List.range bs.length).map (· + i)).zip bs
  if x.mode = 1 then
    (List.range x.nplane).filterMap (fun k =>
      let mine := js.filter (fun j => (x.scatter j.1).1 == k)
      mine.head?.map (fun j => (x.dst + (x.scatter j.1).2, mine.map (·.2))))
  else if x.mode = 3 then
    let mine := js.filter (fun j => (x.scatter j.1).1 == x.plane)
    match mine.head? with
    | some j => [(x.dst + j.1 / x.elem / x.nplane * x.elem + j.1 % x.elem, mine.map (·.2))]
    | none => []
  else [(x.dst + i, bs)]

/-- A burst's bytes reach the destination. -/
def Dev.burstWrite (d : Dev) (h : Nat) (x : Desc) (i : Nat) (bs : List Byte) : Eff :=
  (x.burstWrites i bs).foldl (fun e r =>
    match e with
    | .error k => .error k
    | .ok d =>
      if x.dstSpace = 2 then d.feedStore x.dst r.2
      else if x.dstSpace = 1 then .ok (match d.forme with | some f => d.dmaWrite f 2 r.1 r.2 | none => d)
      else .ok (d.hostWrite h r.1 r.2)) (.ok d)

/-- DMA_BURST (R371): the channel next in turn moves its next bytes; `b` are those a host gave, in the order LEN counts
them (log entries 36, 37). -/
def Dev.burst (d : Dev) (ch : Nat) (b : List Byte) : Eff :=
  let h := ch / 4
  let c := d.chan ch
  match c.desc with
  | none => .ok d
  | some x =>
    if d.nextChan ≠ some ch || ((x.srcSpace = 1 || x.dstSpace = 1) && d.dramBusy) then .ok d
    else if x.srcSpace = 0 && !(d.hostReachable h) then .ok (d.nonResponding ch 2 (x.src + c.moved))
    else if x.dstSpace = 0 && !(d.hostReachable h) then .ok (d.nonResponding ch 3 (x.dst + c.moved))
    else
      let n := min 4096 (x.len - c.moved)
      let (bs, bad, d) : List Byte × Bool × Dev :=
        if x.srcSpace = 0 then (b.take n, false, d)
        else match d.forme with
          | some f => d.burstRead f x c.moved n
          | none => ([], true, d)
      if bad then .ok ((d.tookBurst ch).nonResponding ch 2 (x.src + c.moved))
      else if bs.isEmpty then .ok d
      else
        match (d.tookBurst ch).burstWrite h x c.moved bs with
        | .error e => .error e
        | .ok d =>
          let m := c.moved + bs.length
          .ok (((d.setChan ch { (d.chan ch) with moved := m }).count (608 + 8 * h) (m / 64 - c.moved / 64)).askData ch)

/-! ### Completion, STOP and ABORT (R373, R374) -/

/-- WR_DATA to a descriptor's destination that the peer has not acknowledged (R373). -/
def Dev.unackedWrites (d : Dev) (h : Nat) (x : Desc) : Bool :=
  x.dstSpace == 0 && ((d.ctx h).unacked.map (·.bytes) ++ (d.ctx h).waiting).any (fun b =>
    u8 b 3 == 0x91 && x.dstRanges.any (fun r => decide (r.1 ≤ u64 b 0x10) && decide (u64 b 0x10 < r.1 + r.2)))

/-- DESCRIPTOR_COMPLETE (R373): status written back, counts, the source signalled, and the next descriptor, or the end
of the chain. -/
def Dev.completeDesc (d : Dev) (ch : Nat) : Dev :=
  let h := ch / 4
  let c := d.chan ch
  match c.desc with
  | none => d
  | some x =>
    if !(d.dmRuns ch) || c.moved < x.len || d.unackedWrites h x then d
    else
      let d := if x.wb then d.writeBack ch x 0 0 else d
      let d := (d.dmSet ch 0x20 (d.dmGet ch 0x20 + 1)).count (608 + 8 * h + 1) 1
      let d := if x.irq then d.fireIrq h (3 + ch % 4) else d
      let d := d.setChan ch { (d.chan ch) with desc := none, moved := 0, next := x.next }
      if d.dmState ch = 2 then d.haltChan ch 1 0
      else if x.end_ then
        let st := d.dmGet ch 4
        let d := d.dmSet ch 4 (windowNext st (setFld (setFld (setFld st 0 2 0) 20 3 0) 3 1 0))
        match (d.chan ch).pending with
        | some head => d.startChain ch head
        | none => d
      else d.askDesc ch

/-- DM_CTRL.STOP (R374): the channel stops at its next descriptor boundary, at once between descriptors. -/
def Dev.stopChan (d : Dev) (ch : Nat) : Dev :=
  if d.dmState ch = 1 then (if (d.chan ch).desc.isSome then d.setDmState ch 2 else d.haltChan ch 1 0) else d

/-- A write of DM_CTRL of a local channel. -/
def Dev.writeDmCtrl (d : Dev) (w : Writer) (j : Nat) (v : Word) : Eff :=
  d.guarded w (dmReg j 0) (fun _ _ _ d => .ok (if flag v 0 then d.stopChan (4 * d.window w + j) else d))

/-- One channel halts by ABORT. -/
def Dev.abortChan (d : Dev) (ch : Nat) : Dev :=
  match (d.chan ch).desc with
  | some x =>
    let left := x.len - (d.chan ch).moved
    (d.writeBack ch x 4 left).haltChan ch 4 (BitVec.ofNat 32 left)
  | none => let (res, d) := d.freeWord; d.haltChan ch 4 res

/-- DMA_CTRL.ABORT (R374): the context's running channels halt, EV_DMA_ABORTED is raised once, and its open stores
end. -/
def Dev.abortCtx (d : Dev) (h : Nat) : Dev :=
  let on := (List.range 4).filter (fun j => d.dmRuns (4 * h + j))
  let d := on.foldl (fun d j => d.abortChan (4 * h + j)) d
  let (w, d) := d.freeWord
  (d.raiseTo h 0x0018 (dmSource (4 * h)) (BitVec.ofNat 32 ((on.map (fun j => 2 ^ j)).sum)) w).abortStores h

/-- A write of DMA_CTRL. -/
def Dev.writeDmaCtrl (d : Dev) (w : Writer) (v : Word) : Eff :=
  d.guarded w 0x020100 (fun _ _ _ d => .ok (if flag v 0 then d.abortCtx (d.window w) else d))

/-- NON_RESPONDING_MEMORY (R376): an access of that kind was on its way. -/
def Dev.memoryFails (d : Dev) (ch : Nat) (kind : NonRespKind) (addr : Nat) : Dev :=
  let c := d.chan ch
  if !(d.dmRuns ch) then d
  else
    match kind, c.desc with
    | .fetch, none => d.nonResponding ch 1 addr
    | .source, some x => if c.moved < x.len then d.nonResponding ch 2 addr else d
    | .destination, some _ => d.nonResponding ch 3 addr
    | .writeBack, some x => if x.wb && c.moved = x.len then d.nonResponding ch 4 addr else d
    | _, _ => d

/-! ### Interrupt gaps and MSI-X (R366) -/

/-- An occurrence held for a source may be signalled now. -/
def Dev.irqDue (d : Dev) (h s : Nat) : Bool :=
  let c := d.ctx h
  let last := Sparse.get (fun _ => 0) c.lastIrq s
  c.held.contains s && (last == 0 || decide (last + d.irqGap h ≤ d.now + 1)) && flag (d.regOf h (0x010080 + 4 * s)) 31

/-- Held occurrences are signalled: those of all the sources due over Ethernet, of the one source over PCIe. -/
def Dev.irqRelease (d : Dev) (h : Nat) (srcs : List Nat) : Dev :=
  let on := srcs.filter (d.irqDue h)
  if on.isEmpty || !(d.hostReachable h) then d
  else
    let c := d.ctx h
    (d.setCtx h { c with
      lastIrq := on.foldl (fun m s => Sparse.set (fun _ => 0) m s (d.now + 1)) c.lastIrq,
      held := c.held.filter (fun s => !(on.contains s)),
      unann := if on.contains 0 then 0 else c.unann }).sendIrq h on

/-- IRQ_GAP_EXPIRE (R366): the oldest unannounced record is GAP old, or a source's gap has passed. -/
def Dev.irqGapEnd (d : Dev) (h src : Nat) : Dev :=
  let c := d.ctx h
  let d := if src = 0 && 0 < c.unann && !(c.held.contains 0) && decide (c.oldest + d.irqGap h ≤ d.now) then d.fireIrq h 0 else d
  d.irqRelease h (if (d.enPort h).isSome then List.range 8 else [src])

/-- A write of an MSI-X vector control word: unmasking a vector with its pending bit set sends its message. -/
def Dev.writeMsixMask (d : Dev) (w : Writer) (v : Nat) (x : Word) : Eff :=
  d.guarded w (0x01100C + 16 * v) (fun r _ _ d =>
    let h := d.window w
    let d := d.storeReg w (0x01100C + 16 * v) r x
    .ok (if !(flag x 0) && flag (d.regOf h 0x011200) v then
      ((d.setRegOf h 0x011200 (setFlag (d.regOf h 0x011200) v false)).emit (.msix h v)).count (608 + 8 * h + 5) 1 else d))

/-! ### Function Level Reset (R356) -/

/-- The MSI-X table and pending bits of a context at their reset state. -/
def Dev.msixReset (d : Dev) (h : Nat) : Dev :=
  let d := (List.range 128).foldl (fun d i => d.setRegOf h (0x011000 + 4 * i) (regDefault (regKey h (0x011000 + 4 * i)))) d
  d.setRegOf h 0x011200 0

/-- A bound endpoint's context after an FLR, or after a link-down, which also fails the requests in flight. -/
def Dev.flrCtx (d : Dev) (h : Nat) (linkDown : Bool) : Dev :=
  let d := if linkDown then
      (List.range 4).foldl (fun d j =>
        let ch := 4 * h + j
        let c := d.chan ch
        if d.dmRuns ch then
          (match c.desc with
           | none => d.nonResponding ch 1 c.next
           | some x => if x.srcSpace = 0 && decide (c.moved < x.len) then d.nonResponding ch 2 (x.src + c.moved) else d)
        else d) d
    else d
  let d := d.abortCtx h
  (d.setRegOf h 0x010004 (setFld (d.regOf h 0x010004) 0 2 0)).msixReset h

/-- The context bound to PCIe endpoint `n` is reset. -/
def Dev.flr (d : Dev) (n : Nat) (linkDown : Bool) : Dev :=
  ((List.range 4).filter (fun h => d.boundTo h n)).foldl (fun d h => d.flrCtx h linkDown) d

/-! ### The commands -/

/-- DM_DOORBELL (R367). -/
def execDmDoorbell (t h j : Nat) (s : State) : Res :=
  onUnitE (ctxOk h && decide (j < 4)) t (fun d => d.writeDoorbell (.host h) j) s
/-- STOP (R374): DM_CTRL of a local channel is written. -/
def execDmStop (t h j : Nat) (v : Word) (s : State) : Res :=
  onUnitE (ctxOk h && decide (j < 4)) t (fun d => d.writeDmCtrl (.host h) j v) s
/-- ABORT (R374): DMA_CTRL is written. -/
def execDmAbort (t h : Nat) (v : Word) (s : State) : Res := onUnitE (ctxOk h) t (fun d => d.writeDmaCtrl (.host h) v) s
/-- DESCRIPTOR_FETCH (R369). -/
def execDescriptorFetch (t ch : Nat) (b : List Byte) (s : State) : Res := onUnitE (chanOk ch) t (fun d => d.fetchDesc ch b) s
/-- DMA_BURST (R371). -/
def execDmaBurst (t ch : Nat) (b : List Byte) (s : State) : Res := onUnitE (chanOk ch) t (fun d => d.burst ch b) s
/-- DESCRIPTOR_COMPLETE (R373). -/
def execDescriptorComplete (t ch : Nat) (s : State) : Res := onUnit (chanOk ch) t (fun d => d.completeDesc ch) s
/-- NON_RESPONDING_MEMORY (R376). -/
def execNonRespondingMemory (t ch : Nat) (kind : NonRespKind) (addr : Nat) (s : State) : Res :=
  onUnit (chanOk ch) t (fun d => d.memoryFails ch kind addr) s
/-- IRQ_GAP_EXPIRE (R366). -/
def execIrqGapExpire (t h src : Nat) (s : State) : Res :=
  onUnit (ctxOk h && decide (src < 8)) t (fun d => d.irqGapEnd h src) s
/-- FUNCTION_LEVEL_RESET (R356). -/
def execFunctionLevelReset (t n : Nat) (linkDown : Bool) (s : State) : Res :=
  onUnit (decide (n < 2)) t (fun d => d.flr n linkDown) s
/-- PCIE_LINK_TRAINED (R355). -/
def execPcieLinkTrained (t n speed width : Nat) (s : State) : Res :=
  onUnit (decide (n < 2)) t (fun d =>
    if speed < 4 || width < 4 then
      let (w, d) := d.freeWord
      d.raiseAll 0x0009 (0x0110 + n) (BitVec.ofNat 32 (speed % 16 + width % 16 * 256)) w
    else d) s

end Sys2Proof.Machine
end

