-- ==== Sys2Proof/Machine/Camera.lean ====
section
/-!
DEFINITION. Camera ports and channels (R241 to R250): packets, frames, hits, the port buffer, and the CCI master.
-/
namespace Sys2Proof.Machine

/-- Offsets of a port's CAM registers and of its half of the ISP block (R271). -/
def camReg (p o : Nat) : Nat := 0x0B0000 + 0x400 * p + o
def ispReg (p o : Nat) : Nat := 0x0C0000 + 0x1000 * p + o

/-- A port and a VC the device has. -/
def camUnit (p vc : Nat) : Bool := decide (p < 8) && decide (vc < 16)

/-- The channel of a port and VC (R49, R245). -/
def Dev.chanCfg (d : Dev) (p vc : Nat) : Option ChanCfg :=
  (d.forme.bind (·.cam)).bind (fun c => c.chans.find? (fun x => x.port == p && x.vc == vc))

/-- The event source of a port (R472). -/
def camSource (p : Nat) : Nat := 0x0B00 + p

/-- A packet discarded and counted (R243). -/
def Dev.camDiscard (d : Dev) (p : Nat) : Dev := d.bump (camReg p 0x14)

/-! ### Packed samples (R252) -/

/-- Samples of a packet as CSI-2 packs them, the high bits of each sample first; RAW16 sends its high byte first (log
entry 40). -/
def unpackRaw10 : List Byte → List Nat
  | a :: b :: c :: e :: l :: rest =>
    [a, b, c, e].mapIdx (fun i x => 4 * x.toNat + bits l.toNat (2 * i) 2) ++ unpackRaw10 rest
  | _ => []
def unpackRaw12 : List Byte → List Nat
  | a :: b :: l :: rest => [16 * a.toNat + bits l.toNat 0 4, 16 * b.toNat + bits l.toNat 4 4] ++ unpackRaw12 rest
  | _ => []
def unpackRaw14 : List Byte → List Nat
  | a :: b :: c :: e :: x :: y :: z :: rest =>
    let low := x.toNat + 256 * y.toNat + 65536 * z.toNat
    [a, b, c, e].mapIdx (fun i q => 64 * q.toNat + bits low (6 * i) 6) ++ unpackRaw14 rest
  | _ => []
def unpackRaw16 : List Byte → List Nat
  | a :: b :: rest => (256 * a.toNat + b.toNat) :: unpackRaw16 rest
  | _ => []

/-- Step 1: samples of the channel's type, of b bits, times 2^(16 − b) (R252). -/
def unpackLine (dt : Nat) (data : List Byte) : List Nat :=
  match dt with
  | 0x2B => (unpackRaw10 data).map (· * 64)
  | 0x2C => (unpackRaw12 data).map (· * 16)
  | 0x2D => (unpackRaw14 data).map (· * 4)
  | _ => unpackRaw16 data

/-! ### Frames (R245 to R248, R259) -/

/-- The frame of a channel that is open. -/
def CamChan.open? (c : CamChan) : Option CamFrame := c.frames.find? (·.isOpen)
/-- The open frame replaced. -/
def CamChan.setOpen (c : CamChan) (f : CamFrame) : CamChan := { c with frames := c.frames.map (fun g => if g.isOpen then f else g) }
/-- The open frame closes. -/
def CamChan.close (c : CamChan) : CamChan := { c with frames := c.frames.map (fun g => { g with isOpen := false }) }

/-- A packet of a VC came: its open frame does not time out (R245). -/
def Dev.camHeard (d : Dev) (p vc : Nat) : Dev :=
  let c := d.camChan p vc
  match c.open? with
  | some f => d.setCamChan p vc (c.setOpen { f with last := d.now })
  | none => d

/-- A kind of damage joins a frame (R262, R263). -/
def CamFrame.damage (f : CamFrame) (k : Nat) : CamFrame := { f with kinds := if f.kinds.contains k then f.kinds else f.kinds ++ [k] }

/-- A register of a frame's port as the hand-over found it (R259). -/
def CamFrame.reg (f : CamFrame) (off : Nat) : Word := Sparse.get regDefault f.isp off

/-- An enabled window of a VC that is a host error (R264): past WIDTH, too large, or of TAP 3. -/
def winBad (width : Nat) (ctrl x y : Word) : Bool :=
  width < fld x 0 13 + fld x 16 13 || fld ctrl 7 2 = 3
    || (fld ctrl 1 2 ≤ 1 && decide (65536 < fld x 16 13 * fld y 16 16))

/-- The windows of a VC, enabled, in rising number. -/
def winsOf (reg : Nat → Word) (p vc : Nat) : List Nat :=
  (List.range 32).filter (fun w => flag (reg (ispReg p (0x800 + 0x20 * w))) 0 && fld (reg (ispReg p (0x800 + 0x20 * w))) 3 4 == vc)

/-- The hit a Frame Start takes, with the hits discarded as too old (R247). -/
def takeHit (now limit : Nat) : List CamHit → Option CamHit × List CamHit × Nat
  | [] => (none, [], 0)
  | h :: rest =>
    if now ≤ h.at_ + limit then (some h, rest, 0)
    else (let (x, r, n) := takeHit now limit rest; (x, r, n + 1))

/-- The 16th frame start of a port tells its lanes found, which no command carries: a free number of them up to LANES
(R242, log entry 41). -/
def Dev.lanesFound (d : Dev) (p : Nat) : Dev :=
  let x := d.camPort p
  let d := d.setCamPort p { x with starts := x.starts + 1 }
  if x.starts = 15 then
    let lanes := match d.forme.bind (·.cam) with | some c => c.lanes.getD p 1 | none => 1
    let (v, d) := d.takeFree
    let found := 1 + v % max lanes 1
    let d := d.setCamPort p { d.camPort p with lanes := found }
    if found < lanes then d.raiseAll 0x0009 (camSource p) (BitVec.ofNat 32 lanes) (BitVec.ofNat 32 found) else d
  else d

/-- The hand-over at a Frame Start (R259): LUT copies exchanged where SWAP waits; SHADOW_TAKEN counts a hand-over that
copied a write. -/
def Dev.handOver (d : Dev) (p prof : Nat) : Dev :=
  let x := d.camPort p
  let mine := fun (e : Nat × BitVec 16) => e.1 / 16384 == prof
  let x := if x.swap.contains prof then
      { x with
        front := (x.front.filter (fun e => !(mine e)) ++ x.back.filter mine).foldl (fun m e => Sparse.set (fun _ => 0) m e.1 e.2) [],
        back := (x.back.filter (fun e => !(mine e)) ++ x.front.filter mine).foldl (fun m e => Sparse.set (fun _ => 0) m e.1 e.2) [],
        swap := x.swap.filter (· != prof) }
    else x
  let d := if x.dirty then
      d.setReg (ispReg p 0xE00) (setFld (d.reg (ispReg p 0xE00)) 0 8 (fld (d.reg (ispReg p 0xE00)) 0 8 + 1))
    else d
  d.setCamPort p { x with dirty := false }

/-- The viewed line of a hit (R248), and whether no job runs. -/
def Dev.viewOf (d : Dev) (h : CamHit) : Word := if d.printing then low32 ((h.base - d.job.p0) / 64) else 0

/-- A Frame Start on a channel (R245, R247, R248, R259, R264). -/
def Dev.frameStart (d : Dev) (p vc fn : Nat) : Eff :=
  match d.chanCfg p vc with
  | none => .ok (d.camDiscard p)
  | some c =>
    let prof := fld (d.reg (camReg p (0x100 + 0x10 * vc))) 0 1
    let d := (d.lanesFound p).handOver p prof
    if (winsOf d.reg p vc).any (fun w => winBad c.width (d.reg (ispReg p (0x800 + 0x20 * w)))
        (d.reg (ispReg p (0x804 + 0x20 * w))) (d.reg (ispReg p (0x808 + 0x20 * w)))) then hostError 264
    else
      let x := (d.camChan p vc).close
      let (hit, hits, old) := takeHit d.now (fld (d.reg (camReg p 4)) 0 16 * 1000000) x.hits
      let d := d.bumpBy (camReg p 0x1C) old
      let port := d.camPort p
      let n := fld (d.reg (ispReg p 0xC08)) 0 11
      let dpc := (List.range n).map (fun i =>
        let e := Sparse.get (fun _ => (0 : Word)) port.dpc i
        (fld e 0 13, fld e 13 16))
      let f : CamFrame :=
        { num := x.num + 1, fn := fn % 65536, isOpen := true, last := d.now,
          pos := match hit with | some h => h.pos | none => d.p,
          sec := match hit with | some h => h.sec | none => d.clockSec % 4294967296,
          nsw := match hit with | some h => h.nsw | none => d.clockNsWord,
          view := match hit with | some h => d.viewOf h | none => 0,
          untrig := hit.isNone, nojob := !d.printing, profile := prof,
          isp := d.regs.filter (fun e => decide (ispReg p 0 ≤ e.1) && decide (e.1 < ispReg p 0x1000)),
          lut := port.front, dpc := dpc, emb := none, counts := [0, 0, 0, 0], kinds := [], crcErr := 0, eccCorr := 0,
          long := false, cut := false, lines := [], mosaic := [] }
      .ok (d.setCamChan p vc { x with frames := x.frames ++ [f], num := x.num + 1, hits := hits })

/-- A Frame End: it closes the open frame of its VC (R245). -/
def Dev.frameEnd (d : Dev) (p vc : Nat) : Dev :=
  if (d.chanCfg p vc).isSome && (d.camChan p vc).open?.isSome then d.setCamChan p vc (d.camChan p vc).close else d.camDiscard p

/-- An open frame that has received no packet for 100 ms closes (R245). -/
def Dev.frameTimeout (d : Dev) (p vc : Nat) : Dev :=
  match (d.camChan p vc).open? with
  | some f => if f.last + 100000000000 ≤ d.now then d.setCamChan p vc (d.camChan p vc).close else d
  | none => d

/-! ### Lines (R243, R246, R254, R260, R262) -/

/-- ISP_CFG of a frame's profile. -/
def CamFrame.cfg (f : CamFrame) (p : Nat) : Word := f.reg (ispReg p (0x400 * f.profile))
/-- Exposures of a frame (R246). -/
def CamFrame.exps (f : CamFrame) (p : Nat) : Nat := fld (f.cfg p) 9 2 + 1
/-- ISP_FILL of a frame's profile. -/
def CamFrame.fill (f : CamFrame) (p : Nat) : Nat := fld (f.reg (ispReg p (0x400 * f.profile + 0x28))) 0 16

/-- The exposure a data type carries; none for a type of neither (R243, R246). -/
def CamFrame.expOf (f : CamFrame) (p : Nat) (c : ChanCfg) (dt : Nat) : Option Nat :=
  if dt = c.dt then some 0
  else ((List.range (f.exps p)).filter (fun e => e != 0)).find? (fun e => dt == 0x30 + fld (f.cfg p) 6 3 + e - 1)

/-- Lines in a port's buffer: each exposure line counts, fill lines do not (R260). -/
def Dev.bufferUsed (d : Dev) (p : Nat) : Nat :=
  ((List.range 16).map (fun vc =>
    (((d.camChan p vc).frames.map (fun f => (f.lines.filter (fun l => !l.fill)).length)).sum))).sum

/-- A line of an exposure arrives in a frame (R246, R260, R262). -/
def Dev.lineIn (d : Dev) (p vc : Nat) (c : ChanCfg) (f : CamFrame) (e : Nat) (data : List Byte) (crcOk : Bool) : Dev :=
  let j := f.counts.getD e 0
  let f := { f with counts := f.counts.mapIdx (fun i n => if i = e then n + 1 else n) }
  let d := if crcOk then d else d.bump (camReg p 0x10)
  let f := if crcOk then f else { f with crcErr := min 65535 (f.crcErr + 1) }.damage 1
  let put := fun (d : Dev) (f : CamFrame) => d.setCamChan p vc ((d.camChan p vc).setOpen f)
  if c.height ≤ j then put d (if e = 0 then { f with long := true } else f)
  else if f.cut || j < f.mosaic.length then put d f
  else
    let seq := d.cam.seq
    let d : Dev := { d with cam := { d.cam with seq := seq + 1 } }
    if d.bufferUsed p < 64 then
      let px := unpackLine c.dt data
      let f := if px.length = c.width then f else f.damage 3
      let l : CamLine := { seq := seq, exp := e, idx := j, px := padTo c.width (f.fill p) px, bad := !crcOk,
                           real := min px.length c.width, fill := false }
      put d { f with lines := f.lines ++ [l] }
    else
      let d := (d.bump (camReg p 0x18)).count (512 + 16 * (p / 2) + 15) 1
      if c.cls = 0 then
        let l : CamLine := { seq := seq, exp := e, idx := j, px := List.replicate c.width (f.fill p), bad := false,
                             real := 0, fill := true }
        put d { f.damage 4 with lines := f.lines ++ [l] }
      else put d { f with cut := true }

/-- A long packet of a pixel type (R243, R246). -/
def Dev.linePacket (d : Dev) (p vc dt : Nat) (data : List Byte) (crcOk eccFixed : Bool) : Dev :=
  let d := if eccFixed then d.bump (camReg p 8) else d
  match d.chanCfg p vc, (d.camChan p vc).open? with
  | some c, some f =>
    let f := { f with last := d.now, eccCorr := if eccFixed then min 65535 (f.eccCorr + 1) else f.eccCorr }
    let d := d.setCamChan p vc ((d.camChan p vc).setOpen f)
    (match f.expOf p c dt with
     | some e => d.lineIn p vc c f e data crcOk
     | none => d.camDiscard p)
  | _, _ => d.camDiscard p

/-- Embedded data: the first 16 bytes of a frame's first packet (R246). -/
def Dev.embedded (d : Dev) (p vc : Nat) (data : List Byte) : Dev :=
  match d.chanCfg p vc with
  | none => d.camDiscard p
  | some _ =>
    match (d.camChan p vc).open? with
    | some f =>
      d.setCamChan p vc ((d.camChan p vc).setOpen { f with last := d.now, emb := if f.emb.isSome then f.emb else some (padTo 16 0 data) })
    | none => d

/-- Any other packet (R243, R262): an uncorrectable header damages every open frame of the port. -/
def Dev.otherPacket (d : Dev) (p vc dt : Nat) (eccBad : Bool) : Dev :=
  if eccBad then
    (List.range 16).foldl (fun d v =>
      match (d.camChan p v).open? with
      | some f => d.setCamChan p v ((d.camChan p v).setOpen (f.damage 2))
      | none => d) (d.bump (camReg p 0xC))
  else if dt = 0x10 || dt = 0x11 then d.camHeard p vc
  else if (d.chanCfg p vc).isNone then d.camDiscard p
  else if dt = 2 || dt = 3 || (decide (8 ≤ dt) && decide (dt ≤ 0xF)) then d.camHeard p vc
  else (d.camHeard p vc).camDiscard p

/-! ### Lines of the pipeline: steps 1 to 4 (R252 to R254, R260) -/

/-- The colour of a pixel: 0 R, 1 G, 2 B, 3 X (R252). -/
def cfaColour (cfg : Word) (x y : Nat) : Nat :=
  let m := if fld cfg 0 2 = 3 then 4 else 2
  let i := (x + fld cfg 2 2) % m
  let j := (y + fld cfg 4 2) % m
  match fld cfg 0 2 with
  | 0 => 0
  | 1 => ([[0, 1], [1, 2]].getD j []).getD i 0
  | 2 => ([[0, 1], [3, 2]].getD j []).getD i 0
  | _ => ([[2, 1, 0, 1], [1, 3, 1, 3], [0, 1, 2, 1], [1, 3, 1, 3]].getD j []).getD i 0

/-- Black level and gain of a colour (R252). -/
def CamFrame.blackGain (f : CamFrame) (p c u : Nat) : Nat :=
  let o := 0x400 * f.profile
  let pick := fun (lo hi : Nat) => if c < 2 then fld (f.reg (ispReg p (o + lo))) (16 * c) 16 else fld (f.reg (ispReg p (o + hi))) (16 * (c - 2)) 16
  min 65535 (((u - pick 4 8) * pick 0xC 0x10 + 2048) / 4096)

/-- A linearisation point of a profile. -/
def CamFrame.linPoint (f : CamFrame) (p k : Nat) : Nat :=
  fld (f.reg (ispReg p (0x400 * f.profile + 0x40 + 4 * (k / 2)))) (16 * (k % 2)) 16

/-- Linearisation (R253). -/
def CamFrame.linear (f : CamFrame) (p x : Nat) : Nat :=
  if flag (f.cfg p) 13 then
    let k := x / 1024
    let a : Int := f.linPoint p k
    let b : Int := f.linPoint p (k + 1)
    (a + (b - a) * ((x : Int) - 1024 * k) / 1024).toNat
  else x

/-- Steps 2 and 3 on a line. -/
def CamFrame.prepLine (f : CamFrame) (p y : Nat) (px : List Nat) : List Nat :=
  px.mapIdx (fun x u => f.linear p (f.blackGain p (cfaColour (f.cfg p) x y) u))

/-- HDR merge of a pixel's exposures (R254). -/
def CamFrame.merge (f : CamFrame) (p : Nat) (xs : List Nat) : Nat :=
  if xs.length ≤ 1 then xs.headD 0
  else
    let o := 0x400 * f.profile
    let h := f.reg (ispReg p (o + 0x14))
    let e := match (List.range xs.length).find? (fun e => decide (xs.getD e 0 < fld h 0 16)) with
      | some e => e
      | none => xs.length - 1
    let rho := if e = 0 then 256 else fld (f.reg (ispReg p (o + 0x14 + 4 * e))) 0 16
    min 65535 (xs.getD e 0 * rho / 256 / 2 ^ fld h 16 4)

/-- The next line of a frame is ready: its exposure lines are there, or exposure 0 is 16 lines on (R254). Its arrival
number is that of its exposure 0 line. -/
def CamFrame.ready (f : CamFrame) (p : Nat) : Option Nat :=
  let j := f.mosaic.length
  let have_ := fun e => f.lines.any (fun l => l.exp == e && l.idx == j)
  let late := f.lines.any (fun l => l.exp == 0 && decide (j + 16 ≤ l.idx))
  match f.lines.find? (fun l => l.exp == 0 && l.idx == j) with
  | some l => if late || (List.range (f.exps p)).all have_ then some l.seq else none
  | none => none

/-- A frame with its next line taken through steps 1 to 4 (R251): an absent exposure reads as all 65,535 and damages the
frame. -/
def CamFrame.step (f : CamFrame) (p width : Nat) : CamFrame :=
  let j := f.mosaic.length
  let of_ := fun e => f.lines.find? (fun l => l.exp == e && l.idx == j)
  let es := (List.range (f.exps p)).map (fun e => match of_ e with
    | some l => f.prepLine p j l.px
    | none => List.replicate width 65535)
  let absent := (List.range (f.exps p)).any (fun e => (of_ e).isNone)
  let mine := f.lines.filter (fun l => l.idx == j)
  let px := (List.range width).map (fun x => f.merge p (es.map (fun l => l.getD x 0)))
  let f := if absent then f.damage 5 else f
  { f with
    lines := f.lines.filter (fun l => l.idx != j),
    mosaic := f.mosaic ++ [{ px := px, bad := absent || mine.any (·.bad), real := mine.foldl (fun m l => min m l.real) width }] }

/-- The line a pipeline takes next: of a REGISTRATION channel first, the oldest ready (R260): port, VC and frame. -/
def Dev.camNextLine (d : Dev) (pl : Nat) : Option (Nat × Nat × CamFrame) :=
  let all := [2 * pl, 2 * pl + 1].flatMap (fun p =>
    (List.range 16).flatMap (fun vc =>
      match d.chanCfg p vc with
      | some c => (d.camChan p vc).frames.filterMap (fun f => (f.ready p).map (fun s => (c.cls, s, p, vc, f)))
      | none => []))
  let best := fun (cls : Nat) => (all.filter (fun a => a.1 == cls)).foldl
    (fun (m : Option (Nat × Nat × Nat × Nat × CamFrame)) a => match m with
      | some b => if a.2.1 < b.2.1 then some a else m
      | none => some a) none
  ((best 1).or (best 0)).map (fun a => a.2.2)

/-- PIPELINE_LINE (R251, R260): one line passes; an uncorrectable SRAM error damages its frame (R469). -/
def Dev.pipeLine (d : Dev) (pl : Nat) (ue : Bool) : Dev :=
  match d.camNextLine pl with
  | none => d
  | some (p, vc, f) =>
    let width := match d.chanCfg p vc with | some c => c.width | none => 0
    let g := f.step p width
    let g := if ue then g.damage 6 else g
    let c := d.camChan p vc
    let d := d.setCamChan p vc { c with frames := c.frames.map (fun h => if h.num == f.num then g else h) }
    let d := (d.bump (ispReg p 0xE04)).count (512 + 16 * pl + 12) 1
    let d := if f.lines.any (fun l => l.idx == f.mosaic.length && l.fill) then d.count (512 + 16 * pl + 13) 1 else d
    if ue then (let (a, d) := d.takeFree; d.sramError 5 (a % 4294967296)) else d

/-! ### Camera control (R249) -/

/-- CAM_CCI_STATUS moved on: NACKS at bit 16, LOST at bit 24. -/
def Dev.cciCount (d : Dev) (p b : Nat) : Dev :=
  d.setReg (camReg p 0x34) (setFld (d.reg (camReg p 0x34)) b 8 (fld (d.reg (camReg p 0x34)) b 8 + 1))

/-- Commands queued, and BUSY while one runs. -/
def Dev.cciShow (d : Dev) (p : Nat) : Dev :=
  let n := (d.camPort p).cmds.length
  d.setReg (camReg p 0x34) (setFld (setFld (d.reg (camReg p 0x34)) 0 6 n) 8 1 (b2n (decide (0 < n) && !d.watching)))

/-- A write of CAM_CCI_CMD pushes a command with the write data of the moment (R249): a read of more than two bytes is a
host error. -/
def Dev.writeCciCmd (d : Dev) (w : Writer) (p : Nat) (v : Word) : Eff :=
  d.guarded w (camReg p 0x28) (fun r _ _ d =>
    if flag v 7 && 2 ≤ fld v 8 2 then hostError 249
    else
      let d := d.storeReg w (camReg p 0x28) r v
      let x := d.camPort p
      if 32 ≤ x.cmds.length then .ok (d.cciCount p 24)
      else .ok ((d.setCamPort p { x with cmds := x.cmds ++ [(v &&& r.wmask, d.reg (camReg p 0x2C))] }).cciShow p))

/-- The CCI master ends its command (R249): not in a watch state (R250). -/
def Dev.cciDone (d : Dev) (p : Nat) (acked : Bool) (data : Word) : Dev :=
  let x := d.camPort p
  match x.cmds with
  | [] => d
  | (cmd, wd) :: rest =>
    if d.watching then d
    else
      let d := (d.setCamPort p { x with cmds := rest }).emit (.cci p cmd wd)
      let d := if acked then d else d.cciCount p 16
      let mask := if fld cmd 8 2 = 0 then 256 else 65536
      let d := if flag cmd 7 then
          if 32 ≤ x.results.length then d.cciCount p 24
          else d.setCamPort p { d.camPort p with
            results := x.results ++ [if acked then BitVec.ofNat 32 (data.toNat % mask) else 0x40000000] }
        else d
      d.cciShow p

/-- A read of CAM_CCI_RDATA: the oldest result, or EMPTY (R249, R480). -/
def Dev.readCci (d : Dev) (p : Nat) : Word × Dev :=
  let x := d.camPort p
  match x.results with
  | [] => (0x80000000, d)
  | v :: rest => (v, d.setCamPort p { x with results := rest })

/-! ### Lookup tables and shadow registers (R259) -/

/-- A write of ISP_LUT_D2 (R259): the back copy's entry at ADDR, and ADDR moves on. An entry past 4,912 is out of
range. -/
def Dev.writeLutD2 (d : Dev) (w : Writer) (p prof : Nat) (v : Word) : Eff :=
  d.guarded w (ispReg p (0x400 * prof + 0x3C)) (fun _ _ _ d =>
    let ao := ispReg p (0x400 * prof + 0x34)
    let a := fld (d.reg ao) 0 13
    if 4912 < a then hostError 271
    else
      let w01 := d.reg (ispReg p (0x400 * prof + 0x38))
      let x := d.camPort p
      let put := fun (m : Sparse (BitVec 16)) (c n : Nat) => Sparse.set (fun _ => 0) m (16384 * prof + 3 * a + c) (BitVec.ofNat 16 n)
      let back := put (put (put x.back 0 (fld w01 0 16)) 1 (fld w01 16 16)) 2 (fld v 0 16)
      .ok ((d.setCamPort p { x with back := back }).setReg ao (BitVec.ofNat 32 (a + 1))))

/-- A write of ISP_LUT_CTRL: SWAP waits for the next Frame Start of a channel using the profile (R259). -/
def Dev.writeLutCtrl (d : Dev) (w : Writer) (p prof : Nat) (v : Word) : Eff :=
  d.guarded w (ispReg p (0x400 * prof + 0x30)) (fun _ _ _ d =>
    let x := d.camPort p
    .ok (if flag v 0 then d.setCamPort p { x with swap := if x.swap.contains prof then x.swap else x.swap ++ [prof] } else d))

/-- A frame of the port is open. -/
def Dev.portOpen (d : Dev) (p : Nat) : Bool := (List.range 16).any (fun vc => (d.camChan p vc).open?.isSome)

/-- A write of the defect list or of its length (R259, R271): a host error while a frame of the port is open. -/
def Dev.writeDpc (d : Dev) (w : Writer) (p off : Nat) (v : Word) : Eff :=
  d.guarded w off (fun r _ _ d =>
    if d.portOpen p then hostError 259
    else if off = ispReg p 0xC04 then
      let x := d.camPort p
      .ok (d.setCamPort p { x with dpc := Sparse.set (fun _ => 0) x.dpc (fld (d.reg (ispReg p 0xC00)) 0 10) (v &&& r.wmask) })
    else .ok (d.storeReg w off r v))

/-- A FULL load: frames, hits and counts are gone; queues, lookups and defect lists stay (R245, R271). -/
def Dev.camLoad (d : Dev) : Dev :=
  let d : Dev := { d with cam := { ports := d.cam.ports, chans := [], seq := 0 } }
  let d := (List.range 8).foldl (fun d p => d.setCamPort p { d.camPort p with starts := 0, lanes := 0 }) d
  (List.range 8).foldl (fun d p =>
    let d := [8, 0xC, 0x10, 0x14, 0x18, 0x1C, 0x20].foldl (fun d o => d.setReg (camReg p o) 0) d
    let d := d.setReg (camReg p 0x34) (setFld (d.reg (camReg p 0x34)) 16 16 0)
    let d := (List.range 16).foldl (fun d v => (d.setReg (camReg p (0x108 + 0x10 * v)) 0).setReg (camReg p (0x10C + 0x10 * v)) 0) d
    d.setReg (ispReg p 0xE04) 0) d

/-! ### The commands -/

/-- A camera's packet: none is taken in a watch state (R250). -/
def onCam (ok : Bool) (t : Nat) (f : Dev → Dev) (s : State) : Res :=
  onUnit ok t (fun d => if d.watching then d else f d) s

/-- CSI_FRAME_START (R245). -/
def execCsiFrameStart (t p vc fn : Nat) (s : State) : Res :=
  onUnitE (camUnit p vc) t (fun d => if d.watching then .ok d else d.frameStart p vc fn) s
/-- CSI_FRAME_END (R245). -/
def execCsiFrameEnd (t p vc : Nat) (s : State) : Res := onCam (camUnit p vc) t (fun d => d.frameEnd p vc) s
/-- CSI_LINE_PACKET (R246). -/
def execCsiLinePacket (t p vc dt : Nat) (data : List Byte) (crcOk eccFixed : Bool) (s : State) : Res :=
  onCam (camUnit p vc) t (fun d => d.linePacket p vc dt data crcOk eccFixed) s
/-- CSI_EMBEDDED_DATA (R246). -/
def execCsiEmbeddedData (t p vc : Nat) (data : List Byte) (s : State) : Res :=
  onCam (camUnit p vc) t (fun d => d.embedded p vc data) s
/-- CSI_OTHER_PACKET (R243). -/
def execCsiOtherPacket (t p vc dt : Nat) (eccBad : Bool) (s : State) : Res :=
  onCam (camUnit p vc) t (fun d => d.otherPacket p vc dt eccBad) s
/-- FRAME_TIMEOUT (R245). -/
def execFrameTimeout (t p vc : Nat) (s : State) : Res := onCam (camUnit p vc) t (fun d => d.frameTimeout p vc) s
/-- PIPELINE_LINE (R251). -/
def execPipelineLine (t pl : Nat) (ue : Bool) (s : State) : Res := onCam (decide (pl < 4)) t (fun d => d.pipeLine pl ue) s
/-- CAM_CCI_CMD (R249). -/
def execCamCciCmd (t : Nat) (w : Writer) (p : Nat) (v : Word) (s : State) : Res :=
  onUnitE (decide (p < 8)) t (fun d => d.writeCciCmd w p v) s
/-- CCI_COMMAND_DONE (R249). -/
def execCciCommandDone (t p : Nat) (acked : Bool) (data : Word) (s : State) : Res :=
  onUnit (decide (p < 8)) t (fun d => d.cciDone p acked data) s
/-- CAM_CCI_RDATA (R249): the value read goes to its reader. -/
def execCamCciRdata (t : Nat) (w : Writer) (p : Nat) (s : State) : Res :=
  onUnit (decide (p < 8)) t (fun d => let (v, d) := d.readCci p; d.emit (.answer w (camReg p 0x30) v)) s
/-- ISP_LUT_D2 (R259). -/
def execIspLutD2 (t : Nat) (w : Writer) (p prof : Nat) (v : Word) (s : State) : Res :=
  onUnitE (decide (p < 8) && decide (prof < 2)) t (fun d => d.writeLutD2 w p prof v) s
/-- SWAP (R259): ISP_LUT_CTRL is written with SWAP. -/
def execIspSwap (t : Nat) (w : Writer) (p prof : Nat) (v : Word) (s : State) : Res :=
  onUnitE (decide (p < 8) && decide (prof < 2)) t (fun d => d.writeLutCtrl w p prof v) s

end Sys2Proof.Machine
end

