-- ==== Sys2Proof/Machine/CamRecord.lean ====
section
/-!
DEFINITION. Steps 5 to 9 of the camera pipeline and the frame record (R255 to R258, R262 to R270).
-/
namespace Sys2Proof.Machine

/-! ### Steps 5 to 8 (R255 to R258) -/

/-- A coordinate reflected about the edge pixels of `n` (R255). -/
def reflectAt (n : Nat) (i : Int) : Nat :=
  let j : Int := if i < 0 then -i else if (n : Int) ≤ i then 2 * ((n : Int) - 1) - i else i
  (clampInt 0 ((n : Int) - 1) j).toNat

/-- A sample of a mosaic. -/
def mosAt (m : List (List Nat)) (x y : Nat) : Nat := (m.getD y []).getD x 0

/-- The samples of colour `c` in the square of half-width `k` about a pixel, the pixel itself left out or not (R255,
R256). -/
def nearSamples (cfg : Word) (m : List (List Nat)) (w k c x y : Nat) (self : Bool) : List Nat :=
  let n := m.length
  (List.range (2 * k + 1)).flatMap (fun (j : Nat) => (List.range (2 * k + 1)).filterMap (fun (i : Nat) =>
    let u := reflectAt w ((x : Int) + i - k)
    let v := reflectAt n ((y : Int) + j - k)
    if (i == k && j == k && !self) || cfaColour cfg u v != c then none else some (mosAt m u v)))

/-- The floor of a mean. -/
def meanOf (l : List Nat) : Nat := l.sum / l.length

/-- Step 5: defect correction of a pixel, neighbours taken before correction (R255). -/
def CamFrame.defect (f : CamFrame) (p w : Nat) (m : List (List Nat)) (x y : Nat) : Nat :=
  let cfg := f.cfg p
  let v := mosAt m x y
  let near := nearSamples cfg m w 2 (cfaColour cfg x y) x y false
  if flag cfg 12 && f.dpc.contains (x, y) then meanOf near
  else if flag cfg 11 then
    let thr := fld (f.reg (ispReg p (0x400 * f.profile + 0x24))) 0 16
    let lo := near.foldl min (near.headD v)
    let hi := near.foldl max (near.headD v)
    if v + thr < lo then lo else if hi + thr < v then hi else v
  else v

/-- The mosaic after step 5. -/
def CamFrame.corrected (f : CamFrame) (p w : Nat) : List (List Nat) :=
  let m := f.mosaic.map (·.px)
  (List.range m.length).map (fun y => (List.range w).map (fun x => f.defect p w m x y))

/-- Step 6: R, G, B and X of a pixel (R256). -/
def CamFrame.rgbx (f : CamFrame) (p w : Nat) (m : List (List Nat)) (x y : Nat) : List Nat :=
  let cfg := f.cfg p
  if fld cfg 0 2 = 0 then let v := mosAt m x y; [v, v, v, 0]
  else
    (List.range 4).map (fun c =>
      if c = 3 && fld cfg 0 2 = 1 then 0
      else if cfaColour cfg x y = c then mosAt m x y
      else
        let l := nearSamples cfg m w 1 c x y true
        meanOf (if l.isEmpty then nearSamples cfg m w 2 c x y true else l))

/-- Step 7: the colour matrix (R257). -/
def CamFrame.matrix (f : CamFrame) (p : Nat) (v : List Nat) : List Nat :=
  if flag (f.cfg p) 15 then
    (List.range 3).map (fun i =>
      let s : Int := ((List.range 4).map (fun j =>
        signed 16 (fld (f.reg (ispReg p (0x400 * f.profile + 0x100 + 4 * (4 * i + j)))) 0 16) * (v.getD j 0 : Int))).sum
      (clampInt 0 65535 ((s + 2048) / 4096)).toNat)
  else v.take 3

/-- Step 8: the colour lookup by tetrahedral interpolation (R258). -/
def CamFrame.lookup (f : CamFrame) (p : Nat) (v : List Nat) : List Nat :=
  if flag (f.cfg p) 14 then
    let k := v.map (· / 4096)
    let fr : List Nat := v.map (fun (x : Nat) => x % 4096)
    let order := sortBy (fun (c : Nat) => -((fr.getD c 0 : Nat) : Int)) [0, 1, 2]
    let a := order.getD 0 0
    let b := order.getD 1 1
    let c := order.getD 2 2
    let up := fun (l : List Nat) (i : Nat) => l.mapIdx (fun j x => if j = i then x + 1 else x)
    let entry := fun (l : List Nat) (i : Nat) =>
      ((Sparse.get (fun _ => (0 : BitVec 16)) f.lut
        (16384 * f.profile + 3 * (289 * l.getD 0 0 + 17 * l.getD 1 0 + l.getD 2 0) + i)).toNat : Int)
    (List.range 3).map (fun i =>
      let v0 := entry k i
      let v1 := entry (up k a) i
      let v2 := entry (up (up k a) b) i
      let v3 := entry (k.map (· + 1)) i
      let e := (fr.getD a 0 : Int) * (v1 - v0) + (fr.getD b 0 : Int) * (v2 - v1) + (fr.getD c 0 : Int) * (v3 - v2)
      (clampInt 0 65535 (v0 + (e + 2048) / 4096)).toNat)
  else v

/-- The three components of a pixel at a tap (R251, R264). -/
def CamFrame.tap (f : CamFrame) (p w : Nat) (m : List (List Nat)) (tap x y : Nat) : List Nat :=
  let v := f.rgbx p w m x y
  if tap = 0 then v.take 3 else if tap = 1 then f.matrix p v else f.lookup p (f.matrix p v)

/-! ### Windows (R264 to R269) -/

/-- Bytes the spec does not state: free values (log entry 3). -/
def Dev.freeBytes (d : Dev) (n : Nat) : List Byte × Dev :=
  ((List.range n).map (fun i => BitVec.ofNat 8 (Config.freeValue (d.free + i))), { d with free := d.free + n })

/-- A window's registers as its frame took them. -/
structure CamWin where
  num : Nat
  kind : Nat
  tap : Nat
  ch : Nat
  x0 : Nat
  w : Nat
  y0 : Nat
  h : Nat
  thr : Word
  reed0 : Word
  reed1 : Word
  xb : Nat
  pxpc : Nat
deriving DecidableEq, Repr

/-- Window `n` of a frame's port. -/
def CamFrame.win (f : CamFrame) (p n : Nat) : CamWin :=
  let r := fun o => f.reg (ispReg p (0x800 + 0x20 * n + o))
  { num := n, kind := fld (r 0) 1 2, tap := fld (r 0) 7 2, ch := fld (r 0) 9 2, x0 := fld (r 4) 0 13, w := fld (r 4) 16 13,
    y0 := fld (r 8) 0 16, h := fld (r 8) 16 16, thr := r 0xC, reed0 := r 0x10, reed1 := r 0x14, xb := fld (r 0x18) 0 17,
    pxpc := (r 0x1C).toNat }

/-- The pixels of a window at its tap: lines of components. -/
def CamFrame.winPixels (f : CamFrame) (p w : Nat) (m : List (List Nat)) (q : CamWin) (x0 n : Nat) : List (List (List Nat)) :=
  (List.range q.h).map (fun j => (List.range n).map (fun i => f.tap p w m q.tap (x0 + i) (q.y0 + j)))

/-- VALID, FILLED, SAT and DAMAGED of a window (R264). -/
def CamFrame.winFlags (f : CamFrame) (q : CamWin) (withheld : Bool) (px : List (List (List Nat))) : Nat :=
  if withheld || decide (f.mosaic.length < q.y0 + q.h) then 0
  else
    let ls := (f.mosaic.drop q.y0).take q.h
    1 + 2 * b2n (ls.any (fun l => decide (l.real < q.x0 + q.w)))
      + 4 * b2n (px.any (fun l => l.any (fun v => v.any (· == 65535)))) + 8 * b2n (ls.any (·.bad))

/-- The contents of a STATS entry from 0x08 (R265). -/
def statsBody (px : List (List (List Nat))) : List Byte :=
  let v := px.flatten
  let comp := fun i => v.map (fun x => x.getD i 0)
  [0, 1, 2].flatMap (fun i => leBytes 4 (comp i).sum)
    ++ [0, 1, 2].flatMap (fun i => leBytes 2 ((comp i).foldl min 65535))
    ++ [0, 1, 2].flatMap (fun i => leBytes 2 ((comp i).foldl max 0))

/-- The contents of a CENTROID entry from 0x08 (R266). -/
def centroidBody (q : CamWin) (px : List (List (List Nat))) : List Byte :=
  let ws := px.map (fun l => l.map (fun v => fld q.thr 0 16 - v.getD q.ch 0))
  leBytes 8 ((ws.map List.sum).sum) ++ leBytes 8 ((ws.map (fun l => (l.mapIdx (fun x w => w * x)).sum)).sum)
    ++ leBytes 8 ((ws.mapIdx (fun y l => y * l.sum)).sum)

/-- HALF and SEARCH of a REED window. -/
def CamWin.half (q : CamWin) : Nat := fld q.reed0 24 5
def CamWin.search (q : CamWin) : Nat := fld q.reed1 24 6

/-- The expected position of a nozzle in 1/16 pixel (R268). -/
def CamWin.e16 (q : CamWin) (h : HeadCfg) (x : Int) (n : Nat) : Int :=
  (q.xb : Int) + (h.colOf x n - (fld q.reed1 0 17 : Int)) * q.pxpc / 4096

/-- The nozzles a REED window reports (R268): those whose widened search range lies inside the window. -/
def CamWin.nozzles (q : CamWin) (h : HeadCfg) (x : Int) : List Nat :=
  let step := fld q.reed0 16 7
  (List.range h.nozzles).filter (fun (n : Nat) =>
    let e := q.e16 h x n / 16
    (n % step == fld q.reed0 8 6) && decide ((q.x0 : Int) ≤ e - q.search - q.half)
      && decide (e + q.search + q.half ≤ (q.x0 : Int) + q.w - 1))

/-- The profile of a REED window (R268). -/
def reedProfile (q : CamWin) (px : List (List (List Nat))) (n : Nat) : List Nat :=
  (List.range n).map (fun i => ((px.map (fun l => (l.getD i []).getD q.ch 0)).sum) / q.h)

/-- The result of a nozzle (R268, R269) from the profile `pr` of the whole frame width; δ is free where a pixel beside xc
lies outside the frame. -/
def reedResult (q : CamWin) (pr : List Nat) (bg : Nat) (e16 : Int) (free : Nat) : Word :=
  let at_ := fun (x : Int) => (pr.getD x.toNat 0 : Int)
  let e := e16 / 16
  let lo := e - q.search
  let xc := (List.range (2 * q.search + 1)).foldl
    (fun (b : Int) (i : Nat) => if at_ (lo + i) < at_ b then lo + i else b) lo
  let a := at_ (xc - 1)
  let b := at_ xc
  let c := at_ (xc + 1)
  let den := a - 2 * b + c
  let δ : Int :=
    if xc < 1 || (pr.length : Int) ≤ xc + 1 then ((free % 17 : Nat) : Int) - 8
    else if den = 0 then 0 else clampInt (-8) 8 (Int.fdiv (8 * (a - c)) den)
  let dark := ((List.range (2 * q.half + 1)).map (fun (i : Nat) => bg - pr.getD (xc - q.half + i).toNat 0)).sum
  let dk := min 65535 dark
  let st := if dk < fld q.thr 16 16 || xc = lo || xc = e + q.search then 2 else if dk < fld q.thr 0 16 then 1 else 0
  let err := 16 * xc + δ - e16
  BitVec.ofNat 32 (dk + 65536 * (err % 4096).toNat + 268435456 * st)

/-- A REED entry (R268, R269). -/
def CamFrame.reedEntry (f : CamFrame) (p w : Nat) (m : List (List Nat)) (q : CamWin) (flags : Nat) (d : Dev) : List Byte × Dev :=
  let slot := fld q.reed0 0 8
  let nz := match d.forme.bind (·.head slot) with
    | some h => (q.nozzles h (d.headFire slot).x).map (fun n => (n, q.e16 h (d.headFire slot).x n))
    | none => []
  let (x, d) := d.takeFree
  let head := fun (bg : Nat) => leBytes 1 q.num ++ leBytes 1 flags ++ leBytes 1 2 ++ leBytes 1 slot
    ++ leBytes 2 (match nz.head? with | some n => n.1 | none => x % 65536) ++ leBytes 2 nz.length ++ leBytes 2 bg
    ++ leBytes 6 0
  let pad := fun (bs : List Byte) => padTo ((bs.length + 31) / 32 * 32) 0 bs
  if flags = 0 then
    let (bg, d) := d.takeFree
    let (bs, d) := d.freeBytes (4 * nz.length)
    (pad (head (bg % 65536) ++ bs), d)
  else
    let all := f.winPixels p w m q 0 w
    let pr := reedProfile q all w
    let bg := ((pr.drop q.x0).take q.w).foldl max 0
    let d' := { d with free := d.free + nz.length }
    (pad (head bg ++ (nz.mapIdx (fun i n => leBytes 4 (reedResult q pr bg n.2 (Config.freeValue (d.free + i))).toNat)).flatten), d')

/-- An entry of a record (R264 to R269): of an entry that is not valid only what does not rest on the frame is stated. -/
def CamFrame.entry (f : CamFrame) (p w : Nat) (m : List (List Nat)) (withheld : Bool) (q : CamWin) (d : Dev) : List Byte × Dev :=
  let px := f.winPixels p w m q q.x0 q.w
  let flags := f.winFlags q withheld px
  if q.kind = 2 then f.reedEntry p w m q flags d
  else
    let head := leBytes 1 q.num ++ leBytes 1 flags ++ leBytes 1 q.kind ++ leBytes 1 0 ++ leBytes 4 (q.w * q.h)
    if flags = 0 then (let (bs, d) := d.freeBytes 24; (head ++ bs, d))
    else (head ++ (if q.kind = 0 then statsBody px else centroidBody q px), d)

/-- The entries of a record in rising window number. -/
def CamFrame.entries (f : CamFrame) (p w : Nat) (m : List (List Nat)) (withheld : Bool) : List Nat → Dev → List Byte × Dev
  | [], d => ([], d)
  | n :: ns, d =>
    let (a, d) := f.entry p w m withheld (f.win p n) d
    let (b, d) := f.entries p w m withheld ns d
    (a ++ b, d)

/-! ### The record and where it goes (R267, R270, R317, R365) -/

/-- FLAGS of a record but XDROP. -/
def CamFrame.flags (f : CamFrame) (c : ChanCfg) : Nat :=
  let damaged := !f.kinds.isEmpty
  b2n damaged + 2 * b2n (decide (f.counts.getD 0 0 < c.height)) + 4 * b2n f.long
    + 8 * b2n (f.mosaic.any (fun l => decide (l.real < c.width))) + 16 * b2n f.cut + 32 * b2n (damaged && c.cls == 1)
    + 64 * b2n f.untrig + 128 * b2n f.nojob

/-- The header of a record (R267). -/
def CamFrame.header (f : CamFrame) (c : ChanCfg) (len nent xslot flags : Nat) : List Byte :=
  leBytes 4 len ++ leBytes 1 1 ++ leBytes 1 c.port ++ leBytes 1 c.vc ++ leBytes 1 c.cls ++ leBytes 4 f.num
    ++ leBytes 2 f.fn ++ leBytes 2 f.mosaic.length ++ leBytes 4 (low32 f.pos).toNat ++ leBytes 4 (high32 f.pos).toNat
    ++ leBytes 4 f.sec ++ leBytes 4 f.nsw.toNat ++ leBytes 4 f.view.toNat ++ leBytes 2 flags ++ leBytes 1 c.trig
    ++ leBytes 1 f.profile ++ leBytes 2 f.crcErr ++ leBytes 2 f.eccCorr ++ leBytes 2 nent ++ leBytes 2 xslot
    ++ (match f.emb with | some b => b | none => List.replicate 16 0)

/-- A pad record of `n` bytes: its LEN and KIND; the rest is not stated (R317). -/
def Dev.padRecord (d : Dev) (n : Nat) : List Byte × Dev :=
  let (bs, d) := d.freeBytes (n - 5)
  (leBytes 4 n ++ leBytes 1 0 ++ bs, d)

/-- RECORD_RING_WRITE's effect (R317): a record is written to the core record ring, and REC_W moves past it. -/
def Dev.recordRing (d : Dev) (bs : List Byte) : Dev :=
  let o := d.cc.recW % 1048576
  let left := 1048576 - o
  let d := if left < bs.length then
      (let (pad, d) := d.padRecord left
       let d := d.sharedWrite o pad
       { d with cc := { d.cc with recW := d.cc.recW + left } })
    else d
  let d := d.sharedWrite (d.cc.recW % 1048576) bs
  { d with cc := { d.cc with recW := d.cc.recW + bs.length } }

/-- Cores whose RECMASK has the port are signalled (R309). -/
def Dev.signalRecord (d : Dev) (p : Nat) : Dev :=
  (List.range 8).foldl (fun d n =>
    if flag (d.core n).csr.recmask p then (d.signalCore n 0).count (16 * n + 14) 1 else d) d

/-- A record for a context's statistics ring (R365): written whole, or dropped and counted. -/
def Dev.statsRing (d : Dev) (h : Nat) (bs : List Byte) : Dev :=
  let size := 2 ^ fld (d.regOf h 0x010038) 0 5
  let widx := d.regOf h 0x01003C
  let used := (widx - d.regOf h 0x010040).toNat
  let o := widx.toNat % size
  let pad := if size - o < bs.length then size - o else 0
  if !(flag (d.regOf h 0x010004) 1) || decide (size < used + pad + bs.length) || !(d.hostReachable h) then
    let d := d.setRegOf h 0x010044 (d.regOf h 0x010044 + 1)
    d.setRegOf h 0x010008 (setFlag (d.regOf h 0x010008) 1 true)
  else
    let base := (d.regOf h 0x010030).toNat + (d.regOf h 0x010034).toNat * 4294967296
    let d := if pad = 0 then d else (let (x, d) := d.padRecord pad; d.hostWrite h (base + o) x)
    let d := d.hostWrite h (base + (o + pad) % size) bs
    (d.setRegOf h 0x01003C (widx + BitVec.ofNat 32 (pad + bs.length))).fireIrq h 1

/-- Bytes of an export slot (R270). -/
def exportSlot (w h : Nat) : Nat := 65536 * ((64 + 2 * w * h + 65535) / 65536)

/-- The export of a frame (R270): its slot with its address, and whether it was dropped. Whether a REGISTRATION frame can
proceed at once is not stated: a free value. -/
def Dev.exportPlan (d : Dev) (c : ChanCfg) (slot : Nat) : Option (Nat × Nat) × Bool × Dev :=
  if c.priv = 2 then
    match d.forme.bind (·.region c.region) with
    | none => (none, false, d)
    | some r =>
      let size := exportSlot c.width c.height
      let n := max 1 (r.size * 65536 / size)
      let s := slot % n
      if c.cls = 1 then
        let (x, d) := d.takeFree
        if x % 2 = 1 then (none, true, d) else (some (s, r.base * 65536 + s * size), false, d)
      else (some (s, r.base * 65536 + s * size), false, d)
  else (none, false, d)

/-- The frame events (R260, R262, R263), each at most once per kind. -/
def Dev.frameEvents (d : Dev) (c : ChanCfg) (f : CamFrame) : Dev :=
  let go := fun (d : Dev) (code kind : Nat) =>
    d.raiseAt c.owner f.pos code (camSource c.port) (BitVec.ofNat 32 (c.vc + 256 * kind)) (BitVec.ofNat 32 f.num)
  let d := f.kinds.foldl (fun d k => go d 0x000A k) d
  let d := if f.cut then go d 0x000B 0 else d
  let d := if f.counts.getD 0 0 < c.height then go d 0x000C 0 else d
  if f.long then go d 0x000D 0 else d

/-- The close of a frame whose lines have passed (R262 to R270). -/
def Dev.closeFrame (d : Dev) (c : ChanCfg) (f : CamFrame) (rest : List CamFrame) : Dev :=
  let p := c.port
  let m := f.corrected p c.width
  let (slot, dropped, d) := d.exportPlan c (d.camChan p c.vc).slot
  let flags := f.flags c + 256 * b2n dropped
  let wins := winsOf f.reg p c.vc
  let (body, d) := f.entries p c.width m (bit flags 5) wins d
  let xslot := match slot with | some s => s.1 | none => 0xFFFF
  let head := f.header c (64 + body.length) wins.length xslot flags
  let x := d.camChan p c.vc
  let d := d.setCamChan p c.vc { x with frames := rest, slot := match slot with | some s => s.1 + 1 | none => x.slot }
  let d := match slot with
    | some s => d.portWrite s.2 (head ++ m.flatten.flatMap (fun v => leBytes 2 v))
    | none => d
  let d := if dropped then d.bump (camReg p 0x20) else d
  let d := ((d.recordRing (head ++ body)).signalRecord p).count (512 + 16 * (p / 2) + 14) 1
  let d := if 1 ≤ c.priv then d.statsRing c.owner (head ++ body) else d
  let o := camReg p (0x10 * c.vc)
  let d := d.setReg (o + 0x104) (windowNext (d.reg (o + 0x104)) (BitVec.ofNat 32 flags))
  let d := d.setReg (o + 0x108) (BitVec.ofNat 32 f.num)
  let d := if flags % 64 = 0 then d else d.bump (o + 0x10C)
  d.frameEvents c f

/-- FRAME_CLOSE (R267): the oldest frame of a channel, closed and with no line ready, gives its record. -/
def Dev.frameClose (d : Dev) (p vc : Nat) : Dev :=
  match d.chanCfg p vc, (d.camChan p vc).frames with
  | some c, f :: rest => if !f.isOpen && (f.ready p).isNone then d.closeFrame c f rest else d
  | _, _ => d

/-- FRAME_CLOSE (R267). -/
def execFrameClose (t p vc : Nat) (s : State) : Res := onCam (camUnit p vc) t (fun d => d.frameClose p vc) s

end Sys2Proof.Machine
end

