-- ==== Sys2Proof/Machine/CoreDecode.lean ====
section
/-!
DEFINITION. The instruction words of the control cores (R303 to R307): the word of each instruction, and the instruction
a word spells, none where R307 calls it illegal. `t` and `n`, the instant and the core, are no part of the word.
-/
namespace Sys2Proof

open Sys2Proof.Machine (fld)

/-! ### Formats (R303), written as sums of fields -/

/-- Format R. -/
def wordR (fn : Nat) (d a b : Nat) : Word := BitVec.ofNat 32 (d * 2097152 + a * 65536 + b * 2048 + fn)
/-- Formats K and T: d or x, a or y, imm. -/
def wordK (op d a : Nat) (imm : BitVec 16) : Word := BitVec.ofNat 32 (op * 67108864 + d * 2097152 + a * 65536 + imm.toNat)
/-- Format B. -/
def wordB (op x : Nat) (off : BitVec 21) : Word := BitVec.ofNat 32 (op * 67108864 + x * 2097152 + off.toNat)
/-- Format J. -/
def wordJ (op : Nat) (off : BitVec 26) : Word := BitVec.ofNat 32 (op * 67108864 + off.toNat)
/-- Format V, opcode 0x32. -/
def wordV (fn vd va vb s imm : Nat) : Word :=
  BitVec.ofNat 32 (0x32 * 67108864 + vd * 8388608 + va * 1048576 + vb * 131072 + s * 4096 + imm * 64 + fn)

/-- The word of an instruction of a core; none for a command that is no instruction. -/
def coreWord : Instr → Option Word
  | .opAdd _ _ d a b => some (wordR 0x000 d a b)
  | .opSub _ _ d a b => some (wordR 0x001 d a b)
  | .opAnd _ _ d a b => some (wordR 0x002 d a b)
  | .opOr _ _ d a b => some (wordR 0x003 d a b)
  | .opXor _ _ d a b => some (wordR 0x004 d a b)
  | .opAndn _ _ d a b => some (wordR 0x005 d a b)
  | .opLsl _ _ d a b => some (wordR 0x006 d a b)
  | .opLsr _ _ d a b => some (wordR 0x007 d a b)
  | .opAsr _ _ d a b => some (wordR 0x008 d a b)
  | .opRor _ _ d a b => some (wordR 0x009 d a b)
  | .opSeq _ _ d a b => some (wordR 0x00A d a b)
  | .opSne _ _ d a b => some (wordR 0x00B d a b)
  | .opSlt _ _ d a b => some (wordR 0x00C d a b)
  | .opSltu _ _ d a b => some (wordR 0x00D d a b)
  | .opMul _ _ d a b => some (wordR 0x010 d a b)
  | .opMulhi _ _ d a b => some (wordR 0x011 d a b)
  | .opMulhiu _ _ d a b => some (wordR 0x012 d a b)
  | .opDiv _ _ d a b => some (wordR 0x014 d a b)
  | .opDivu _ _ d a b => some (wordR 0x015 d a b)
  | .opMod _ _ d a b => some (wordR 0x016 d a b)
  | .opModu _ _ d a b => some (wordR 0x017 d a b)
  | .opMin _ _ d a b => some (wordR 0x018 d a b)
  | .opMax _ _ d a b => some (wordR 0x019 d a b)
  | .opMinu _ _ d a b => some (wordR 0x01A d a b)
  | .opMaxu _ _ d a b => some (wordR 0x01B d a b)
  | .opAbsd _ _ d a b => some (wordR 0x01E d a b)
  | .opLzc _ _ d a => some (wordR 0x01C d a 0)
  | .opPopc _ _ d a => some (wordR 0x01D d a 0)
  | .opAddk _ _ d a imm => some (wordK 0x01 d a imm)
  | .opAndk _ _ d a imm => some (wordK 0x02 d a imm)
  | .opOrk _ _ d a imm => some (wordK 0x03 d a imm)
  | .opXork _ _ d a imm => some (wordK 0x04 d a imm)
  | .opLtk _ _ d a imm => some (wordK 0x05 d a imm)
  | .opLtku _ _ d a imm => some (wordK 0x06 d a imm)
  | .opHik _ _ d a imm => some (wordK 0x07 d a imm)
  | .opShk _ _ d a k m => some (wordK 0x08 d a (BitVec.ofNat 16 (k.toNat * 16384 + m.toNat)))
  | .opLdw _ _ d a imm _ => some (wordK 0x0A d a imm)
  | .opLdh _ _ d a imm _ => some (wordK 0x0B d a imm)
  | .opLdhz _ _ d a imm _ => some (wordK 0x0C d a imm)
  | .opLdb _ _ d a imm _ => some (wordK 0x0D d a imm)
  | .opLdbz _ _ d a imm _ => some (wordK 0x0E d a imm)
  | .opStw _ _ x y imm => some (wordK 0x10 x y imm)
  | .opSth _ _ x y imm => some (wordK 0x11 x y imm)
  | .opStb _ _ x y imm => some (wordK 0x12 x y imm)
  | .opBrt _ _ x off => some (wordB 0x14 x off)
  | .opBrf _ _ x off => some (wordB 0x15 x off)
  | .opLoop _ _ x off => some (wordB 0x16 x off)
  | .opGo _ _ off => some (wordJ 0x18 off)
  | .opCall _ _ off => some (wordJ 0x19 off)
  | .opCallr _ _ d a imm => some (wordK 0x1A d a imm)
  | .opGetc _ _ d csr => some (wordK 0x20 d 0 csr)
  | .opPutc _ _ a csr => some (wordK 0x21 0 a csr)
  | .opSetc _ _ a csr => some (wordK 0x22 0 a csr)
  | .opClrc _ _ a csr => some (wordK 0x23 0 a csr)
  | .opWait _ _ => some (wordK 0x24 0 0 0)
  | .opNotify _ _ m => some (wordK 0x25 0 0 (BitVec.ofNat 16 m))
  | .opSync _ _ => some (wordK 0x26 0 0 0)
  | .opBreak _ _ imm => some (wordK 0x27 0 0 imm)
  | .opHret _ _ => some (wordK 0x28 0 0 0)
  | .opVld _ _ vd a imm _ => some (wordK 0x30 vd a imm)
  | .opVst _ _ vd a imm => some (wordK 0x31 vd a imm)
  | .opVadd _ _ vd va vb => some (wordV 0x00 vd va vb 0 0)
  | .opVsub _ _ vd va vb => some (wordV 0x01 vd va vb 0 0)
  | .opVadds _ _ vd va vb => some (wordV 0x02 vd va vb 0 0)
  | .opVsubs _ _ vd va vb => some (wordV 0x03 vd va vb 0 0)
  | .opVmul _ _ vd va vb => some (wordV 0x04 vd va vb 0 0)
  | .opVmulh _ _ vd va vb => some (wordV 0x05 vd va vb 0 0)
  | .opVmin _ _ vd va vb => some (wordV 0x06 vd va vb 0 0)
  | .opVmax _ _ vd va vb => some (wordV 0x07 vd va vb 0 0)
  | .opVand _ _ vd va vb => some (wordV 0x08 vd va vb 0 0)
  | .opVor _ _ vd va vb => some (wordV 0x09 vd va vb 0 0)
  | .opVxor _ _ vd va vb => some (wordV 0x0A vd va vb 0 0)
  | .opVabsd _ _ vd va vb => some (wordV 0x11 vd va vb 0 0)
  | .opVsra _ _ vd va m => some (wordV 0x0B vd va 0 0 m.toNat)
  | .opVsll _ _ vd va m => some (wordV 0x0C vd va 0 0 m.toNat)
  | .opVsplat _ _ vd s => some (wordV 0x0D vd 0 0 s 0)
  | .opVsum _ _ va s => some (wordV 0x0E 0 va 0 s 0)
  | .opVext _ _ va s l => some (wordV 0x0F 0 va 0 s l)
  | .opVins _ _ vd s l => some (wordV 0x10 vd 0 0 s l)
  | .illegalInstruction _ _ w => some w
  | _ => none

/-! ### Decoding -/

/-- A register number from a field. -/
def reg5 (v : Nat) : Fin 32 := Fin.ofNat 32 v
/-- A vector register, lane or core number from a field. -/
def reg3 (v : Nat) : Fin 8 := Fin.ofNat 8 v

/-- OPR by its fn (R305). -/
def decodeOpr (t n fn : Nat) (d a b : Fin 32) : Option Instr :=
  match fn with
  | 0x00 => some (.opAdd t n d a b)
  | 0x01 => some (.opSub t n d a b)
  | 0x02 => some (.opAnd t n d a b)
  | 0x03 => some (.opOr t n d a b)
  | 0x04 => some (.opXor t n d a b)
  | 0x05 => some (.opAndn t n d a b)
  | 0x06 => some (.opLsl t n d a b)
  | 0x07 => some (.opLsr t n d a b)
  | 0x08 => some (.opAsr t n d a b)
  | 0x09 => some (.opRor t n d a b)
  | 0x0A => some (.opSeq t n d a b)
  | 0x0B => some (.opSne t n d a b)
  | 0x0C => some (.opSlt t n d a b)
  | 0x0D => some (.opSltu t n d a b)
  | 0x10 => some (.opMul t n d a b)
  | 0x11 => some (.opMulhi t n d a b)
  | 0x12 => some (.opMulhiu t n d a b)
  | 0x14 => some (.opDiv t n d a b)
  | 0x15 => some (.opDivu t n d a b)
  | 0x16 => some (.opMod t n d a b)
  | 0x17 => some (.opModu t n d a b)
  | 0x18 => some (.opMin t n d a b)
  | 0x19 => some (.opMax t n d a b)
  | 0x1A => some (.opMinu t n d a b)
  | 0x1B => some (.opMaxu t n d a b)
  | 0x1E => some (.opAbsd t n d a b)
  | 0x1C => if b = 0 then some (.opLzc t n d a) else none
  | 0x1D => if b = 0 then some (.opPopc t n d a) else none
  | _ => none

/-- VOP by its fn (R306): the fields an operation does not use are 0. -/
def decodeVop (t n fn : Nat) (vd va vb : Fin 8) (s : Fin 32) (imm : Nat) : Option Instr :=
  match fn with
  | 0x00 => if s = 0 && imm = 0 then some (.opVadd t n vd va vb) else none
  | 0x01 => if s = 0 && imm = 0 then some (.opVsub t n vd va vb) else none
  | 0x02 => if s = 0 && imm = 0 then some (.opVadds t n vd va vb) else none
  | 0x03 => if s = 0 && imm = 0 then some (.opVsubs t n vd va vb) else none
  | 0x04 => if s = 0 && imm = 0 then some (.opVmul t n vd va vb) else none
  | 0x05 => if s = 0 && imm = 0 then some (.opVmulh t n vd va vb) else none
  | 0x06 => if s = 0 && imm = 0 then some (.opVmin t n vd va vb) else none
  | 0x07 => if s = 0 && imm = 0 then some (.opVmax t n vd va vb) else none
  | 0x08 => if s = 0 && imm = 0 then some (.opVand t n vd va vb) else none
  | 0x09 => if s = 0 && imm = 0 then some (.opVor t n vd va vb) else none
  | 0x0A => if s = 0 && imm = 0 then some (.opVxor t n vd va vb) else none
  | 0x11 => if s = 0 && imm = 0 then some (.opVabsd t n vd va vb) else none
  | 0x0B => if vb = 0 && s = 0 && decide (imm < 16) then some (.opVsra t n vd va (BitVec.ofNat 4 imm)) else none
  | 0x0C => if vb = 0 && s = 0 && decide (imm < 16) then some (.opVsll t n vd va (BitVec.ofNat 4 imm)) else none
  | 0x0D => if va = 0 && vb = 0 && imm = 0 then some (.opVsplat t n vd s) else none
  | 0x0E => if vd = 0 && vb = 0 && imm = 0 then some (.opVsum t n va s) else none
  | 0x0F => if vd = 0 && vb = 0 && decide (imm < 8) then some (.opVext t n va s (reg3 imm)) else none
  | 0x10 => if va = 0 && vb = 0 && decide (imm < 8) then some (.opVins t n vd s (reg3 imm)) else none
  | _ => none

/-- The instruction a word spells on core `n` (R303 to R307), none where it is illegal. -/
def decodeCore (t n : Nat) (w : Word) : Option Instr :=
  let d := reg5 (fld w 21 5)
  let a := reg5 (fld w 16 5)
  let imm : BitVec 16 := BitVec.ofNat 16 (fld w 0 16)
  let off : BitVec 21 := BitVec.ofNat 21 (fld w 0 21)
  let rest := fld w 0 26
  match fld w 26 6 with
  | 0x00 => decodeOpr t n (fld w 0 11) d a (reg5 (fld w 11 5))
  | 0x01 => some (.opAddk t n d a imm)
  | 0x02 => some (.opAndk t n d a imm)
  | 0x03 => some (.opOrk t n d a imm)
  | 0x04 => some (.opXork t n d a imm)
  | 0x05 => some (.opLtk t n d a imm)
  | 0x06 => some (.opLtku t n d a imm)
  | 0x07 => some (.opHik t n d a imm)
  | 0x08 => if fld w 5 9 = 0 then some (.opShk t n d a (BitVec.ofNat 2 (fld w 14 2)) (BitVec.ofNat 5 (fld w 0 5))) else none
  | 0x0A => some (.opLdw t n d a imm false)
  | 0x0B => some (.opLdh t n d a imm false)
  | 0x0C => some (.opLdhz t n d a imm false)
  | 0x0D => some (.opLdb t n d a imm false)
  | 0x0E => some (.opLdbz t n d a imm false)
  | 0x10 => some (.opStw t n d a imm)
  | 0x11 => some (.opSth t n d a imm)
  | 0x12 => some (.opStb t n d a imm)
  | 0x14 => some (.opBrt t n d off)
  | 0x15 => some (.opBrf t n d off)
  | 0x16 => if d = 0 then none else some (.opLoop t n d off)
  | 0x18 => some (.opGo t n (BitVec.ofNat 26 rest))
  | 0x19 => some (.opCall t n (BitVec.ofNat 26 rest))
  | 0x1A => some (.opCallr t n d a imm)
  | 0x20 => if a = 0 then some (.opGetc t n d imm) else none
  | 0x21 => if d = 0 then some (.opPutc t n a imm) else none
  | 0x22 => if d = 0 then some (.opSetc t n a imm) else none
  | 0x23 => if d = 0 then some (.opClrc t n a imm) else none
  | 0x24 => if rest = 0 then some (.opWait t n) else none
  | 0x25 => if rest < 8 then some (.opNotify t n (reg3 rest)) else none
  | 0x26 => if rest = 0 then some (.opSync t n) else none
  | 0x27 => if d = 0 && a = 0 then some (.opBreak t n imm) else none
  | 0x28 => if rest = 0 then some (.opHret t n) else none
  | 0x30 => if fld w 24 2 = 0 then some (.opVld t n (reg3 (fld w 21 3)) a imm false) else none
  | 0x31 => if fld w 24 2 = 0 then some (.opVst t n (reg3 (fld w 21 3)) a imm) else none
  | 0x32 => decodeVop t n (fld w 0 6) (reg3 (fld w 23 3)) (reg3 (fld w 20 3)) (reg3 (fld w 17 3)) (reg5 (fld w 12 5)) (fld w 6 6)
  | _ => none

end Sys2Proof
end

