-- ==== Sys2Proof/Machine/Endpoint.lean ====
section
/-!
DEFINITION. The head endpoints (R206 to R238, R452, R458): what each does with the frames and blocks a port receives.
They act on the endpoint alone; what they send is named in the output log.
-/
namespace Sys2Proof.Machine

/-- Bytes of a frame with its CRC-32C appended (R209). -/
def withCrc (b : List Byte) : List Byte := b ++ leBytes 4 (crc32c b).toNat

/-- A frame of a type and length whose CRC passes (R209). -/
def frameOk (typ len : Nat) (f : List Byte) : Bool :=
  u8 f 0 == typ && f.length == len && (crc32c (f.take (len - 4))).toNat == u32 f (len - 4)

/-! ### Parts of an endpoint -/

/-- The endpoint of a bar link. -/
def State.ep (s : State) (k : Nat) : Endpoint := Sparse.get (fun _ => .zero) s.eps k

def Endpoint.port (e : Endpoint) : Port → EpPort
  | .a => e.pa
  | .b => e.pb
def Endpoint.setPort (e : Endpoint) (x : Port) (p : EpPort) : Endpoint :=
  match x with
  | .a => { e with pa := p }
  | .b => { e with pb := p }
def Endpoint.hp (e : Endpoint) (x : Port) (h : Nat) : EpHP := Sparse.get (fun _ => .zero) (e.port x).hps h
def Endpoint.setHp (e : Endpoint) (x : Port) (h : Nat) (v : EpHP) : Endpoint :=
  e.setPort x { e.port x with hps := Sparse.set (fun _ => .zero) (e.port x).hps h v }
def Endpoint.head (e : Endpoint) (h : Nat) : EpHead := Sparse.get (fun _ => .zero) e.heads h
def Endpoint.setHead (e : Endpoint) (h : Nat) (v : EpHead) : Endpoint :=
  { e with heads := Sparse.set (fun _ => .zero) e.heads h v }
def Endpoint.arm (e : Endpoint) (x : Port) (q : Nat) : Option EpArm := Sparse.get (fun _ => none) (e.port x).arms q
def Endpoint.setArm (e : Endpoint) (x : Port) (q : Nat) (v : Option EpArm) : Endpoint :=
  e.setPort x { e.port x with arms := Sparse.set (fun _ => none) (e.port x).arms q v }

/-- The other port. -/
def portOther : Port → Port
  | .a => .b
  | .b => .a
/-- Code of a port in frames: 0 A, 1 B. -/
def portCode : Port → Nat
  | .a => 0
  | .b => 1
/-- Code of a firing port: 0 A, 1 B, 0xFF none. -/
def firingCode : Option Port → Nat
  | some x => portCode x
  | none => 0xFF

/-- The fitted head positions. -/
def Endpoint.fitted (e : Endpoint) : List Nat := List.range e.caps.nhead

/-! ### What an endpoint sends -/

/-- What an endpoint's command changes: the endpoint, frames sent by port, jets, and free values used. -/
structure EpRun where
  e : Endpoint
  out : List Out
  free : Nat
deriving DecidableEq, Repr

/-- A frame sent on a port: none on a port in lane test (R458). -/
def EpRun.send (r : EpRun) (k : Nat) (x : Port) (b : List Byte) : EpRun :=
  if r.e.test.any (fun t => t.port == x) then r else { r with out := .epFrame k x b :: r.out }

/-- A frame sent on both ports. -/
def EpRun.sendBoth (r : EpRun) (k : Nat) (b : List Byte) : EpRun := (r.send k .a b).send k .b b

/-- A fresh free value for what the endpoint measures (log entry 3). -/
def EpRun.takeFree (r : EpRun) : Nat × EpRun := (Config.freeValue r.free, { r with free := r.free + 1 })

/-- ECHO BLOCK (R223). -/
def Endpoint.echoBlock (e : Endpoint) (w : EpEcho) : List Byte :=
  let f := (e.head w.head).firing
  let first : Word := w.dig.block <<< 8
  let got := e.digs.find? (fun d => some d.1 == f && d.2.1 == w.head && d.2.2.1 == first)
  let own : Word := ~~~ w.dig.crc
  let hit := got.any (fun d => d.2.2.2.1 == w.dig.count && d.2.2.2.2 == own)
  let flags := b2n hit + 2 * b2n got.isNone + 4 * b2n w.dig.switch + 8 * b2n w.dig.slip + 16 * b2n w.dig.tagErr
  withCrc (leBytes 1 0x81 ++ leBytes 1 w.head ++ leBytes 1 0 ++ leBytes 1 flags ++ leBytes 4 first.toNat
    ++ leBytes 2 w.dig.count ++ leBytes 2 w.dig.missed ++ leBytes 4 own.toNat ++ leBytes 5 e.c
    ++ leBytes 1 (firingCode f) ++ leBytes 2 0)

/-- ECHO RESEND (R223). -/
def echoResend (h : Nat) (first : Word) (count : Nat) : List Byte :=
  withCrc (leBytes 1 0x81 ++ leBytes 1 h ++ leBytes 1 1 ++ leBytes 1 0 ++ leBytes 4 first.toNat ++ leBytes 2 count
    ++ leBytes 2 0)

/-- ECHO STATUS (R230). -/
def Endpoint.status (e : Endpoint) (result : Nat) : List Byte :=
  let fire := (List.range 8).flatMap (fun p => leBytes 1 (if p < e.caps.nhead then firingCode (e.head p).firing else 0xFF))
  let sw := ((List.range 8).map (fun p => b2n (e.head p).switched * 2 ^ p)).sum
  withCrc (leBytes 1 0x81 ++ leBytes 1 0xFF ++ leBytes 1 2 ++ leBytes 1 result ++ leBytes 5 e.c
    ++ leBytes 1 (portCode e.cport) ++ leBytes 2 0 ++ leBytes 4 (match e.le with | some l => l.toNat | none => 0xFFFFFFFF)
    ++ fire ++ leBytes 1 sw ++ leBytes 3 0)

/-- CAPS as sent on a port (R232). -/
def Endpoint.capsFrame (e : Endpoint) (x : Port) : List Byte :=
  let c := e.caps
  let heads := (List.range c.nhead).flatMap (fun p =>
    leBytes 8 (c.ids.getD p 0) ++ leBytes 2 (c.nozzles.getD p 0) ++ leBytes 1 (c.formats.getD p 0)
      ++ leBytes 1 (c.maxrate.getD p 0) ++ leBytes 4 0)
  withCrc (leBytes 1 0x82 ++ leBytes 1 0xFF ++ leBytes 1 c.version ++ leBytes 1 c.features ++ leBytes 1 c.nhead
    ++ leBytes 1 c.bufLines ++ leBytes 2 c.lat ++ leBytes 2 c.rxlat ++ leBytes 2 c.txlat ++ leBytes 1 c.offres
    ++ leBytes 1 (portCode x) ++ leBytes 2 0 ++ leBytes 5 e.c ++ leBytes 3 0 ++ heads)

/-- CAPS on each port, as after any change of a field of it (R232). -/
def EpRun.sendCaps (r : EpRun) (k : Nat) : EpRun :=
  (r.send k .a (r.e.capsFrame .a)).send k .b (r.e.capsFrame .b)

/-! ### Digest blocks (R221, R223) -/

/-- A head's digest block closes: its ECHO waits for the DIGEST (R223, log entry 12). -/
def Endpoint.closeBlock (e : Endpoint) (now h : Nat) : Endpoint :=
  let x := e.head h
  if x.dig.count = 0 then e
  else
    let e := { e with echoes := e.echoes ++ [EpEcho.mk h x.dig now] }
    e.setHead h { x with dig := { EpDig.zero with block := x.dig.block } }

/-- A head's block after its next line moves: a line of another block closes the one at hand (R223). -/
def Endpoint.moveBlock (e : Endpoint) (now h : Nat) (next : Word) : Endpoint :=
  let b := next >>> 8
  if (e.head h).dig.block = b then e
  else
    let e := e.closeBlock now h
    let x := e.head h
    e.setHead h { x with dig := { x.dig with block := b } }

/-- One line joins a head's digest block, with its payload (R221). -/
def Endpoint.digLine (e : Endpoint) (now h : Nat) (s : Word) (payload : List Byte) (missed : Bool) : Endpoint :=
  let e := e.moveBlock now h s
  let x := e.head h
  e.setHead h { x with
    missed := if missed then x.missed + 1 else x.missed,
    dig := { x.dig with count := x.dig.count + 1, missed := x.dig.missed + b2n missed,
                        crc := crc32cGo x.dig.crc payload } }

/-- The zero bytes a blank, missed or skipped line counts (R221). -/
def EpCfg.blank (c : EpCfg) : List Byte := List.replicate ((c.nozzles * c.bits + 7) / 8) 0

/-- ECHOs whose DIGEST has come, or that have waited 20 µs, are sent on both ports (R223). -/
def EpRun.flushEchoes (r : EpRun) (k now : Nat) : EpRun :=
  let ready := fun (w : EpEcho) =>
    decide (w.closedAt + 20000000 ≤ now) ||
    r.e.digs.any (fun d => some d.1 == (r.e.head w.head).firing && d.2.1 == w.head && d.2.2.1 == w.dig.block <<< 8)
  let go := r.e.echoes.filter ready
  let r := go.foldl (fun r w => r.sendBoth k (r.e.echoBlock w)) r
  { r with e := { r.e with echoes := r.e.echoes.filter (fun w => !(ready w)) } }

/-! ### Lifting -/

/-- A command of endpoint `k`: overdue ECHOs go first; the device is not touched, and what the endpoint sends is
logged (R223, log entries 1, 4). -/
def onEp (t k : Nat) (f : Nat → EpRun → EpRun) (s : State) : Res :=
  if k < 32 then
    let d := s.dev.at t
    let r := f d.now (EpRun.flushEchoes { e := s.ep k, out := [], free := d.free } k d.now)
    let r := r.flushEchoes k d.now
    .next { s with
      eps := Sparse.set (fun _ => .zero) s.eps k r.e,
      dev := { d with out := r.out ++ d.out, free := r.free } }
  else .fault .noSuchUnit

/-- Something other than EIDLE arrives on a port: it has lock, and its EIDLE hold ends (R452). -/
def Endpoint.heard (e : Endpoint) (x : Port) : Endpoint := e.setPort x { e.port x with eidle := false }

/-- A frame received on a port: one that fails R209 is discarded and counted. -/
def EpRun.frame (r : EpRun) (x : Port) (typ len : Nat) (f : List Byte) (g : EpRun → EpRun) : EpRun :=
  let r := { r with e := r.e.heard x }
  if frameOk typ len f then g r else { r with e := { r.e with crcErr := r.e.crcErr + 1 } }

/-! ### Lines (R213) -/

/-- Line `a` is at or after line `b`, as a signed difference (R13). -/
def atOrAfter (a b : Word) : Bool := decide (0 ≤ lineDiff a b)

/-- A LINE frame arrives (R211, R213). -/
def EpRun.line (r : EpRun) (k : Nat) (x : Port) (f : List Byte) : EpRun :=
  let r := { r with e := r.e.heard x }
  let h := u8 f 1
  let s : Word := BitVec.ofNat 32 (u32 f 4)
  let headOk := u8 f 0 == 1 && decide (20 ≤ f.length) && crc16 (f.take 14) == u16 f 14
  let v := r.e.hp x h
  let n := (v.cfg.nozzles * u8 f 3 + 7) / 8
  let crcOk := (crc32c (f.take (f.length - 4))).toNat == u32 f (f.length - 4)
  let canResend := bit r.e.caps.features 1 && decide (h < r.e.caps.nhead)
  if !headOk then { r with e := { r.e with crcErr := r.e.crcErr + 1 } }
  else if !crcOk || f.length ≠ 20 + n then
    let r := { r with e := { r.e with crcErr := r.e.crcErr + 1 } }
    if canResend && !crcOk then r.send k x (echoResend h s 1) else r
  else if r.e.caps.nhead ≤ h || !(atOrAfter s v.next) then r
  else
    let l : EpLine := { s := s, bits := u8 f 3, fallback := bit (u8 f 2) 0, payload := slice f 16 n }
    let e := r.e.setHp x h { v with
      lines := (v.lines.filter (fun o => o.s != s)) ++ [l],
      high := match v.high with | some w => some (if atOrAfter s w then s else w) | none => some s }
    let r := { r with e := e }
    match v.high with
    | some w =>
      let gap := lineDiff s w
      if canResend && decide ((v.cfg.step : Int) < gap) then
        r.send k x (echoResend h (w + BitVec.ofNat 32 v.cfg.step) (min 64 ((gap.toNat - 1) / v.cfg.step)))
      else r
    | none => r

/-! ### ARM and FIRE (R215 to R218, R228) -/

/-- An ARM is discarded and counted (R215). -/
def Endpoint.dropArm (e : Endpoint) (x : Port) (q : Nat) : Endpoint :=
  match e.arm x q with
  | some _ => { (e.setArm x q none) with tagErr := e.tagErr + 1 }
  | none => e

/-- Lines skipped for a head from its firing port count as zeros (R216, R220, R221). -/
def Endpoint.skip (now : Nat) (x : Port) (h : Nat) : Nat → Endpoint → Endpoint
  | 0, e => e
  | n + 1, e =>
    let v := e.hp x h
    let e := if (e.head h).firing = some x then e.digLine now h v.next v.cfg.blank true else e
    let v' := { v with next := v.next + BitVec.ofNat 32 v.cfg.step }
    Endpoint.skip now x h n (e.setHp x h v')

/-- The tag of one head of an ARM resolved against its next line (R216): the endpoint, and whether the head stays. -/
def Endpoint.resolve (e : Endpoint) (now : Nat) (x : Port) (h tag : Nat) : Endpoint × Bool :=
  let v := e.hp x h
  match (List.range 8).find? (fun k => (v.next + BitVec.ofNat 32 (k * v.cfg.step)).toNat % 16 == tag) with
  | some k => (Endpoint.skip now x h k e, true)
  | none =>
    let y := e.head h
    (({ e with tagErr := e.tagErr + 1 }).setHead h { y with dig := { y.dig with tagErr := true } }, false)

/-- An ARM block arrives (R214 to R216). -/
def EpRun.armBlock (r : EpRun) (now : Nat) (x : Port) (b : List Byte) : EpRun :=
  let e := r.e.heard x
  let q := u8 b 0 % 8
  if u8 b 0 / 8 ≠ 0x14 || b.length ≠ 8 || crc8 (b.take 7) ≠ u8 b 7 then
    { r with e := { e with tagErr := e.tagErr + 1 } }
  else
    let e := e.dropArm x q
    let tags := u32 b 3
    let (e, hs) := (List.range 8).foldl (fun (acc : Endpoint × Nat) h =>
      if bit (u8 b 1) h && decide (h < acc.1.caps.nhead) then
        let (e, keep) := acc.1.resolve now x h (bits tags (4 * h) 4)
        (e, if keep then acc.2 + 2 ^ h else acc.2)
      else acc) (e, 0)
    { r with e := e.setArm x q (some { mask := u8 b 1, blank := u8 b 2, heads := hs }) }

/-- A head is kept from jetting although its firing port asks (R238): its port's clock or a supply is out of limits,
or the endpoint is in lane test. -/
def Endpoint.inhibited (e : Endpoint) (x : Port) : Bool := (e.port x).out || e.test.isSome

/-- A head loses its firing port: its lines stored from that port are discarded (R229). -/
def Endpoint.unown (e : Endpoint) (h : Nat) : Endpoint :=
  match (e.head h).firing with
  | some x =>
    let v := e.hp x h
    (e.setHp x h { v with lines := [] }).setHead h { e.head h with firing := none, rel := none }
  | none => e

/-- The switch of a head to a port is made (R228). -/
def Endpoint.makeSwitch (e : Endpoint) (now h : Nat) (x : Port) : Endpoint :=
  let old := (e.head h).firing
  let e := match old with
    | some y => if y = x then e else e.setHp y h { e.hp y h with lines := [] }
    | none => e
  let y := e.head h
  let e := e.setHead h { y with dig := { y.dig with switch := true } }
  let e := e.closeBlock now h
  let y := e.head h
  e.setHead h { y with firing := some x, sw := none, rel := none, switched := true,
                       dig := { y.dig with switch := true } }

/-- The endpoint once a FIRE for line `n` from port X has settled who fires head h (R227, R228): a pending RELEASE or
switch whose line is reached. The Bool says whether port X fires the line. -/
def Endpoint.settle (e : Endpoint) (now : Nat) (x : Port) (h : Nat) (n : Word) : Endpoint × Bool :=
  let y := e.head h
  match y.sw with
  | some (dest, le) =>
    let reached := match le with | none => true | some l => atOrAfter n l
    if dest = x then
      if reached then (e.makeSwitch now h x, true) else (e, y.firing == some x)
    else (e, y.firing == some x && !reached)
  | none =>
    if y.firing = some x then
      match y.rel with
      | some l => if atOrAfter n l then (e.unown h, false) else (e, true)
      | none => (e, true)
    else (e, false)

/-- The codes of a line's nozzles, fallback indices looked up in the port's XLATE (R218). -/
def EpLine.codes (l : EpLine) (c : EpCfg) : List Nat :=
  let v := leNat l.payload
  (List.range c.nozzles).map (fun i =>
    let y := Machine.bits v (l.bits * i) l.bits
    if l.fallback then c.xlate.getD y 0 else y)

/-- A fire offset in units of 100 ps at the endpoint's resolution (R218, R232). -/
def roundOffset (offres o : Nat) : Nat :=
  match offres with
  | 0 => o
  | 1 => (o + 2) / 4 * 4
  | 2 => (o + 8) / 16 * 16
  | _ => 0

/-- One head of a consumed ARM (R217). -/
def EpRun.fireHead (r : EpRun) (k now : Nat) (x : Port) (blank : Bool) (o h : Nat) : EpRun :=
  let n := (r.e.hp x h).next
  let (e, may) := r.e.settle now x h n
  let v := e.hp x h
  let r :=
    if !may then { r with e := e }
    else if blank then { r with e := e.digLine now h n v.cfg.blank false }
    else
      match v.lines.find? (fun l => l.s == n) with
      | some l =>
        if e.inhibited x then { r with e := e.digLine now h n v.cfg.blank true }
        else
          let e := e.digLine now h n l.payload false
          let y := e.head h
          { r with
            e := e.setHead h { y with fired := y.fired + 1 },
            out := .jet k h (now + 100 * (e.caps.lat + roundOffset e.caps.offres o)) n (l.codes v.cfg) :: r.out }
      | none => { r with e := e.digLine now h n v.cfg.blank true }
  let v := r.e.hp x h
  let next := n + BitVec.ofNat 32 v.cfg.step
  let e := r.e.setHp x h { v with next := next, lines := v.lines.filter (fun l => atOrAfter l.s next) }
  { r with e := if (e.head h).firing = some x then e.moveBlock now h next else e }

/-- A FIRE block arrives (R214, R215, R217). -/
def EpRun.fireBlock (r : EpRun) (k now : Nat) (x : Port) (b : List Byte) : EpRun :=
  let r := { r with e := r.e.heard x }
  let q := u8 b 0 % 8
  if u8 b 0 / 8 ≠ 0x1E || b.length ≠ 8 then r
  else
    match r.e.arm x q with
    | some a =>
      if a.mask = u8 b 1 then
        let offs := leNat (slice b 2 6)
        let r := { r with e := r.e.setArm x q none }
        ((List.range 8).filter (fun h => bit a.heads h)).foldl
          (fun r h => r.fireHead k now x (bit a.blank h) (bits offs (6 * h) 6) h) r
      else r
    | none => r

/-! ### TICK, DIGEST, CLAIM, HALT (R220, R223, R227, R229) -/

/-- A TICK arrives (R219, R220). -/
def EpRun.tick (r : EpRun) (now : Nat) (x : Port) (f : List Byte) : EpRun :=
  { r with e := r.e.fitted.foldl (fun e h =>
      let n : Word := BitVec.ofNat 32 (u32 f (0x18 + 4 * h))
      let v := e.hp x h
      if n = 0xFFFFFFFF || n = v.next then e
      else
        let y := e.head h
        let e := (e.setHp x h { v with next := n }).setHead h { y with dig := { y.dig with slip := true } }
        if y.firing = some x then e.moveBlock now h n else e) r.e }

/-- A DIGEST arrives (R222, R223): it is kept for its ECHO, and a PARTIAL one from the firing port closes its block. -/
def EpRun.digest (r : EpRun) (now : Nat) (x : Port) (f : List Byte) : EpRun :=
  let h := u8 f 1
  let first : Word := BitVec.ofNat 32 (u32 f 4)
  let old := r.e.digs.filter (fun d => !(d.1 == x && d.2.1 == h))
  let e := { r.e with digs := (x, h, first, u16 f 8, BitVec.ofNat 32 (u32 f 0xC)) :: old }
  let y := e.head h
  { r with e := if bit (u8 f 2) 0 && y.firing == some x && y.dig.block == first >>> 8 then e.closeBlock now h else e }

/-- Heads a function of the endpoint changes alike. -/
def Endpoint.eachHead (e : Endpoint) (f : EpHead → EpHead) : Endpoint :=
  e.fitted.foldl (fun e h => e.setHead h (f (e.head h))) e

/-- A CLAIM decided under R227: the endpoint, and whether it is accepted. -/
def Endpoint.judge (e : Endpoint) (x : Port) (flags c : Nat) (le : Word) : Endpoint × Bool :=
  if flags = 0 ∧ e.c < c then
    ({ (e.eachHead (fun y => { y with sw := some (x, some le), switched := false })) with
        c := c, cport := x, le := some le }, true)
  else if flags = 1 ∧ e.c < c ∧ e.fitted.all (fun h => (e.head h).firing != some (portOther x)) then
    ({ (e.eachHead (fun y => { y with sw := some (x, none), switched := false })) with
        c := c, cport := x, le := none }, true)
  else if flags = 2 ∧ c = e.c ∧ e.fitted.any (fun h => (e.head h).firing == some x) then
    (e.eachHead (fun y => if y.firing = some x then { y with rel := some le } else y), true)
  else (e, false)

/-- A CLAIM arrives (R226, R227): a STATUS on both ports, and CAPS where C has changed (R230, R232). -/
def EpRun.claim (r : EpRun) (k : Nat) (x : Port) (f : List Byte) : EpRun :=
  let old := r.e.c
  let (e, ok) := r.e.judge x (u8 f 2) (u40 f 4) (BitVec.ofNat 32 (u32 f 0xC))
  let r := { r with e := e }
  let r := r.sendBoth k (e.status (if ok then 0 else 1))
  if e.c = old then r else r.sendCaps k

/-- Every head firing from a port loses it, with the ARMs held from that port (R229). -/
def Endpoint.losePort (e : Endpoint) (x : Port) : Endpoint :=
  if e.fitted.any (fun h => (e.head h).firing == some x) then
    let e := e.fitted.foldl (fun e h => if (e.head h).firing = some x then e.unown h else e) e
    e.setPort x { e.port x with arms := [] }
  else e

/-! ### The commands -/

def execEpLineReceive (t k : Nat) (x : Port) (f : List Byte) (s : State) : Res := onEp t k (fun _ r => r.line k x f) s
def execEpArmReceive (t k : Nat) (x : Port) (f : List Byte) (s : State) : Res :=
  onEp t k (fun now r => r.armBlock now x f) s
def execEpFireReceive (t k : Nat) (x : Port) (f : List Byte) (s : State) : Res :=
  onEp t k (fun now r => r.fireBlock k now x f) s
def execEpArmExpire (t k : Nat) (x : Port) (q : Nat) (s : State) : Res :=
  onEp t k (fun _ r => { r with e := r.e.dropArm x q }) s
def execEpTickReceive (t k : Nat) (x : Port) (f : List Byte) (s : State) : Res :=
  onEp t k (fun now r => r.frame x 0x05 60 f (fun r => r.tick now x f)) s
def execEpDigestReceive (t k : Nat) (x : Port) (f : List Byte) (s : State) : Res :=
  onEp t k (fun now r => r.frame x 0x02 20 f (fun r => r.digest now x f)) s
def execEpClaimReceive (t k : Nat) (x : Port) (f : List Byte) (s : State) : Res :=
  onEp t k (fun _ r => r.frame x 0x03 20 f (fun r => r.claim k x f)) s
/-- A HALT block is 0x33 with 0x5A in every byte (R208, R229). -/
def execEpHaltReceive (t k : Nat) (x : Port) (f : List Byte) (s : State) : Res :=
  onEp t k (fun _ r =>
    let r := { r with e := r.e.heard x }
    if f = leBytes 1 0x33 ++ List.replicate 7 0x5A then { r with e := r.e.losePort x } else r) s
/-- Loss of signal or lock; a port that holds EIDLE declares neither (R229, R452). -/
def execEpSignalLoss (t k : Nat) (x : Port) (s : State) : Res :=
  onEp t k (fun _ r => if (r.e.port x).eidle then r else { r with e := r.e.losePort x }) s
/-- A CTRL frame of a KIND (R233). -/
def EpRun.ctrl (r : EpRun) (x : Port) (kind : Nat) (f : List Byte) (g : EpRun → EpRun) : EpRun :=
  r.frame x 0x04 20 f (fun r => if u8 f 2 = kind then g r else r)
def execEpCapsReq (t k : Nat) (x : Port) (f : List Byte) (s : State) : Res :=
  onEp t k (fun _ r => r.ctrl x 1 f (fun r => r.send k x (r.e.capsFrame x))) s
def execEpHeadcfg (t k : Nat) (x : Port) (f : List Byte) (s : State) : Res :=
  onEp t k (fun _ r => r.ctrl x 2 f (fun r =>
    let c : EpCfg := { nozzles := u16 f 4, bits := u8 f 6, step := u8 f 7, xlate := (slice f 8 4).map (·.toNat) }
    { r with e := r.e.setHp x (u8 f 1) { r.e.hp x (u8 f 1) with cfg := c } })) s
/-- HK frames, one per fitted head (R237): the temperature, its age and flags are the head's own (free values). -/
def EpRun.hk (r : EpRun) (k : Nat) (x : Port) : EpRun :=
  r.e.fitted.foldl (fun r h =>
    let (v, r) := r.takeFree
    let y := r.e.head h
    r.send k x (withCrc (leBytes 1 0x83 ++ leBytes 1 h ++ leBytes 1 (v % 8) ++ leBytes 1 0 ++ leBytes 2 (v / 8)
      ++ leBytes 2 (v / 524288) ++ leBytes 4 y.fired.toNat ++ leBytes 4 y.missed.toNat ++ leBytes 2 r.e.tagErr
      ++ leBytes 2 r.e.crcErr ++ leBytes 4 0))) r
def execEpHkReq (t k : Nat) (x : Port) (f : List Byte) (s : State) : Res :=
  onEp t k (fun _ r => r.ctrl x 3 f (fun r => r.hk k x)) s
def execEpClear (t k : Nat) (x : Port) (f : List Byte) (s : State) : Res :=
  onEp t k (fun _ r => r.ctrl x 4 f (fun r =>
    { r with e := { (r.e.eachHead (fun y => { y with fired := 0, missed := 0 })) with tagErr := 0, crcErr := 0 } })) s
/-- TEST with an OP (R458). -/
def EpRun.testFrame (r : EpRun) (x : Port) (op : Nat) (f : List Byte) (g : EpRun → EpRun) : EpRun :=
  r.ctrl x 5 f (fun r => if u8 f 4 = op && r.e.test.isNone then g r else r)
def execEpEidle (t k : Nat) (x : Port) (f : List Byte) (s : State) : Res :=
  onEp t k (fun _ r => r.testFrame x 1 f (fun r => { r with e := r.e.setPort x { r.e.port x with eidle := true } })) s
/-- A lane test begins (R458). -/
def Endpoint.beginTest (e : Endpoint) (x : Port) (f : List Byte) : Endpoint :=
  { e with test := some { port := x, op := u8 f 4, pats := u8 f 5, dur := u16 f 6, user := u64 f 8 } }
def execEpPattern (t k : Nat) (x : Port) (f : List Byte) (s : State) : Res :=
  onEp t k (fun _ r => r.testFrame x 2 f (fun r => { r with e := r.e.beginTest x f })) s
def execEpLoopback (t k : Nat) (x : Port) (f : List Byte) (s : State) : Res :=
  onEp t k (fun _ r => r.testFrame x 3 f (fun r => { r with e := r.e.beginTest x f })) s
def execEpTestEnd (t k : Nat) (x : Port) (s : State) : Res :=
  onEp t k (fun _ r => if r.e.test.any (fun y => y.port == x) then { r with e := { r.e with test := none } } else r) s
def execEpEidleTimeout (t k : Nat) (x : Port) (s : State) : Res :=
  onEp t k (fun _ r => { r with e := r.e.heard x }) s
/-- A PROBE is answered; TTA is what the endpoint measures (R236; a free value). -/
def execEpProbeReceive (t k : Nat) (x : Port) (f : List Byte) (s : State) : Res :=
  onEp t k (fun _ r => r.frame x 0x06 12 f (fun r =>
    let (v, r) := r.takeFree
    r.send k x (withCrc (leBytes 1 0x84 ++ leBytes 1 0xFF ++ slice f 2 2 ++ leBytes 4 (v % 200001))))) s
def execEpStatusPeriodic (t k : Nat) (s : State) : Res := onEp t k (fun _ r => r.sendBoth k (r.e.status 0xFF)) s
def execEpCapsPeriodic (t k : Nat) (x : Port) (s : State) : Res := onEp t k (fun _ r => r.send k x (r.e.capsFrame x)) s
/-- Power-up or reset (R225, R238): C is 0, no head has a firing port, nothing is stored. -/
def execEpReset (t k : Nat) (s : State) : Res :=
  onEp t k (fun _ r => { r with e := { Endpoint.zero with caps := r.e.caps } }) s
def execEpRefoOutOfLimits (t k : Nat) (x : Port) (out : Bool) (s : State) : Res :=
  onEp t k (fun _ r => { r with e := r.e.setPort x { r.e.port x with out := out } }) s

end Sys2Proof.Machine
end

