-- ==== Sys2Proof/Machine/Load.lean ====
section
/-!
DEFINITION. Loading formes (R57 to R65), the flash writer (R66), and the peek into the matrix store (R119).
-/
namespace Sys2Proof.Machine

/-! ### The start of a FULL load (R60) -/

/-- Registers brought back to their reset values. -/
def Dev.resetRegs (d : Dev) (l : List Nat) : Dev := l.foldl (fun d o => d.setReg o (regDefault o)) d

/-- The cores halt (R60). -/
def Dev.haltAll (d : Dev) : Dev :=
  (List.range 8).foldl (fun d n =>
    if (d.core n).st = .idle then d else (let d := d.setCoreSt n .halted; d.setCore n { d.core n with held := [] })) d

/-- Every drive reference goes to high impedance, its waiting steps gone (R283). -/
def Dev.dropDref (d : Dev) : Dev :=
  (List.range 16).foldl (fun d r =>
    let x := d.drefRow r
    let d := d.setDrefRow r { x with drive := false, step := [] }
    if x.drive then d.emit (.dref r none) else d) d

/-- Every link is taken down, REFUSED links too (R60, R235). -/
def Dev.dropLinks (d : Dev) : Dev :=
  (List.range 32).foldl (fun d k =>
    let d := d.linkDown k
    (d.setBl k { d.bl k with fails := 0 }).setRegFld (blReg k 4) 8 4 0) d

/-- The state of jobs with none loaded. -/
def JobDev.empty : JobDev :=
  { phase := .idle, p0 := 0, queues := [], reps := [], stop := false, endLine := none, dryFrom := none, dryFlag := false,
    dryLines := 0, first := 0, prep := [], doneRows := [] }

/-- The ladder back at NORMAL, with no rung taken (log entry 47). -/
def Dev.resetLadder (d : Dev) : Dev :=
  let d : Dev := { d with hk := { d.hk with taken := [], waiting := false, applied := none, base := d.now, clean := d.now,
                                            grace := 0, graceAt := d.now, heatEnf := false, low := false } }
  (d.setThrottle 0 0).setRegFld 0x130010 16 16 0

/-- The forme in force is discarded (R60): transfers and stores abort, heads are blanked, links go down, cores halt,
references let go, staged batches and host buffers are gone (R139, R188, R198, R283, R374). -/
def Dev.discardForme (d : Dev) : Dev :=
  let d := (List.range 4).foldl (fun d h => d.abortCtx h) d
  let d := (((d.pcLoadStart.dropLinks).dropDref).haltAll).dropSwath
  let d : Dev := { d with
    ups := [], job := .empty, stores := [],
    scr := { d.scr with planes := [] },
    nz := { d.nz with hbuf := [], hbufOvf := false },
    fir := { d.fir with rows := [], heads := [], hbuf := [], hbufOvf := false, anchors := [], gains := [] },
    perf := { d.perf with dump := none },
    tw := { TwinDev.zero with ports := d.tw.ports } }
  let d := d.resetRegs [0x070008, 0x07000C, 0x070010, 0x070014, 0x090048, 0x09004C, 0x090050, 0x090054]
  let d := d.setReg 0x110004 0
  let d := d.resetLadder
  { d with fm := { d.fm with forme := none, run := none, baseDigest := [], liveDigest := [], oldDigests := [], images := [],
                             cur := { run := none, tone := [], screen := [], policy := [] } } }

/-! ### A FULL forme in force (R60) -/

/-- Counters of the register blocks that no block's own load clears (R465). -/
def Dev.clearCounters (d : Dev) : Dev :=
  let d := (List.range 8).foldl (fun d c => d.setReg (0x070040 + 4 * c) 0) d
  let d := (List.range 32).foldl (fun d n => (d.setReg (pcReg n 0x28) 0).setReg (pcReg n 0x2C) 0) d
  let d := (List.range 32).foldl (fun d k => [0x20, 0x24, 0x28, 0x2C, 0x30, 0x34, 0x38].foldl (fun d o => d.setReg (blReg k o) 0) d) d
  let d := [0x0D0008, 0x130020, 0x130024, 0x010214, 0x010218, 0x01021C, 0x010234, 0x010238, 0x01023C].foldl (fun d o => d.setReg o 0) d
  (List.range 4).foldl (fun d h =>
    ([0x010024, 0x010044] ++ (List.range 4).map (fun j => 0x020020 + 0x40 * j)).foldl (fun d o => d.setRegOf h o 0) d) d

/-- The screening of a forme just loaded (R102, R113): matrices from entry 0 up, every plane in its resting mode. -/
def Dev.screenLoad (d : Dev) (f : Forme) : Dev :=
  let d : Dev := { d with scr := { d.scr with set := [], upper := false, planes := [] } }
  let (d, recs) := d.placeSet 0 f.live.screen
  let d : Dev := { d with scr := { d.scr with set := recs } }
  f.planes.foldl (fun d p =>
    let pl : ScrPlane := { ScrPlane.empty with
      resting := match f.live.run with | some r => r.mode p.c | none => 0, blks := f.live.screen, mats := recs }
    d.setPlane p.c (if pl.mode p.c = 1 then d.regenerate f p 0 pl else pl)) d

/-- The codes of DREF_INIT, from the policy block of the DENSITY core (R283, R293). -/
def Forme.drefInit (f : Forme) (r : Nat) : Nat :=
  match f.cores.find? (fun k => k.role == 2) with
  | some k =>
    (match f.live.policy.find? (fun b => b.core == k.core) with
     | some b => u16 b.bytes (16 + 0x18 + 2 * r)
     | none => 0x800)
  | none => 0x800

/-- Every drive reference takes its initial code, its counts and read-backs clear (R283, R295). -/
def Dev.drefLoad (d : Dev) (f : Forme) : Dev :=
  (List.range 16).foldl (fun d r => d.setDrefRow r { DrefRow.zero with now := f.drefInit r }) d

/-- Every declared head starts inhibited, without an event (R434); what housekeeping has heard of heads is gone. -/
def Dev.hkLoad (d : Dev) (f : Forme) : Dev :=
  let d : Dev := { d with hk := { d.hk with tickLead := [], roundLead := [], counting := [], leadAt := [], fresh := [],
                                            heard := [], good := [] } }
  (List.range 8).foldl (fun d w =>
    d.setReg (0x130200 + 4 * w) (BitVec.ofNat 32 (((f.heads.filter (fun h => h.slot / 32 == w)).map (fun h => 2 ^ (h.slot % 32))).sum))) d

/-- Bindings follow the forme (R354): a peer on a port its context is no longer bound to is released, and event records are
numbered from 0 (R365). -/
def Dev.bindLoad (d : Dev) (f : Forme) (old : List (Option Nat)) : Dev :=
  (List.range 4).foldl (fun d h =>
    let c := { d.ctx h with evSeq := 0 }
    let b := f.bind.getD h 0xFF
    d.setCtx h (if c.peer.isSome && old.getD h none ≠ some b then
      { c with peer := none, unacked := [], waiting := [], ahead := [], answers := [], reads := [] } else c)) d

/-- The port of a context's latched peer, as it stood before the load (R361). -/
def Dev.peerPorts (d : Dev) : List (Option Nat) :=
  (List.range 4).map (fun h => if (d.ctx h).peer.isSome then d.attach h else none)

/-- A FULL forme comes into force (R60). -/
def Dev.takeForme (d : Dev) (f : Forme) (img : List Byte) (src : Nat) : Dev :=
  let old := d.peerPorts
  let dig := imageDigest (padTo (u32 img 8) 0 img)
  let d : Dev := { d with fm := { d.fm with
    forme := some f, run := f.live.run, baseDigest := dig, liveDigest := dig, oldDigests := [], images := [],
    cur := f.live, slot := src } }
  let d := d.bindLoad f old
  let d := (((d.encLoad f).tkLoad f).dramLoad f).ledgerLoad f
  let d : Dev := { d with nz := { d.nz with
    tone := f.live.tone.foldl (fun m x => Sparse.set (fun _ => identityTone) m x.head x.points) [] } }
  let d := ((d.screenLoad f).drefLoad f).hkLoad f
  let d := ((d.clearCounters.loadCores f).camLoad).twinLoad f
  let d := d.laneLoad f
  (List.range 32).foldl (fun d k => if (f.link k).inUse then d.tryLock k else d) d

/-! ### Loads (R57 to R65) -/

/-- A load ends (R63): the result, and STATE after it. -/
def Dev.loadResult (d : Dev) (reason sect state : Nat) : Dev :=
  let d : Dev := { d with fm := { d.fm with load := none } }
  d.setReg 0x030004 (windowNext (d.reg 0x030004) (BitVec.ofNat 32 (state + 256 * reason + 65536 * sect)))

/-- FORME_STATUS.STATE with no load in progress. -/
def Dev.loadedState (d : Dev) : Nat := if d.forme.isSome then 2 else 0

/-- A FULL load is permitted now (R60). -/
def Dev.fullAllowed (d : Dev) : Bool :=
  d.forme.isNone || d.standby || (!d.printing && d.fir.stopped && d.liveInflight == 0)

/-- A LIVE load is permitted now (R60). -/
def Dev.liveAllowed (d : Dev) : Bool := d.forme.isSome && !d.standby

/-- GO (R58, R60, R63). The source's read goes out before the forme in force is discarded. -/
def Dev.startLoad (d : Dev) (w : Writer) (v : Word) : Eff :=
  let h := d.actsFor w
  let live := flag v 3
  let src := if live then 2 else fld v 4 4
  let len := (d.reg 0x030010).toNat
  let addr := (d.reg 0x030008).toNat + (d.reg 0x03000C).toNat * 4294967296
  if 3 ≤ src then hostError 63
  else if d.fm.load.isSome then .ok d
  else if src = 2 && (addr % 64 ≠ 0 || len % 64 ≠ 0) then
    .ok (d.raiseTo h 0x0016 0x0300 (BitVec.ofNat 32 len) (d.reg 0x030008))
  else if !(if live then d.liveAllowed else d.fullAllowed) then .ok (d.loadResult 0x0E 0x7E (fld (d.reg 0x030004) 0 2))
  else
    let d := if src = 2 then d.hostRead h addr len else d
    let d := if live then d else d.discardForme
    let d := d.setReg 0x030004 (setFld (windowBusy (d.reg 0x030004) (d.reg 0x030004)) 0 2 1)
    .ok { d with fm := { d.fm with load := some { live := live, src := src, ctx := h, addr := addr, len := len,
                                                  atLine := flag v 2 } } }

/-- A write of FORME_CTRL (R63). -/
def Dev.writeFormeCtrl (d : Dev) (w : Writer) (v : Word) : Eff :=
  d.guarded w 0x030000 (fun r _ _ d =>
    let d := d.storeReg w 0x030000 r v
    if flag v 0 then d.startLoad w v else .ok d)

/-- BOOT_LOAD (R57): the boot load begins. -/
def Dev.bootLoad (d : Dev) : Dev :=
  if d.fm.boot && d.forme.isNone && d.fm.load.isNone then
    let d := d.setReg 0x030004 (setFld (windowBusy (d.reg 0x030004) (d.reg 0x030004)) 0 2 1)
    { d with fm := { d.fm with boot := false,
                               load := some { live := false, src := 3, ctx := 0, addr := 0, len := 0, atLine := false } } }
  else d

/-- The bytes of a slot: its image where the header is readable, else the header alone (R57). -/
def Dev.slotImage (d : Dev) (s : Nat) : List Byte :=
  let base := 0x1000000 * s
  let h := d.flashRead base 128
  if headerReadable h then d.flashRead base (max 128 (min (u32 h 8) maxFull)) else h

/-- The slots in the order a boot checks them (R57). -/
def Dev.bootOrder (d : Dev) : List Nat :=
  let a := d.flashRead 0 128
  let b := d.flashRead 0x1000000 128
  if headerReadable b && (!(headerReadable a) || decide (u32 a 0x14 < u32 b 0x14)) then [1, 0] else [0, 1]

/-- The checks of a FULL image from a source, and the load's end. -/
def Dev.endFull (d : Dev) (img : List Byte) (src : Nat) : Dev :=
  match checkFull d.fm.keys img with
  | .ok f => (d.takeForme f img src).loadResult 0 0 2
  | .error (r, s) => d.loadResult r s 0

/-- The end of a LIVE load (R58, R61, R62): what fits STAGE is staged and read back, and the image is checked in order: one
longer than STAGE is refused after its header, when its IMAGE_LEN is judged against the region. -/
def Dev.endLive (d : Dev) (f : Forme) (l : LoadJob) (bytes : List Byte) : Dev :=
  let stage := f.dram.regions.find? (fun r => r.kind == 5)
  let room := match stage with | some r => r.size * 65536 | none => 0
  let base := match stage with | some r => r.base * 65536 | none => 0
  if d.dramBusy then d
  else
    let staged := bytes.take room
    let (img, bad, d) := (d.portWrite base staged).portRead 14 base staged.length false
    let img := img ++ bytes.drop room
    if !bad.isEmpty then (let (x, d) := d.takeFree; d.loadResult 0x04 (x % 128) 2)
    else
      match checkLive d.fm.keys f d.fm.cur d.fm.baseDigest img with
      | .error (r, s) => d.loadResult r s 2
      | .ok c =>
        let img := img.take (u32 img 8)
        let dig := imageDigest img
        let named := if l.atLine && d.fir.stopped then some (d.reg 0x030068) else none
        let d := d.noteLive c dig img
        let d := d.submit f (liveUpdate f c dig l.ctx) named
        d.loadResult 0 0 2

/-- LOAD_END (R58): `host` holds the bytes of a host source; none where it did not respond. -/
def Dev.loadEnd (d : Dev) (host : Option (List Byte)) : Dev :=
  match d.fm.load with
  | none => d
  | some l =>
    if l.src = 3 then
      let order := d.bootOrder
      let a := order.getD 0 0
      let b := order.getD 1 1
      (match checkFull d.fm.keys (d.slotImage a) with
       | .ok f => (d.takeForme f (d.slotImage a) a).loadResult 0 0 2
       | .error _ => d.endFull (d.slotImage b) b)
    else if l.src < 2 then d.endFull (d.slotImage l.src) l.src
    else
      match host with
      | none => d.loadResult 0x10 0x7E d.loadedState
      | some bs =>
        let bytes := padTo l.len 0 bs
        if l.live then (match d.forme with | some f => d.endLive f l bytes | none => d)
        else d.endFull bytes 2

/-! ### The flash writer (R66) -/

/-- Where a target starts (R66), and where its body starts. -/
def flashBase (t : Nat) : Nat := [0, 0x1000000, 0x3000000].getD t 0
def flashBody (t : Nat) : Nat := if t = 2 then 0 else 0x80

/-- FORME_FLASH_STATUS with a result; RUN as it stands. -/
def Dev.flashResult (d : Dev) (r : Nat) : Dev :=
  let old := d.reg 0x030074
  d.setReg 0x030074 (windowNext old (setFld (setFld 0 20 3 r) 2 1 (b2n d.fm.flashJob.isSome)))

/-- GO of the flash writer. -/
def Dev.flashGo (d : Dev) (w : Writer) (t : Nat) : Eff :=
  let h := d.actsFor w
  let len := (d.reg 0x030080).toNat
  let addr := (d.reg 0x030078).toNat + (d.reg 0x03007C).toNat * 4294967296
  let checking := match d.fm.load with | some l => !l.live | none => false
  if t = 3 then hostError 66
  else if d.fm.flashJob.isSome || d.nz.save.isSome || checking then .ok (d.flashResult 4)
  else if addr % 64 ≠ 0 || len % 64 ≠ 0 then
    .ok (d.raiseTo h 0x0016 0x0301 (BitVec.ofNat 32 len) (d.reg 0x030078))
  else if (t = 2 && len ≠ 64) || (t < 2 && (len < 128 || maxFull < len)) then hostError 66
  else if t < 2 && d.forme.isSome && d.fm.slot = t then .ok (d.flashResult 5)
  else if !d.flashWindow then .ok ((d.flashBlocked (flashCode t)).flashResult 1)
  else
    let d : Dev := { d with fm := { d.fm with flashJob := some { target := t, ctx := h, addr := addr, len := len, halted := false } } }
    .ok ((d.setReg 0x030074 (setFld (windowBusy (d.reg 0x030074) (d.reg 0x030074)) 2 1 1)).hostRead h addr len)

/-- A write of FORME_FLASH_CTRL. -/
def Dev.writeFlashCtrl (d : Dev) (w : Writer) (v : Word) : Eff :=
  d.guarded w 0x030070 (fun r _ _ d =>
    let d := d.storeReg w 0x030070 r v
    if flag v 0 then d.flashGo w (fld v 4 2) else .ok d)

/-- The flash writer has ended; a ledger save that waited starts (R66). -/
def Dev.flashDone (d : Dev) (r : Nat) : Dev :=
  let d := ({ d with fm := { d.fm with flashJob := none } } : Dev).flashResult r
  if d.nz.saveWait then d.ledgerStart else d

/-- FLASH_WRITE_END (R66): the bytes of the source, none where it did not respond; the commands issued before a halt; and
what the target reads back as. -/
def Dev.flashEnd (d : Dev) (src : Option (List Byte)) (steps : Nat) (readBack : List Byte) : Dev :=
  match d.fm.flashJob with
  | none => d
  | some j =>
    let base := flashBase j.target
    let n := (j.len + 4095) / 4096
    let body := flashBody j.target
    if j.halted || (src.isSome && !d.flashWindow) then
      let d := d.flashPartial base body n ((padTo j.len 0 (src.getD [])).drop body) steps
      (if j.halted then d else d.flashBlocked (flashCode j.target)).flashDone 1
    else
      match src with
      | none => (d.flashPartial base body n [] steps).flashDone 2
      | some bs =>
        let img := padTo j.len 0 bs
        let back := padTo j.len 0xFF readBack
        let d := d.eraseSectors (base / 4096) n
        let d : Dev := { d with fm := { d.fm with flash := Sparse.setList flashDefault d.fm.flash base back } }
        d.flashDone (if crc32c back = crc32c img then 0 else 3)

/-! ### Peeking (R119) -/

/-- A write of SCR_PEEK_ADDR reads the entry. -/
def Dev.writeScrPeek (d : Dev) (w : Writer) (v : Word) : Eff :=
  d.guarded w 0x060008 (fun r _ _ d =>
    let e := fld v 0 21
    if 1572863 < e then hostError 119
    else
      let d := d.storeReg w 0x060008 r v
      let x := Sparse.get matrixDefault d.scr.matrix e
      .ok (d.setReg 0x06000C (windowNext (d.reg 0x06000C) (BitVec.ofNat 32 x.toNat))))

/-! ### The commands -/

/-- BOOT_LOAD (R57). -/
def execBootLoad (t : Nat) (s : State) : Res := onDev t Dev.bootLoad s
/-- FULL_LOAD (R60): FORME_CTRL is written with GO and LIVE 0. -/
def execFullLoad (t : Nat) (w : Writer) (v : Word) (s : State) : Res := onDevE t (fun d => d.writeFormeCtrl w v) s
/-- LIVE_LOAD (R61): FORME_CTRL is written with GO and LIVE 1. -/
def execLiveLoad (t : Nat) (w : Writer) (v : Word) (s : State) : Res := onDevE t (fun d => d.writeFormeCtrl w v) s
/-- LOAD_END (R58). -/
def execLoadEnd (t : Nat) (host : Option (List Byte)) (s : State) : Res := onDev t (fun d => d.loadEnd host) s
/-- FLASH_WRITE_GO (R66). -/
def execFlashWriteGo (t : Nat) (w : Writer) (v : Word) (s : State) : Res := onDevE t (fun d => d.writeFlashCtrl w v) s
/-- FLASH_WRITE_END (R66). -/
def execFlashWriteEnd (t : Nat) (src : Option (List Byte)) (steps : Nat) (readBack : List Byte) (s : State) : Res :=
  onDev t (fun d => d.flashEnd src steps readBack) s
/-- SCR_PEEK (R119). -/
def execScrPeek (t : Nat) (w : Writer) (v : Word) (s : State) : Res := onDevE t (fun d => d.writeScrPeek w v) s

end Sys2Proof.Machine
end

