-- ==== Sys2Proof/Machine/Reset.lean ====
section
/-!
DEFINITION. Resets (R463 to R466), discarded frames (R209), DREF records a host stages (R284), calibration (R291) and the
writes of the DRAM controller (R343, R345).
-/
namespace Sys2Proof.Machine

/-! ### Resets -/

/-- A command of the reset logic, which acts while the reset is asserted too. -/
def onReset (t : Nat) (f : Dev → Dev) (s : State) : Res := .next { s with dev := f (s.dev.at t) }

/-- The encoders at rest, the levels of their inputs kept. -/
def EncSide.cleared (e : EncSide) : EncSide := { EncSide.zero with a := e.a, b := e.b, z := e.z }

/-- A reset begins (R463 to R465): outputs go to their reset state and everything is cleared but fuses, flash, what left
the device, and, for a SYS reset, the clock and the ENCO regenerator. -/
def Dev.enterReset (d : Dev) (power : Bool) (cause : Nat) : Dev :=
  let trip := d.tripped
  let slow := d.slowAsserted
  let d := (d.quietOutputs).dropDref
  let d := if slow then d.emit (.pin 3 0 true) else d
  let r := Dev.reset
  let r : Dev := { r with
    now := d.now, inReset := true, free := d.free, out := d.out,
    clock := if power then { r.clock with since := d.now } else d.clock,
    fm := { r.fm with keys := d.fm.keys, flash := d.fm.flash },
    hk := { r.hk with fuses := d.hk.fuses, oscFuses := d.hk.oscFuses },
    host := { r.host with macs := d.host.macs },
    lanes := [], regs := [],
    enc := { r.enc with
      e0 := d.enc.e0.cleared, e1 := d.enc.e1.cleared,
      encoA := d.enc.encoA, encoB := d.enc.encoB,
      encoGather := if power then 0 else d.enc.encoGather,
      encoSrc := if power then 0 else d.enc.encoSrc, encoDiv := if power then 1 else d.enc.encoDiv } }
  r.setReg 0x000008 (BitVec.ofNat 32 (cause + 256 * b2n trip))

/-- A SYS reset; a further trigger while the reset is asserted only prolongs it (R464). -/
def Dev.sysResetFor (d : Dev) (cause : Nat) : Dev := if d.inReset then d else d.enterReset false cause

/-- RESET_N held low (R464): what a pulse of 200 ns to 1 µs does is not stated, a free value. -/
def Dev.resetPin (d : Dev) (lowNs : Nat) : Dev :=
  if 1000 ≤ lowNs then d.sysResetFor 1
  else if lowNs < 200 then d
  else (let (x, d) := d.takeFree; if x % 2 = 1 then d.sysResetFor 1 else d)

/-- The brownout level of a supply in mV. -/
def brownLevel : BrownSupply → Nat
  | .core => 580
  | .sram => 720
  | .ser => 810

/-- The port record loaded into the port registers (R358); a bad one leaves both ports silent. -/
def Dev.portRecord (d : Dev) : Dev :=
  let r := d.flashRead 0x3000000 64
  if u32 r 0 = 0x54454E50 && (crc32c (r.take 0x3C)).toNat = u32 r 0x3C then
    [0, 1].foldl (fun d q =>
      let d := d.setReg (0x010200 + 0x20 * q) (BitVec.ofNat 32 (u32 r (8 + 16 * q)))
      let v := u16 r (0xE + 16 * q)
      let d := d.setReg (0x010204 + 0x20 * q)
        (BitVec.ofNat 32 (u8 r (0xC + 16 * q) % 32 + 65536 * (v % 4096) + 2147483648 * (v / 32768)))
      d.setReg (0x010208 + 0x20 * q) (BitVec.ofNat 32 (u32 r (0x10 + 16 * q)))) d
  else d

/-- The internal reset is released (R462, R466): VSET is driven, the port record read, EN0 comes up for HC0. -/
def Dev.release (d : Dev) : Dev :=
  if d.inReset then
    let d : Dev := { d with inReset := false }
    ((d.emit (.vset 800)).portRecord).leaveDeep 34
  else d

/-- A write of SYS_CTRL (R474): ignored without its key. -/
def Dev.writeSysCtrl (d : Dev) (w : Writer) (v : Word) : Eff :=
  d.guarded w 0x000004 (fun _ _ _ d => .ok (if fld v 16 16 = 0x5A17 && flag v 0 then d.sysResetFor 2 else d))

/-- POWER_ON_RESET (R464). -/
def execPowerOnReset (t : Nat) (s : State) : Res := onReset t (fun d => d.enterReset true 0) s
/-- RESET_N_ASSERT (R464). -/
def execResetNAssert (t lowNs : Nat) (s : State) : Res := onReset t (fun d => d.resetPin lowNs) s
/-- SYS_RESET (R474). -/
def execSysReset (t : Nat) (w : Writer) (v : Word) (s : State) : Res := onDevE t (fun d => d.writeSysCtrl w v) s
/-- BROWNOUT (R464). -/
def execBrownout (t : Nat) (supply : BrownSupply) (mv : Nat) (s : State) : Res :=
  onReset t (fun d => if mv < brownLevel supply then d.sysResetFor 3 else d) s
/-- PERST_ASSERT (R464): the link of PEn goes down, which acts as R356 states. -/
def execPerstAssert (t n : Nat) (s : State) : Res := onUnit (decide (n < 2)) t (fun d => d.flr n true) s
/-- RESET_RELEASE (R466). -/
def execResetRelease (t : Nat) (s : State) : Res := onReset t Dev.release s

/-! ### Discarded frames (R209) -/

/-- FRAME_DISCARDED (R209): counted by the receiver it arrives at. -/
def execFrameDiscarded (t : Nat) (rx : Receiver) (s : State) : Res :=
  match rx with
  | .bar k => onUnit (linkOk k) t (fun d => d.blBad k) s
  | .twin q => onUnit (decide (q < 2)) t (fun d => d.bump (0x11010C + 0x10 * q)) s
  | .endpoint k _ => onEp t k (fun _ r => { r with e := { r.e with crcErr := r.e.crcErr + 1 } }) s

/-! ### Drive references (R284) -/

/-- A DREF batch staged; of a row not in use the code is in force at once, for no seam reaches it (log entry 50). -/
def Dev.stageDref (d : Dev) (f : Forme) (rs : List (Nat × Nat)) (tag who : Nat) (named : Option Word) (group : List Nat) : Dev :=
  let idle := rs.filter (fun rc => !(f.rowsInUse.contains rc.1))
  let live := rs.filter (fun rc => f.rowsInUse.contains rc.1)
  let d := idle.foldl (fun d rc => d.applyDref rc.1 rc.2 none) d
  if live.isEmpty then d
  else d.submit f { block := 0x0D, tag := tag, by_ := who, seam := none, payload := .dref live,
                    rows := f.rowsInUse.filter (fun r => live.any (fun rc => rc.1 == r)), applied := [], planes := [],
                    planesDone := [], group := group } named

/-- A write of LOOP_DREF_SET (R284, R295): a one-record batch, refused whole where the store is full. -/
def Dev.writeDrefSet (d : Dev) (w : Writer) (r : Nat) (v : Word) : Eff :=
  d.guarded w (0x0D0100 + 0x10 * r) (fun row _ _ d =>
    let d := d.storeReg w (0x0D0100 + 0x10 * r) row v
    .ok (match d.forme with
      | some f => if 1 ≤ d.drefFree then d.stageDref f [(r, fld v 0 12)] 0 (d.actsFor w) none [] else d
      | none => d.applyDref r (fld v 0 12) none))

/-- A write of LOOP_CTRL (R291, R295): CAL, once set, reads 1 until the next START. -/
def Dev.writeLoopCtrl (d : Dev) (w : Writer) (v : Word) : Eff :=
  d.guarded w 0x0D0000 (fun r _ _ d =>
    let cal := flag (d.reg 0x0D0000) 8
    let d := d.storeReg w 0x0D0000 r v
    .ok (d.setReg 0x0D0000 (setFlag (d.reg 0x0D0000) 8 (cal || flag v 8))))

/-- LOOP_DREF_SET (R284). -/
def execLoopDrefSet (t : Nat) (w : Writer) (row : Nat) (v : Word) (s : State) : Res :=
  onUnitE (decide (row < 16)) t (fun d => d.writeDrefSet w row v) s
/-- CAL (R291): LOOP_CTRL is written with CAL. -/
def execLoopCal (t : Nat) (w : Writer) (v : Word) (s : State) : Res := onDevE t (fun d => d.writeLoopCtrl w v) s

/-! ### The DRAM controller -/

/-- A write of DC_CTRL as judged. -/
def Dev.dcCtrlBy (d : Dev) (w : Writer) (v : Word) : Eff := d.guarded w 0x100000 (fun _ _ _ d => .ok (d.writeDcCtrl v))
/-- A write of DC_LOWRATE as judged. -/
def Dev.dcLowRateBy (d : Dev) (w : Writer) (v : Word) : Eff := d.guarded w 0x10000C (fun _ _ _ d => d.writeLowRate v)

/-- RETRAIN (R353): DC_CTRL is written with RETRAIN. -/
def execDcRetrain (t : Nat) (w : Writer) (v : Word) (s : State) : Res := onDevE t (fun d => d.dcCtrlBy w v) s
/-- SETPOINT_CHANGE (R345): DC_CTRL is written with another SETPOINT. -/
def execSetpointChange (t : Nat) (w : Writer) (v : Word) (s : State) : Res := onDevE t (fun d => d.dcCtrlBy w v) s

end Sys2Proof.Machine
end

