-- ==== Sys2Proof/Machine/View.lean ====
section
/-!
DEFINITION. What every register of the window reads as (R475, R476, R479, R480): the registers whose value stands in
another part of the state, the latching LO registers, the RC registers, the table window and the cores' memories.
-/
namespace Sys2Proof.Machine

/-- A view of a register: a value and the device after the read, or none where the register file holds it. -/
abbrev View := Option (Word × Dev)

/-- A view with no side effect. -/
def Dev.shows (d : Dev) (v : Word) : View := some (v, d)
/-- A view of a number. -/
def Dev.showsNat (d : Dev) (v : Nat) : View := some (BitVec.ofNat 32 v, d)

/-- A latching LO register: the low word, and the upper bits held for the reader (R479). -/
def Dev.latching (d : Dev) (h hi : Nat) (v : Nat) : View :=
  some (BitVec.ofNat 32 v,
    { d with latch := Sparse.set (fun _ => 0) d.latch ((h + 1) * 0x1000000 + hi) (BitVec.ofNat 32 (v / 4294967296)) })
/-- The matching HI register: what the reader's last read of LO has latched. -/
def Dev.latched (d : Dev) (h hi : Nat) : View := some (Sparse.get (fun _ => 0) d.latch ((h + 1) * 0x1000000 + hi), d)

/-- SYS (R474). -/
def Dev.viewSys (d : Dev) (off : Nat) : View :=
  if off = 0x000008 then d.shows (setFlag (d.reg off) 9 d.forme.isNone) else none

/-- Two bits of HOST_OWN for a resource: its owner; the bits of one that the device owns are free (R363, log entry 54). -/
def Dev.ownBits (d : Dev) (c i : Nat) : Nat × Dev :=
  if classSize c ≤ i then (0, d)
  else match d.owner c i with
    | some o => (o % 4, d)
    | none => let (x, d) := d.takeFree; (x % 4, d)

/-- HOST_OWN of a class for 16 indices from `lo` up. -/
def Dev.ownWord (c lo : Nat) : Nat → Dev → Nat × Dev
  | 0, d => (0, d)
  | k + 1, d =>
    let (v, d) := Dev.ownWord c lo k d
    let (x, d) := d.ownBits c (lo + k)
    (v + x * 4 ^ k, d)

/-- HOST (R378), as context `h` sees it. -/
def Dev.viewHost (d : Dev) (h off i : Nat) : View :=
  if off = 0x010000 then
    let (a, d) : Nat × Dev := match d.attach h with
      | some a => (a, d)
      | none => let (x, d) := d.takeFree; (x % 4, d)
    d.showsNat (h + 256 * a + 65536 * b2n d.forme.isNone)
  else if off = 0x010008 then d.shows (setFlag (d.regOf h off) 2 (d.ctx h).peer.isSome)
  else if off = 0x010060 then d.shows (match (d.ctx h).peer with | some p => p.1 | none => 0)
  else if off = 0x010064 then d.showsNat (match (d.ctx h).peer with | some p => p.2 | none => 0)
  else if 0x010100 ≤ off && off < 0x010160 then
    let (v, d) := Dev.ownWord ((off - 0x010100) / 8) (if off % 8 = 0 then 0 else 16) 16 d
    d.showsNat v
  else if off = 0x010210 + 0x20 * i then
    let up := d.phy (34 + i) == 2 && d.laneLock (34 + i)
    d.showsNat (if up then 1 + 2 * b2n (Config.enKr i && Config.enFec i) + 4 * b2n (Config.enKr i) else 0)
  else none

/-- A 32-byte digest as eight registers. -/
def digestWord (b : List Byte) (k : Nat) : Nat := u32 b (4 * k)

/-- FORME (R63, R64). -/
def Dev.viewForme (d : Dev) (off : Nat) : View :=
  if off = 0x030004 then d.shows (setFld (d.reg off) 2 6 d.liveInflight)
  else if 0x030014 ≤ off && off < 0x030060 then
    match d.forme with
    | none => d.shows 0
    | some f =>
      if off = 0x030014 then d.showsNat f.id
      else if off = 0x030018 then d.showsNat f.rev
      else if off = 0x03001C then d.showsNat d.fm.slot
      else if off < 0x030040 then d.showsNat (digestWord d.fm.baseDigest ((off - 0x030020) / 4))
      else d.showsNat (digestWord d.fm.liveDigest ((off - 0x030040) / 4))
  else none

/-- The start of the first committed repeat past the line the most upstream row is preparing (R87). -/
def Dev.nextStart (d : Dev) (f : Forme) : Option Int := (d.job.reps.find? (fun r => decide (d.upLine f < r.b))).map (·.b)

/-- The repeat that line belongs to. -/
def Dev.upRepeat (d : Dev) (f : Forme) : Nat := (d.job.reps.filter (fun r => decide (r.b ≤ d.upLine f))).length - 1

/-- JOB (R87). -/
def Dev.viewJob (d : Dev) (off c : Nat) : View :=
  match d.forme with
  | none => none
  | some f =>
    if off = 0x040004 then
      let st := match d.job.phase with | .idle => 0 | .running => 1 | .draining => 2
      d.showsNat (st + 4 * b2n d.job.dryFlag + 8 * b2n (d.nextStart f).isSome + 65536 * (d.upRepeat f % 65536))
    else if off = 0x040010 then d.shows (low32 d.job.p0)
    else if off = 0x040014 then d.shows (high32 d.job.p0)
    else if off = 0x040018 then d.showsNat d.job.dryLines
    else if off = 0x04001C then d.shows (match d.nextStart f with | some s => low32 s | none => 0)
    else if 0x040020 ≤ off && off < 0x040040 then
      d.showsNat (match f.plane ((off - 0x040020) / 4) with | some p => if p.rowMode = 0 then 0 else f.ringBase p | none => 0)
    else if 0x040040 ≤ off && off < 0x040060 then
      d.showsNat (match f.plane ((off - 0x040040) / 4) with | some p => f.ringSize p | none => 0)
    else if off = 0x04010C + 0x20 * c then
      let q := d.queue c
      d.showsNat (q.posted % 256 + 256 * ((q.done + q.gone) % 256)
        + 65536 * (if bit f.geom.planeMask c then d.job.reps.length % 256 else 0) + 16777216 * q.free)
    else none

/-- SCR (R119). -/
def Dev.viewScr (d : Dev) (off c : Nat) : View :=
  if off = 0x060000 then d.shows d.scrModeNow
  else if 0x060100 ≤ off then
    let pl := d.plane c
    let b := match d.forme.bind (fun f => f.plane c) with
      | some p => if d.bypass p then none else d.binding c
      | none => none
    match off % 0x20 with
    | 0x00 =>
      (match b, d.forme.bind (fun f => f.plane c) with
       | some b, some p =>
         let drop := if usesFallback p pl.rungs then p.fallback else b.dropIdx
         d.showsNat (b.seedIdx % 8 + 256 * (match b.matrix with | some m => m.index | none => 0xFF)
           + 65536 * (match b.weights with | some x => x.index | none => 0xFF) + 16777216 * drop)
       | _, _ => none)
    | 0x04 => d.shows (match b with | some b => b.seed | none => 0)
    | 0x08 => d.showsNat (match b.bind (·.matrix) with | some m => m.base | none => 0)
    | 0x0C => d.shows pl.clip
    | 0x10 => d.shows pl.esat
    | 0x14 => d.shows pl.edrop
    | 0x18 => d.shows pl.lines
    | _ => d.shows pl.seam
  else none

/-- The nozzle or head word in force on the line its row is preparing (R124). -/
def Dev.nzShown (d : Dev) (idx : Nat) : Word :=
  match d.forme.bind (fun f => f.head (nzHeadOf idx)) with
  | some h => d.nzWordAt h.row idx (d.prep h.row)
  | none => 0

/-- NZ (R153). -/
def Dev.viewNz (d : Dev) (off : Nat) : View :=
  if off = 0x070018 then d.showsNat d.nzFree
  else if off = 0x07001C then d.showsNat (d.inflight 0x07).length
  else if 0x070080 ≤ off && off < 0x0700C0 then
    d.showsNat (match d.forme with | some f => d.deadCount f ((off - 0x070080) / 4) | none => 0)
  else if 0x071000 ≤ off then d.shows (d.nzShown (0x100000 + (off - 0x071000) / 4))
  else none

/-- ENC0_STATUS and ENC1_STATUS (R176). ENC1's status is that of an encoder at rest while it is not in use. -/
def Dev.encStatus (d : Dev) (n : Nat) : Nat :=
  let e := d.encSide n
  b2n (decide (e.lastSign < 0)) + 8 * b2n (n == 0 && d.enc.armed) + 16 * b2n (e.speed == 0) + 32 * b2n e.disA.isSome
    + 64 * b2n e.disB.isSome + 128 * b2n e.disZ.isSome + 256 * b2n (n == 0 && d.enc.fallback)

/-- ENC (R176). -/
def Dev.viewEnc (d : Dev) (off : Nat) : View :=
  if off = 0x080050 then d.showsNat (d.encStatus 0)
  else if off = 0x080054 then d.showsNat (d.encStatus 1)
  else none

/-- FIR (R205). -/
def Dev.viewFir (d : Dev) (off i : Nat) : View :=
  if off = 0x090004 then
    d.showsNat (b2n d.fir.stopped + 2 * b2n (decide (d.p < d.fir.pmax)) + 4 * b2n (!d.fir.gains.isEmpty))
  else if off = 0x09000C then d.shows (low32 d.fir.anchor)
  else if off = 0x090058 then d.showsNat d.firFree
  else if off = 0x09005C then d.showsNat (d.inflight 0x09).length
  else if 0x090100 ≤ off && off < 0x090200 then
    let x := d.rowFire i
    match off % 16 with
    | 0 => d.shows (low32 x.latest)
    | 4 => d.shows (low32 x.c)
    | 8 => d.shows x.late
    | _ => d.shows (low32 x.fired)
  else if 0x090280 ≤ off && off < 0x090300 then
    let k := (off - 0x090280) / 4
    d.showsNat (match d.forme with | some f => if (f.link k).inUse then d.linkDepth f k else 0 | none => 0)
  else if 0x091000 ≤ off && off < 0x092000 then
    let x := d.headFire ((off - 0x091000) / 4)
    d.showsNat ((x.tgt % 65536).toNat + 65536 * (x.x % 8192).toNat)
  else none

/-- BL (R240): the claims heard and made, and the heads' identities. -/
def Dev.viewBl (d : Dev) (h off k : Nat) : View :=
  let o := off % 0x100
  if o = 0x10 then d.latching h (off + 4) (d.bl k).claim
  else if o = 0x18 then d.latching h (off + 4) (d.bl k).own
  else if o = 0x14 || o = 0x1C then d.latched h off
  else if 0x40 ≤ o && o < 0x80 then
    if o % 8 = 0 then d.latching h (off + 4) ((d.reg off).toNat + 4294967296 * (d.reg (off + 4)).toNat)
    else d.latched h off
  else none

/-- CAM_STATUS (R271): RUN while the port's receiver takes frames; what the D-PHY shows of deskew and clock is free
while it does (log entry 55). -/
def Dev.viewCam (d : Dev) (off p : Nat) : View :=
  if off % 0x400 = 0 then
    match d.forme.bind (fun f => f.cam) with
    | some c =>
      if bit c.portMask p then
        let lanes := (d.camPort p).lanes
        if d.watching then d.showsNat (lanes + 512)
        else let (x, d) := d.takeFree; d.showsNat (lanes + 8 * (x % 4) + 256)
      else none
    | none => none
  else none

/-- ISP_DPC_DATA reads the entry at ISP_DPC_ADDR (R271). -/
def Dev.viewIsp (d : Dev) (off p : Nat) : View :=
  if off % 0x1000 = 0xC04 then d.shows (Sparse.get (fun _ => 0) (d.camPort p).dpc (fld (d.reg (ispReg p 0xC00)) 0 10)) else none

/-- LOOP (R295). -/
def Dev.viewLoop (d : Dev) (off r : Nat) : View :=
  if off = 0x0D000C then d.showsNat d.drefFree
  else if off = 0x0D0010 then d.showsNat (d.inflight 0x0D).length
  else if 0x0D0100 ≤ off then
    let x := d.drefRow r
    match off % 16 with
    | 4 => d.showsNat (x.now + 65536 * b2n x.drive + 131072 * b2n x.fault)
    | 8 => d.showsNat x.rb
    | 0xC => d.shows x.spill
    | _ => none
  else none

/-- CC_STATUS.STATE (R331). -/
def CoreSt.code : CoreSt → Nat
  | .idle => 0
  | .running => 1
  | .waiting => 2
  | .halted => 3
  | .fault => 4
  | .watch => 5

/-- CC (R331). -/
def Dev.viewCc (d : Dev) (h off n : Nat) : View :=
  if off = 0x0E0400 then d.latching h 0x0E0404 (d.cc.recW % 18446744073709551616)
  else if off = 0x0E0404 then d.latched h off
  else
    let c := d.core n
    match off % 0x40 with
    | 0x04 =>
      let role := match d.forme with | some f => f.role n | none => 0
      d.showsNat (c.st.code + 16 * role + 256 * b2n c.csr.inexc + 512 * b2n c.csr.patched + 65536 * (c.csr.cause % 256))
    | 0x08 => d.shows c.pc
    | 0x0C => d.shows c.csr.epc
    | 0x10 => d.shows c.csr.eaddr
    | 0x18 => d.shows c.csr.mailOut
    | 0x1C => d.showsNat (c.csr.inSeq + 256 * c.csr.outSeq)
    | 0x20 => d.shows (d.recipe n)
    | _ => none

/-- PERF (R324, R327). -/
def Dev.viewPerf (d : Dev) (h off : Nat) : View :=
  if 0x0F8000 ≤ off then d.showsNat (u32 (Sparse.getList sramDefault d.perf.buf (off - 0x0F8000) 4) 0)
  else if 0x0F1000 ≤ off then
    if off % 8 = 0 then (let (v, d) := d.counter ((off - 0x0F1000) / 8); d.latching h (off + 4) v)
    else d.latched h off
  else none

/-- TW_HOLDOFF_LEFT in ms (R405). -/
def Dev.holdoffLeft (d : Dev) (f : Forme) : Nat :=
  if d.tw.noHold then 0
  else match d.tw.readySince with
    | some t => (t + f.twin.holdoff * 1000000000 - d.now + 999999999) / 1000000000
    | none => f.twin.holdoff

/-- TW (R405): the hold-off of a primary that waits in WATCH. -/
def Dev.viewTw (d : Dev) (off : Nat) : View :=
  if off = 0x110018 then d.showsNat d.mirrorLag
  else if off = 0x11001C then
    match d.forme with
    | some f => d.showsNat (if d.twState = 5 && f.twin.rank = 0x80 then d.holdoffLeft f else 0)
    | none => none
  else none

/-- TK (R424): TK_RATE shows the y of the clock, which a SYS reset keeps (R465). -/
def Dev.viewTk (d : Dev) (h off i : Nat) : View :=
  if off = 0x120008 then d.shows (low32 d.clock.y)
  else if off = domReg i 0x10 then d.latching h (off + 4) ((d.reg off).toNat + 4294967296 * (d.reg (off + 4)).toNat)
  else if off = domReg i 0x14 then d.latched h off
  else if off = domReg i 0x18 then
    d.showsNat (match (d.dom i).lockedAt with | some t => min 4294967295 ((d.now - t) / 1000000000000) | none => 0)
  else none

/-- HK_THROTTLE with the grace time left (R442). -/
def Dev.viewHk (d : Dev) (off : Nat) : View :=
  if off = 0x130010 then d.shows (d.graceCount.showGrace.reg 0x130010) else none

/-- LANE (R454, R455, R459): a port in 10GBASE-KR mode reads back trained taps; while a test runs, what its checker has
counted and whether it is locked are free values (log entry 35). REFIN is present while the device is out of reset (R461, log
entry 129). -/
def Dev.viewLane (d : Dev) (h off n : Nat) : View :=
  let o := off - laneReg n 0
  if off = 0x140C00 then d.shows (setFlag (d.reg off) 0 true)
  else if d.inTest n && o = 0x04 then
    let (x, d) := d.takeFree
    d.shows (setFlag (d.reg off) 6 (x % 2 == 1))
  else if d.inTest n && o = 0x1C then (let (x, d) := d.freeWord; d.shows x)
  else if d.inTest n && o = 0x20 then (let (x, d) := d.takeFree; d.latching h (off + 4) (x % 281474976710656))
  else if o = 0x20 then d.latching h (off + 4) ((d.lane n).bits % 281474976710656)
  else if o = 0x24 then d.latched h off
  else if o = 0x08 && decide (34 ≤ n) && Config.enKr (n - 34) then
    let (x, d) := d.freeWord
    d.shows (x &&& 0x000F070F)
  else none

/-- The view of a register of the map, by its block. -/
def Dev.view (d : Dev) (h off i : Nat) : View :=
  match off / 0x10000 with
  | 0x00 => d.viewSys off
  | 0x01 => d.viewHost h off i
  | 0x03 => d.viewForme off
  | 0x04 => d.viewJob off i
  | 0x06 => d.viewScr off i
  | 0x07 => d.viewNz off
  | 0x08 => d.viewEnc off
  | 0x09 => d.viewFir off i
  | 0x0A => d.viewBl h off i
  | 0x0B => d.viewCam off i
  | 0x0C => d.viewIsp off i
  | 0x0D => d.viewLoop off i
  | 0x0E => d.viewCc h off i
  | 0x0F => d.viewPerf h off
  | 0x11 => d.viewTw off
  | 0x12 => d.viewTk h off i
  | 0x13 => d.viewHk off
  | 0x14 => d.viewLane h off i
  | _ => none

/-- A word of a core's local memory through the window; an IDLE core's reads 0 (R315, R481). -/
def Dev.coreWord (d : Dev) (off : Nat) : Word :=
  let c := d.core ((off - 0xC00000) / 0x40000)
  if c.st = .idle then 0 else BitVec.ofNat 32 (u32 (Sparse.getList sramDefault c.lmem (off % 0x40000) 4) 0)

/-- A read of one word of the window by a writer, with its side effects (R476). -/
def Dev.readWord (d : Dev) (w : Writer) (off : Nat) : Word × Dev :=
  if off % 4 ≠ 0 then (0, d)
  else if 0x800000 ≤ off && off < 0xC00000 then (d.nzShown ((off - 0x800000) / 4), d)
  else if patchOff off then (d.coreWord off, d)
  else
    match regRow off with
    | none => (0, d)
    | some (r, i, _) =>
      match r.acc with
      | .wo | .w1s => (0, d)
      | .rc => if off / 0x10000 = 0x0B then d.readCci i else d.tcPop w i
      | _ =>
        match d.view (d.window w) off i with
        | some x => x
        | none => (d.regOf (d.window w) off, d)

/-- Consecutive words read in ascending offset order (R476). -/
def Dev.readWords (w : Writer) (off : Nat) : Nat → Dev → List Word × Dev
  | 0, d => ([], d)
  | k + 1, d =>
    let (l, d) := Dev.readWords w off k d
    let (v, d) := d.readWord w (off + 4 * k)
    (l ++ [v], d)

/-- LATCHING_LO_READ (R479): the value goes to its reader, the upper bits to the reader's holding register. -/
def execLatchingLoRead (t : Nat) (w : Writer) (off : Nat) (s : State) : Res :=
  onDev t (fun d => let (v, d) := d.readWord w off; d.emit (.answer w off v)) s

end Sys2Proof.Machine
end

