-- ==== Sys2Proof/Machine/Window.lean ====
section
/-!
DEFINITION. What a write of each register of the window does (R475 to R478): the registers with an effect of their own
go to the block that has it, every other one is judged, checked against its range and stored.
-/
namespace Sys2Proof.Machine

/-- A rule that calls a value out of range, where `ok` fails. -/
def outOf (rule : Nat) (ok : Bool) : Option Nat := if ok then none else some rule

/-- HOST (R365, R371, R378). -/
def rangeHost (base : Nat) (v : Word) : Option Nat :=
  match base with
  | 0x010010 => outOf 365 (fld v 0 6 == 0)
  | 0x010018 => outOf 378 (within 6 16 (fld v 0 5))
  | 0x010028 => outOf 378 (fld v 0 2 == 0)
  | 0x010030 => outOf 378 (fld v 0 6 == 0)
  | 0x010038 => outOf 378 (within 19 30 (fld v 0 5))
  | 0x010048 => outOf 378 (decide (1 ≤ fld v 16 8))
  | 0x0100C0 => outOf 378 (decide (1 ≤ fld v 0 4))
  | 0x01020C => outOf 378 (decide (100 ≤ fld v 0 16))
  | _ => none

/-- CAM (R271). -/
def rangeCam (base : Nat) (v : Word) : Option Nat :=
  match base with
  | 0x0B0004 => outOf 271 (decide (1 ≤ fld v 0 16))
  | 0x0B0024 => outOf 271 (fld v 0 2 != 3 && decide (1 ≤ fld v 8 8))
  | _ => none

/-- ISP (R246, R264, R271). -/
def rangeIsp (base : Nat) (v : Word) : Option Nat :=
  match base with
  | 0x0C0000 => outOf 246 (fld v 9 2 == 0 || decide (fld v 6 3 + fld v 9 2 ≤ 8))
  | 0x0C0014 => outOf 271 (decide (fld v 16 4 ≤ 8))
  | 0x0C0034 => outOf 271 (decide (fld v 0 13 ≤ 4912))
  | 0x0C0800 => outOf 264 (fld v 1 2 != 3 && fld v 7 2 != 3 && fld v 9 2 != 3)
  | 0x0C0804 => outOf 271 (within 1 4096 (fld v 16 13))
  | 0x0C0808 => outOf 271 (decide (1 ≤ fld v 16 16))
  | 0x0C0810 => outOf 271 (within 2 64 (fld v 16 7))
  | 0x0C0814 => outOf 271 (decide (1 ≤ fld v 24 6))
  | 0x0C0C08 => outOf 271 (decide (fld v 0 11 ≤ 1024))
  | _ => none

/-- PERF (R326, R329, R331). -/
def rangePerf (base : Nat) (v : Word) : Option Nat :=
  match base with
  | 0x0F0064 => outOf 331 (within 1 60000 (fld v 0 16))
  | 0x0F006C => outOf 331 (decide (1 ≤ fld v 0 16))
  | 0x0F0084 => outOf 331 (decide (16 ≤ fld v 0 24))
  | 0x0F008C => outOf 331 (v != 0)
  | _ => none

/-- DC (R353). -/
def rangeDc (base : Nat) (v : Word) : Option Nat :=
  match base with
  | 0x100010 => outOf 353 (decide (1 ≤ fld v 0 16) && within 1 1000 (fld v 16 10))
  | 0x100014 => outOf 353 ((List.range 6).all (fun k => decide (1 ≤ fld v (4 * k) 4)))
  | 0x100018 => outOf 353 (decide (100 ≤ fld v 0 16))
  | 0x10001C => outOf 353 (within 1 168 (fld v 0 8))
  | 0x100020 => outOf 353 (decide (1 ≤ fld v 0 16))
  | _ => none

/-- TK (R419, R424). -/
def rangeTk (base : Nat) (v : Word) : Option Nat :=
  match base with
  | 0x120018 => outOf 424 (decide (fld v 0 30 < 1000000000))
  | 0x120100 =>
    outOf 424 (decide (-7 ≤ signed 4 (fld v 8 4)) && decide (signed 4 (fld v 8 4) ≤ 1) && within 2 10 (fld v 16 4))
  | 0x12040C => outOf 424 (decide (fld v 0 30 < 1000000000))
  | 0x120410 => outOf 424 (decide (40 ≤ v.toNat))
  | _ => none

/-- LANE (R454, R459). -/
def rangeLane (base : Nat) (v : Word) : Option Nat :=
  match base with
  | 0x140008 => outOf 459 (decide (fld v 8 3 + fld v 16 4 ≤ 16))
  | 0x140018 => outOf 459 (decide (1 ≤ fld v 0 16))
  | _ => none

/-- The rule by which a value written to the registers of a row is out of range, if it is. -/
def outOfRange (base : Nat) (v : Word) : Option Nat :=
  match base / 0x10000 with
  | 0x01 => rangeHost base v
  | 0x09 => if base = 0x090000 then outOf 205 (within 1 16 (fld v 0 5) && within 1 64 (fld v 8 8)) else none
  | 0x08 => if base = 0x080070 then outOf 176 (within 10 24 (fld v 0 5)) else none
  | 0x0B => rangeCam base v
  | 0x0C => rangeIsp base v
  | 0x0F => rangePerf base v
  | 0x10 => rangeDc base v
  | 0x11 => if base = 0x110008 then outOf 405 (within 4000 20000 (fld v 0 16) && within 100 60000 (fld v 16 16)) else none
  | 0x12 => rangeTk base v
  | 0x13 => if base = 0x130008 then outOf 443 (within 10 1000 (fld v 0 10) && decide (1 ≤ fld v 16 8)) else none
  | 0x14 => rangeLane base v
  | _ => none

/-- A write that is stored and nothing else, after `more`. -/
def Dev.storeBy (d : Dev) (w : Writer) (off : Nat) (v : Word) (more : Dev → Dev) : Eff :=
  d.guarded w off (fun r _ _ d =>
    match outOfRange r.base v with
    | some rule => hostError rule
    | none => .ok (more (d.storeReg w off r v)))

/-- A write of ENC_CFG (R156, R158, R160, R161, R176): INV may not change while the web moves; FALLBACK acts at once. -/
def Dev.writeEncCfg (d : Dev) (w : Writer) (v : Word) : Eff :=
  d.guarded w 0x080000 (fun r _ _ d =>
    if !(decide (8 ≤ fld v 24 8) && within 1 1000 (fld v 6 10)) then hostError 176
    else if fld v 0 2 ≠ fld (d.reg 0x080000) 0 2 && !d.fir.stopped then hostError 156
    else
      let phi := d.enc.frac0 d.now
      .ok ((d.storeReg w 0x080000 r v).driveK0 phi))

/-- The defect list and its length may not be written while a frame is open, nor the length past 1,024 (R259, R271). -/
def Dev.writeDefects (d : Dev) (w : Writer) (p off : Nat) (v : Word) : Eff :=
  if off % 0x1000 = 0xC08 && 1024 < fld v 0 11 then d.storeBy w off v id else d.writeDpc w p off v

/-- A write in the ISP half of a port (R258, R259, R271). -/
def Dev.writeIsp (d : Dev) (w : Writer) (off : Nat) (v : Word) : Eff :=
  let p := (off - 0x0C0000) / 0x1000
  let o := off % 0x1000
  if o = 0xC04 || o = 0xC08 then d.writeDefects w p off v
  else if o = 0xC00 then d.storeBy w off v id
  else if o < 0x800 && o % 0x400 = 0x30 then d.writeLutCtrl w p (o / 0x400) v
  else if o < 0x800 && o % 0x400 = 0x3C then d.writeLutD2 w p (o / 0x400) v
  else if o < 0x800 && (o % 0x400 = 0x34 || o % 0x400 = 0x38) then d.storeBy w off v id
  else d.storeBy w off v (fun d => d.setCamPort p { d.camPort p with dirty := true })

/-- A write in the HOST and DMA blocks (R366, R367, R374). -/
def Dev.writeHostDma (d : Dev) (w : Writer) (off : Nat) (v : Word) : Eff :=
  if 0x01100C ≤ off && off < 0x011200 && off % 16 = 12 then d.writeMsixMask w ((off - 0x01100C) / 16) v
  else if off = 0x020100 then d.writeDmaCtrl w v
  else if 0x020000 ≤ off && off < 0x020100 && off % 0x40 = 0 then d.writeDmCtrl w ((off - 0x020000) / 0x40) v
  else if 0x020000 ≤ off && off < 0x020100 && off % 0x40 = 0x10 then d.writeDoorbell w ((off - 0x020000) / 0x40)
  else d.storeBy w off v id

/-- A write in the JOB and CMP blocks (R79 to R87): CMP_LINES holds 1 to 1,048,576. -/
def Dev.writeJob (d : Dev) (w : Writer) (off : Nat) (v : Word) : Eff :=
  if off = 0x040000 then d.writeJobCtrl w v
  else if off = 0x040004 then
    d.guarded w off (fun _ _ _ d => .ok (if flag v 2 then { d with job := { d.job with dryFlag := false } } else d))
  else if 0x040100 ≤ off && off < 0x040200 && off % 0x20 = 8 then d.writeJqPost w ((off - 0x040100) / 0x20) v
  else if 0x050000 ≤ off && off < 0x050200 && off % 0x40 = 0 then d.writeCmpCtrl w ((off - 0x050000) / 0x40) v
  else if 0x050000 ≤ off && off < 0x050200 && off % 0x40 = 0xC && !(within 1 1048576 v.toNat) then
    d.guarded w off (fun _ _ _ _ => hostError 79)
  else d.storeBy w off v id

/-- A write in the NZ, ENC and FIR blocks (R138, R146, R151, R176, R188, R200, R205). -/
def Dev.writePrint (d : Dev) (w : Writer) (off : Nat) (v : Word) : Eff :=
  if off = 0x070004 then d.writeNzRecHi w v
  else if off = 0x070008 then d.writeNzHctrl w v
  else if off = 0x070020 then d.writeLedgerCtrl w v
  else if 0x070400 ≤ off && off < 0x070800 then d.writePattern w off v
  else if off = 0x080000 then d.writeEncCfg w v
  else if off = 0x080020 then d.writeEncSnap w v
  else if off = 0x090010 then d.writeFirSnap w v
  else if off = 0x090044 then d.writeFirRecHi w v
  else if off = 0x090048 then d.writeFirBctrl w v
  else if 0x092000 ≤ off && off < 0x092800 && off % 0x40 = 0 then d.writePcCtrl w ((off - 0x092000) / 0x40) v
  else if 0x092000 ≤ off && off < 0x092800 && off % 0x40 ≤ 0x10 then d.writePcTarget w ((off - 0x092000) / 0x40) off v
  else d.storeBy w off v id

/-- A write in the BL, CAM, ISP, LOOP and CC blocks. -/
def Dev.writeMid (d : Dev) (w : Writer) (off : Nat) (v : Word) : Eff :=
  match off / 0x10000 with
  | 0x0A => if off % 0x100 = 0 then d.writeBlCtrl w ((off - 0x0A0000) / 0x100) v else d.storeBy w off v id
  | 0x0B =>
    let p := (off - 0x0B0000) / 0x400
    let o := off % 0x400
    if o = 0x28 then d.writeCciCmd w p v
    else if 0x100 ≤ o then d.storeBy w off v (fun d => d.setCamPort p { d.camPort p with dirty := true })
    else d.storeBy w off v id
  | 0x0C => d.writeIsp w off v
  | 0x0D =>
    if off = 0x0D0000 then d.writeLoopCtrl w v
    else if 0x0D0100 ≤ off && off < 0x0D0200 && off % 16 = 0 then d.writeDrefSet w ((off - 0x0D0100) / 16) v
    else d.storeBy w off v id
  | _ =>
    if off < 0x0E0200 && off % 0x40 = 0 then d.writeCcCtrl w ((off - 0x0E0000) / 0x40) v
    else if off < 0x0E0200 && off % 0x40 = 0x14 then d.writeMailIn w ((off - 0x0E0000) / 0x40) v
    else d.storeBy w off v id

/-- A write in the PERF, DC, TW, TK, HK and LANE blocks. -/
def Dev.writeHigh (d : Dev) (w : Writer) (off : Nat) (v : Word) : Eff :=
  if off = 0x0F0000 then d.writePerfCtrl w v
  else if off = 0x0F0060 then d.writeTallyCtrl w v
  else if off = 0x0F0068 then d.writeTallyRegion w v
  else if off = 0x0F0080 then d.writeSampCtrl w v
  else if off = 0x100000 then d.dcCtrlBy w v
  else if off = 0x10000C then d.dcLowRateBy w v
  else if off = 0x110000 then d.writeTwCtrl w v
  else if off = 0x120000 then d.writeTkCtrl w v
  else if off = 0x120020 then d.writeTkSnap w v
  else if 0x120400 ≤ off && off < 0x120500 then
    (let n := (off - 0x120400) / 0x20
     if off % 0x20 = 0 then d.writeTpCtrl w n v
     else if (rangeTk (0x120400 + off % 0x20) v).isSome then d.storeBy w off v id
     else d.writeTpReg w n off v)
  else if off = 0x130000 then d.writeHkCtrl w v
  else if 0x140000 ≤ off && off < 0x140900 && off % 0x40 = 0 then d.writeLaneCtrl w ((off - 0x140000) / 0x40) v
  else d.storeBy w off v id

/-- A write of one whole word of the window (R476): reserved offsets and the table window ignore it. -/
def Dev.writeWord (d : Dev) (w : Writer) (off : Nat) (v : Word) : Eff :=
  if patchOff off && off % 4 = 0 then .ok (d.patchWrite w off v 0xF)
  else
    match off / 0x10000 with
    | 0x00 => if off = 0x000004 then d.writeSysCtrl w v else d.storeBy w off v id
    | 0x01 | 0x02 => d.writeHostDma w off v
    | 0x03 =>
      if off = 0x030000 then d.writeFormeCtrl w v
      else if off = 0x030070 then d.writeFlashCtrl w v
      else d.storeBy w off v id
    | 0x04 | 0x05 => d.writeJob w off v
    | 0x06 => if off = 0x060008 then d.writeScrPeek w v else d.storeBy w off v id
    | 0x07 | 0x08 | 0x09 => d.writePrint w off v
    | 0x0A | 0x0B | 0x0C | 0x0D | 0x0E => d.writeMid w off v
    | _ => d.writeHigh w off v

/-- Consecutive words written in ascending offset order, each judged alone (R476). -/
def Dev.writeWords (d : Dev) (w : Writer) (off : Nat) : List Word → Eff
  | [] => .ok d
  | v :: vs => do
    let d ← d.writeWord w off v
    d.writeWords w (off + 4) vs

/-- REG_WRITE (R476): a write whose byte enables are not all set is ignored. -/
def execRegWrite (t : Nat) (w : Writer) (off : Nat) (v : Word) (be : BitVec 4) (s : State) : Res :=
  onDevE t (fun d => if be = 0xF then d.writeWord w off v else .ok d) s

end Sys2Proof.Machine
end

