-- ==== Sys2Proof/Machine/CoreIssue.lean ====
section
/-!
DEFINITION. How a control core issues one instruction: registers (R302), fetch, retirement and exceptions (R311, R312),
and the sampler's tag (R326, R327). An instruction command acts where its core runs and the word at the pc is the
instruction's; at a pc that cannot be fetched every one of them is the fetch that fails.
-/
namespace Sys2Proof.Machine

/-! ### Registers (R302) -/

/-- Scalar register `r`; s0 reads 0. -/
def Core.sreg (c : Core) (r : Nat) : Word := if r = 0 then 0 else Sparse.get (fun _ => 0) c.s r
/-- Scalar register `r` written; a write to s0 is discarded. -/
def Core.setSreg (c : Core) (r : Nat) (v : Word) : Core := if r = 0 then c else { c with s := Sparse.set (fun _ => 0) c.s r v }
/-- Lane `i` of vector register `r`. -/
def Core.lane (c : Core) (r i : Nat) : BitVec 16 := Sparse.get (fun _ => 0) c.v (8 * r + i)
/-- The eight lanes of a vector register, lane 0 first. -/
def Core.lanes (c : Core) (r : Nat) : List (BitVec 16) := Sparse.getList (fun _ => 0) c.v (8 * r) 8
/-- The lanes of a vector register written, lane 0 first. -/
def Core.setLanes (c : Core) (r : Nat) (l : List (BitVec 16)) : Core :=
  { c with v := Sparse.setList (fun _ => 0) c.v (8 * r) (l.take 8) }

/-- A scalar register of core `n` as the device holds it. -/
def Dev.sreg (d : Dev) (n r : Nat) : Word := (d.core n).sreg r
/-- The device with a scalar register of core `n` written. -/
def Dev.setSreg (d : Dev) (n r : Nat) (v : Word) : Dev := d.setCore n ((d.core n).setSreg r v)
/-- The device with a vector register of core `n` written. -/
def Dev.setLanes (d : Dev) (n r : Nat) (l : List (BitVec 16)) : Dev := d.setCore n ((d.core n).setLanes r l)

/-! ### Fetch (R299, R311) -/

/-- CODE_LEN of core `n`. -/
def Dev.codeLen (d : Dev) (n : Nat) : Nat :=
  match d.forme.bind (fun f => f.core n) with
  | some k => k.code.length
  | none => 0

/-- The pc can be fetched: a multiple of 4 inside the code. -/
def Dev.fetchable (d : Dev) (n : Nat) (pc : Word) : Bool := pc.toNat % 4 == 0 && decide (pc.toNat < d.codeLen n)

/-- The instruction word at an address of the core's local memory. -/
def Dev.fetchCore (d : Dev) (n : Nat) (pc : Word) : Word :=
  BitVec.ofNat 32 (leNat (Sparse.getList sramDefault (d.core n).lmem pc.toNat 4))

/-! ### How an instruction ends -/

/-- The sample flags of an instruction (R327): bit 0 load, 1 store, 2 taken branch or jump, 3 squashed, 4 exception. -/
def flLoad : Nat := 1
def flStore : Nat := 2
def flTaken : Nat := 4
def flTrap : Nat := 24

/-- How an instruction ends: it retires, with a pc of its own where it does not go on in a straight line; it is squashed
by an exception; it cannot complete yet; or it meets a host error. -/
inductive CoreEnd where
  | retire (d : Dev) (pc : Option Word) (flags : Nat) (daddr : Word)
  | trap (d : Dev) (cause : Nat) (addr : Word) (flags : Nat)
  | hold
  | error (e : Fault)

/-- It retires and the next instruction follows. -/
def CoreEnd.done (d : Dev) : CoreEnd := .retire d none 0 0

/-- An instruction with no pc of its own whose effect may be a host error. -/
def CoreEnd.ofEff (flags : Nat) (daddr : Word) : Eff → CoreEnd
  | .ok d => .retire d none flags daddr
  | .error e => .error e

/-- The tagged instruction's record is taken when it retires or is squashed (R326, R327). -/
def Dev.takeTag (d : Dev) (n : Nat) (pc insn : Word) (flags : Nat) (daddr : Word) : Dev :=
  let c := d.core n
  if c.tagNext then
    let r := Sparse.get (fun _ => 0) d.perf.cnt (16 * n)
    d.setCore n { c with tagNext := false, tag := some { pc := pc, insn := insn, flags := flags, daddr := daddr,
                                                         retired := BitVec.ofNat 32 r } }
  else d

/-- An instruction that ended acts on the device: it retires, is counted and sampled, or its exception is taken. A device
whose reset the instruction itself has asserted is left as that reset made it. -/
def Dev.finish (d : Dev) (n : Nat) (pc insn : Word) : CoreEnd → Eff
  | .retire d' next flags daddr =>
    if d'.inReset then .ok d'
    else
      let d' := match next with
        | some p => d'.setCore n { d'.core n with pc := p }
        | none => d'
      let d' := if flags / 4 % 2 = 1 then d'.count (16 * n + 7) 1 else d'
      let d' := d'.count (16 * n) 1
      .ok ((d'.takeTag n pc insn flags daddr).sampRetire n)
  | .trap d' cause addr flags => .ok ((d'.takeTag n pc insn (flags + flTrap) addr).exception n cause addr pc)
  | .hold => .ok d
  | .error e => .error e

/-- Core `n` issues the instruction `w` whose work is `f`, given its address: the pc already stands behind it. -/
def Dev.issue (d : Dev) (n : Nat) (w : Word) (f : Word → Dev → CoreEnd) : Eff :=
  let c := d.core n
  if c.st ≠ .running then .ok d
  else if !d.fetchable n c.pc then .ok (d.exception n 2 0 c.pc)
  else if d.fetchCore n c.pc ≠ w then .ok d
  else
    let d1 := d.sampleDue n
    d.finish n c.pc w (f c.pc (d1.setCore n { d1.core n with pc := c.pc + 4 }))

/-- The command of an instruction `i` on core `n`. -/
def onCore (t n : Nat) (i : Instr) (f : Word → Dev → CoreEnd) (s : State) : Res :=
  onUnitE (ccOk n) t (fun d => d.issue n ((coreWord i).getD 0) f) s

/-- ILLEGAL_INSTRUCTION (R307): a word that spells no instruction is issued. -/
def execIllegalInstruction (t n : Nat) (w : Word) (s : State) : Res :=
  onUnitE (ccOk n) t (fun d => d.issue n w (fun _ d => if (decodeCore t n w).isNone then .trap d 1 0 0 else .hold)) s

end Sys2Proof.Machine
end

