-- ==== Sys2Proof/Machine/CoreAlu.lean ====
section
/-!
DEFINITION. Scalar arithmetic, immediates, branches and jumps of the control cores (R304, R305).
-/
namespace Sys2Proof.Machine

/-! ### Operations (R305) -/

/-- 1 or 0. -/
def truth (b : Bool) : Word := if b then 1 else 0

/-- Signed quotient toward zero; 0 for a divisor of 0; −2³¹ ÷ −1 saturates (R305). -/
def divS (a b : Word) : Word :=
  if b = 0 then 0 else if a = 0x80000000 && b = 0xFFFFFFFF then 0x7FFFFFFF else low32 (a.toInt.tdiv b.toInt)
/-- Unsigned quotient, 0 for a divisor of 0. -/
def divU (a b : Word) : Word := if b = 0 then 0 else BitVec.ofNat 32 (a.toNat / b.toNat)
/-- Signed remainder with the sign of the dividend, which it is for a divisor of 0. -/
def modS (a b : Word) : Word := if b = 0 then a else low32 (a.toInt.tmod b.toInt)
/-- Unsigned remainder. -/
def modU (a b : Word) : Word := if b = 0 then a else BitVec.ofNat 32 (a.toNat % b.toNat)
/-- High half of the signed product. -/
def mulHi (a b : Word) : Word := low32 (a.toInt * b.toInt / 4294967296)
/-- High half of the unsigned product. -/
def mulHiU (a b : Word) : Word := BitVec.ofNat 32 (a.toNat * b.toNat / 4294967296)
/-- Leading zeros among the low `k` bits. -/
def leadingZeros (w : Word) : Nat → Nat
  | 0 => 0
  | k + 1 => if w.getLsbD k then 0 else 1 + leadingZeros w k
/-- Set bits among the low `k` bits. -/
def setBits (w : Word) : Nat → Nat
  | 0 => 0
  | k + 1 => b2n (w.getLsbD k) + setBits w k
/-- Magnitude of the signed difference. -/
def absDiff (a b : Word) : Word := BitVec.ofNat 32 (a.toInt - b.toInt).natAbs
/-- The shift amount in a register: bits 4:0. -/
def shamt (b : Word) : Nat := b.toNat % 32
/-- SHK's kinds: 0 LSL, 1 LSR, 2 ASR, 3 ROR (R304). -/
def shiftBy (kind : Nat) (a : Word) (m : Nat) : Word :=
  match kind with
  | 0 => a <<< m
  | 1 => a >>> m
  | 2 => a.sshiftRight m
  | _ => a.rotateRight m

/-- A sign-extended immediate. -/
def sext16 (i : BitVec 16) : Word := i.signExtend 32
/-- A zero-extended immediate. -/
def zext16 (i : BitVec 16) : Word := i.zeroExtend 32

/-! ### Shapes -/

/-- An instruction that writes s_d from two registers. -/
def aluR (f : Word → Word → Word) (n : Nat) (d a b : Fin 32) (_pc : Word) (dv : Dev) : CoreEnd :=
  .done (dv.setSreg n d (f (dv.sreg n a) (dv.sreg n b)))
/-- An instruction that writes s_d from one register. -/
def aluA (f : Word → Word) (n : Nat) (d a : Fin 32) (_pc : Word) (dv : Dev) : CoreEnd :=
  .done (dv.setSreg n d (f (dv.sreg n a)))

/-- Where a branch or jump with a word offset goes: pc + 4 + 4 × offset (R304). -/
def target (pc off : Word) : Word := pc + 4 + 4 * off

/-- A branch, taken or not. -/
def branchIf (b : Bool) (pc off : Word) (dv : Dev) : CoreEnd :=
  if b then .retire dv (some (target pc off)) flTaken 0 else .done dv

/-! ### OPR -/

def execOpAdd (t n : Nat) (d a b : Fin 32) (s : State) : Res := onCore t n (.opAdd t n d a b) (aluR (· + ·) n d a b) s
def execOpSub (t n : Nat) (d a b : Fin 32) (s : State) : Res := onCore t n (.opSub t n d a b) (aluR (· - ·) n d a b) s
def execOpAnd (t n : Nat) (d a b : Fin 32) (s : State) : Res := onCore t n (.opAnd t n d a b) (aluR (· &&& ·) n d a b) s
def execOpOr (t n : Nat) (d a b : Fin 32) (s : State) : Res := onCore t n (.opOr t n d a b) (aluR (· ||| ·) n d a b) s
def execOpXor (t n : Nat) (d a b : Fin 32) (s : State) : Res := onCore t n (.opXor t n d a b) (aluR (· ^^^ ·) n d a b) s
def execOpAndn (t n : Nat) (d a b : Fin 32) (s : State) : Res :=
  onCore t n (.opAndn t n d a b) (aluR (fun x y => x &&& ~~~y) n d a b) s
def execOpLsl (t n : Nat) (d a b : Fin 32) (s : State) : Res :=
  onCore t n (.opLsl t n d a b) (aluR (fun x y => shiftBy 0 x (shamt y)) n d a b) s
def execOpLsr (t n : Nat) (d a b : Fin 32) (s : State) : Res :=
  onCore t n (.opLsr t n d a b) (aluR (fun x y => shiftBy 1 x (shamt y)) n d a b) s
def execOpAsr (t n : Nat) (d a b : Fin 32) (s : State) : Res :=
  onCore t n (.opAsr t n d a b) (aluR (fun x y => shiftBy 2 x (shamt y)) n d a b) s
def execOpRor (t n : Nat) (d a b : Fin 32) (s : State) : Res :=
  onCore t n (.opRor t n d a b) (aluR (fun x y => shiftBy 3 x (shamt y)) n d a b) s
def execOpSeq (t n : Nat) (d a b : Fin 32) (s : State) : Res :=
  onCore t n (.opSeq t n d a b) (aluR (fun x y => truth (x == y)) n d a b) s
def execOpSne (t n : Nat) (d a b : Fin 32) (s : State) : Res :=
  onCore t n (.opSne t n d a b) (aluR (fun x y => truth (x != y)) n d a b) s
def execOpSlt (t n : Nat) (d a b : Fin 32) (s : State) : Res :=
  onCore t n (.opSlt t n d a b) (aluR (fun x y => truth (x.slt y)) n d a b) s
def execOpSltu (t n : Nat) (d a b : Fin 32) (s : State) : Res :=
  onCore t n (.opSltu t n d a b) (aluR (fun x y => truth (x.ult y)) n d a b) s
def execOpMul (t n : Nat) (d a b : Fin 32) (s : State) : Res := onCore t n (.opMul t n d a b) (aluR (· * ·) n d a b) s
def execOpMulhi (t n : Nat) (d a b : Fin 32) (s : State) : Res := onCore t n (.opMulhi t n d a b) (aluR mulHi n d a b) s
def execOpMulhiu (t n : Nat) (d a b : Fin 32) (s : State) : Res := onCore t n (.opMulhiu t n d a b) (aluR mulHiU n d a b) s
def execOpDiv (t n : Nat) (d a b : Fin 32) (s : State) : Res := onCore t n (.opDiv t n d a b) (aluR divS n d a b) s
def execOpDivu (t n : Nat) (d a b : Fin 32) (s : State) : Res := onCore t n (.opDivu t n d a b) (aluR divU n d a b) s
def execOpMod (t n : Nat) (d a b : Fin 32) (s : State) : Res := onCore t n (.opMod t n d a b) (aluR modS n d a b) s
def execOpModu (t n : Nat) (d a b : Fin 32) (s : State) : Res := onCore t n (.opModu t n d a b) (aluR modU n d a b) s
def execOpMin (t n : Nat) (d a b : Fin 32) (s : State) : Res :=
  onCore t n (.opMin t n d a b) (aluR (fun x y => if y.slt x then y else x) n d a b) s
def execOpMax (t n : Nat) (d a b : Fin 32) (s : State) : Res :=
  onCore t n (.opMax t n d a b) (aluR (fun x y => if x.slt y then y else x) n d a b) s
def execOpMinu (t n : Nat) (d a b : Fin 32) (s : State) : Res :=
  onCore t n (.opMinu t n d a b) (aluR (fun x y => if y.ult x then y else x) n d a b) s
def execOpMaxu (t n : Nat) (d a b : Fin 32) (s : State) : Res :=
  onCore t n (.opMaxu t n d a b) (aluR (fun x y => if x.ult y then y else x) n d a b) s
def execOpLzc (t n : Nat) (d a : Fin 32) (s : State) : Res :=
  onCore t n (.opLzc t n d a) (aluA (fun x => BitVec.ofNat 32 (leadingZeros x 32)) n d a) s
def execOpPopc (t n : Nat) (d a : Fin 32) (s : State) : Res :=
  onCore t n (.opPopc t n d a) (aluA (fun x => BitVec.ofNat 32 (setBits x 32)) n d a) s
def execOpAbsd (t n : Nat) (d a b : Fin 32) (s : State) : Res := onCore t n (.opAbsd t n d a b) (aluR absDiff n d a b) s

/-! ### Immediates (R304) -/

def execOpAddk (t n : Nat) (d a : Fin 32) (i : BitVec 16) (s : State) : Res :=
  onCore t n (.opAddk t n d a i) (aluA (fun x => x + sext16 i) n d a) s
def execOpAndk (t n : Nat) (d a : Fin 32) (i : BitVec 16) (s : State) : Res :=
  onCore t n (.opAndk t n d a i) (aluA (fun x => x &&& zext16 i) n d a) s
def execOpOrk (t n : Nat) (d a : Fin 32) (i : BitVec 16) (s : State) : Res :=
  onCore t n (.opOrk t n d a i) (aluA (fun x => x ||| zext16 i) n d a) s
def execOpXork (t n : Nat) (d a : Fin 32) (i : BitVec 16) (s : State) : Res :=
  onCore t n (.opXork t n d a i) (aluA (fun x => x ^^^ zext16 i) n d a) s
def execOpLtk (t n : Nat) (d a : Fin 32) (i : BitVec 16) (s : State) : Res :=
  onCore t n (.opLtk t n d a i) (aluA (fun x => truth (x.slt (sext16 i))) n d a) s
def execOpLtku (t n : Nat) (d a : Fin 32) (i : BitVec 16) (s : State) : Res :=
  onCore t n (.opLtku t n d a i) (aluA (fun x => truth (x.ult (sext16 i))) n d a) s
def execOpHik (t n : Nat) (d a : Fin 32) (i : BitVec 16) (s : State) : Res :=
  onCore t n (.opHik t n d a i) (aluA (fun x => setFld x 16 16 i.toNat) n d a) s
def execOpShk (t n : Nat) (d a : Fin 32) (k : BitVec 2) (m : BitVec 5) (s : State) : Res :=
  onCore t n (.opShk t n d a k m) (aluA (fun x => shiftBy k.toNat x m.toNat) n d a) s

/-! ### Branches and jumps (R304) -/

def execOpBrt (t n : Nat) (x : Fin 32) (off : BitVec 21) (s : State) : Res :=
  onCore t n (.opBrt t n x off) (fun pc d => branchIf (d.sreg n x != 0) pc (off.signExtend 32) d) s
def execOpBrf (t n : Nat) (x : Fin 32) (off : BitVec 21) (s : State) : Res :=
  onCore t n (.opBrf t n x off) (fun pc d => branchIf (d.sreg n x == 0) pc (off.signExtend 32) d) s
/-- LOOP (R304); with x = 0 it is illegal (R307). -/
def execOpLoop (t n : Nat) (x : Fin 32) (off : BitVec 21) (s : State) : Res :=
  onCore t n (.opLoop t n x off) (fun pc d =>
    if x = 0 then .trap d 1 0 0
    else
      let v := d.sreg n x - 1
      branchIf (v != 0) pc (off.signExtend 32) (d.setSreg n x v)) s
def execOpGo (t n : Nat) (off : BitVec 26) (s : State) : Res :=
  onCore t n (.opGo t n off) (fun pc d => branchIf true pc (off.signExtend 32) d) s
def execOpCall (t n : Nat) (off : BitVec 26) (s : State) : Res :=
  onCore t n (.opCall t n off) (fun pc d => branchIf true pc (off.signExtend 32) (d.setSreg n 31 (pc + 4))) s
def execOpCallr (t n : Nat) (d a : Fin 32) (i : BitVec 16) (s : State) : Res :=
  onCore t n (.opCallr t n d a i) (fun pc dv =>
    .retire (dv.setSreg n d (pc + 4)) (some (dv.sreg n a + sext16 i)) flTaken 0) s
/-- BREAK (R304): exception TRAP with the code in EADDR. -/
def execOpBreak (t n : Nat) (i : BitVec 16) (s : State) : Res :=
  onCore t n (.opBreak t n i) (fun _ d => .trap d 6 (zext16 i) 0) s
/-- HRET (R312): INEXC cleared, on at EPC. -/
def execOpHret (t n : Nat) (s : State) : Res :=
  onCore t n (.opHret t n) (fun _ d =>
    let c := d.core n
    .retire (d.setCore n { c with csr := { c.csr with inexc := false } }) (some c.csr.epc) 0 0) s
/-- SYNC (R301): stores of a core are visible at once here, so nothing waits. -/
def execOpSync (t n : Nat) (s : State) : Res := onCore t n (.opSync t n) (fun _ d => .done d) s
/-- NOTIFY (R304): SIG.CORE of the core named. -/
def execOpNotify (t n : Nat) (m : Fin 8) (s : State) : Res :=
  onCore t n (.opNotify t n m) (fun _ d => .done (d.signalCore m 6)) s
/-- WAIT (R309): on at once where a signal enabled is pending, else WAITING. -/
def execOpWait (t n : Nat) (s : State) : Res :=
  onCore t n (.opWait t n) (fun _ d =>
    let c := d.core n
    .done (if (c.csr.sig &&& c.csr.sigen) = 0 then d.setCoreSt n .waiting else d)) s

end Sys2Proof.Machine
end

