-- ==== Sys2Proof/Machine/CoreMem.lean ====
section
/-!
DEFINITION. The memory a control core sees (R299 to R301) and its loads and stores (R304).
-/
namespace Sys2Proof.Machine

/-- A place of the core address map (R299). -/
inductive Place where
  /-- Local memory, by core address. -/
  | loc (a : Nat)
  /-- Shared memory, by offset. -/
  | shared (o : Nat)
  /-- The register window, by offset. -/
  | window (o : Nat)
  /-- DRAM, by DRAM address. -/
  | dram (a : Nat)
deriving DecidableEq, Repr

/-- The DRAM bytes at an address lie in a CORE region the core may use (R299): owner 0xFF for roles SUPERVISOR to
REGISTRATION, the lending context for OEM. -/
def Dev.coreDram (d : Dev) (n a len : Nat) : Bool :=
  match d.forme with
  | none => false
  | some f =>
    let own := if f.role n = 4 then d.owner 8 n else if f.role n < 4 then some 0xFF else none
    f.dram.regions.any (fun r =>
      r.kind == 2 && some r.owner == own && decide (r.base * 65536 ≤ a) && decide (a + len ≤ (r.base + r.size) * 65536))

/-- Where an access of `len` bytes lies; none outside the map. -/
def Dev.place (d : Dev) (n a len : Nat) : Option Place :=
  if a < 0x40000 then some (.loc a)
  else if 0x10000000 ≤ a && a < 0x10400000 then some (.shared (a - 0x10000000))
  else if 0x20000000 ≤ a && a < 0x21000000 then some (.window (a - 0x20000000))
  else if 0x40000000 ≤ a && a < 0x80000000 then
    let x := (d.core n).csr.dwin.toNat * 65536 + (a - 0x40000000)
    if d.coreDram n x len then some (.dram x) else none
  else none

/-- What a read or write of memory answers. -/
inductive Access (α : Type) where
  | ok (x : α) (d : Dev)
  | trap (cause : Nat) (d : Dev)
  | hold
  | error (e : Fault)

/-- Bytes of shared memory; how the staging store's records stand in it is not stated, so they are free values. -/
def Dev.sharedRead (d : Dev) (o : Nat) : Nat → List Byte × Dev
  | 0 => ([], d)
  | k + 1 =>
    let (b, d) : Byte × Dev :=
      if o < 0x300000 then (Sparse.get sramDefault d.cc.shared o, d) else (let (x, d) := d.takeFree; (BitVec.ofNat 8 x, d))
    let (l, d) := d.sharedRead (o + 1) k
    (b :: l, d)

/-- The bytes a window read returns: every word they lie in is read whole (R476). -/
def Dev.windowRead (d : Dev) (n o len : Nat) : List Byte × Dev :=
  let (ws, d) := Dev.readWords (.core n) (o / 4 * 4) ((len + 3) / 4) d
  (slice (ws.flatMap (fun w => leBytes 4 w.toNat)) (o % 4) len, d)

/-- A read of `len` bytes of a place; `ue` tells that the memory read reports an uncorrectable error (R311). -/
def Dev.placeRead (d : Dev) (n : Nat) (p : Place) (a len : Nat) (ue : Bool) : Access (List Byte) :=
  match p with
  | .loc x =>
    if ue then .trap 5 (d.sramError 6 (a / 4 * 4)) else .ok (Sparse.getList sramDefault (d.core n).lmem x len) d
  | .shared o => if ue then .trap 5 (d.sramError 6 (a / 4 * 4)) else (let (bs, d) := d.sharedRead o len; .ok bs d)
  | .window o => let (bs, d) := d.windowRead n o len; .ok bs d
  | .dram x =>
    if d.dramBusy then .hold
    else
      let (bs, bad, d) := d.portRead 12 x len ue
      if bad.isEmpty then .ok bs d else .trap 8 d

/-- The counter of loads or accesses of a place (R323), in the core's group. -/
def Place.counter (p : Place) (isStore : Bool) : Nat :=
  match p with
  | .loc _ => if isStore then 9 else 8
  | .shared _ => 10
  | .window _ => 11
  | .dram _ => 12

/-- A core's aligned read of `len` bytes. -/
def Dev.coreRead (d : Dev) (n a len : Nat) (ue : Bool) : Access (List Byte) :=
  if a % len ≠ 0 then .trap 3 d
  else
    match d.place n a len with
    | none => .trap 4 d
    | some p => (d.count (16 * n + p.counter false) 1).placeRead n p a len ue

/-- The words bytes spell. -/
def bytesWords (bs : List Byte) : List Word := (chunks 4 bs).map (fun b => BitVec.ofNat 32 (leNat b))

/-- A core's aligned write. The core's own code may be written only once it is patched (R299, R315); shared memory only
in the core's own area (R300); a window write of less than a word is ignored (R476). -/
def Dev.coreWrite (d : Dev) (n a : Nat) (bs : List Byte) : Access Unit :=
  let len := bs.length
  if a % len ≠ 0 then .trap 3 d
  else
    match d.place n a len with
    | none => .trap 4 d
    | some (.loc x) =>
      if x < d.codeLen n && !(d.core n).csr.patched then .trap 4 d
      else
        let c := d.core n
        .ok () ((d.setCore n { c with lmem := Sparse.setList sramDefault c.lmem x bs }).count (16 * n + 9) 1)
    | some (.shared o) =>
      if 0x200000 + 0x20000 * n ≤ o && o < 0x220000 + 0x20000 * n then .ok () ((d.count (16 * n + 10) 1).sharedWrite o bs)
      else .trap 4 d
    | some (.window o) =>
      let d := d.count (16 * n + 11) 1
      if len < 4 then .ok () d
      else
        (match d.writeWords (.core n) o (bytesWords bs) with
         | .ok d => .ok () d
         | .error e => .error e)
    | some (.dram x) => if d.dramBusy then .hold else .ok () ((d.count (16 * n + 12) 1).portWrite x bs)

/-- The address of a load or store: a register and a sign-extended immediate. -/
def Dev.coreAddr (d : Dev) (n : Nat) (a : Fin 32) (i : BitVec 16) : Word := d.sreg n a + sext16 i

/-- A load of `len` bytes, given to `f`. -/
def load (n len : Nat) (a : Fin 32) (i : BitVec 16) (ue : Bool) (f : List Byte → Dev → Dev) (_pc : Word) (d : Dev) : CoreEnd :=
  let x := d.coreAddr n a i
  match d.coreRead n x.toNat len ue with
  | .ok bs d => .retire (f bs d) none flLoad x
  | .trap c d => .trap d c x flLoad
  | .hold => .hold
  | .error e => .error e

/-- A store of the bytes `bs` names. -/
def store (n : Nat) (bs : Dev → List Byte) (a : Fin 32) (i : BitVec 16) (more : Dev → Dev) (_pc : Word) (d : Dev) : CoreEnd :=
  let x := d.coreAddr n a i
  match d.coreWrite n x.toNat (bs d) with
  | .ok _ d => .retire (more d) none flStore x
  | .trap c d => .trap d c x flStore
  | .hold => .hold
  | .error e => .error e

/-- The bytes of lanes, lane 0 at the lowest address. -/
def laneBytes (l : List (BitVec 16)) : List Byte := l.flatMap (fun x => leBytes 2 x.toNat)
/-- The lanes bytes spell. -/
def bytesLanes (bs : List Byte) : List (BitVec 16) := (chunks 2 bs).map (fun b => BitVec.ofNat 16 (leNat b))
/-- A vector instruction is counted (R323). -/
def Dev.countVec (d : Dev) (n : Nat) : Dev := d.count (16 * n + 6) 1

def execOpLdw (t n : Nat) (d a : Fin 32) (i : BitVec 16) (ue : Bool) (s : State) : Res :=
  onCore t n (.opLdw t n d a i ue) (load n 4 a i ue (fun bs dv => dv.setSreg n d (BitVec.ofNat 32 (leNat bs)))) s
def execOpLdh (t n : Nat) (d a : Fin 32) (i : BitVec 16) (ue : Bool) (s : State) : Res :=
  onCore t n (.opLdh t n d a i ue) (load n 2 a i ue (fun bs dv => dv.setSreg n d (low32 (signed 16 (leNat bs))))) s
def execOpLdhz (t n : Nat) (d a : Fin 32) (i : BitVec 16) (ue : Bool) (s : State) : Res :=
  onCore t n (.opLdhz t n d a i ue) (load n 2 a i ue (fun bs dv => dv.setSreg n d (BitVec.ofNat 32 (leNat bs)))) s
def execOpLdb (t n : Nat) (d a : Fin 32) (i : BitVec 16) (ue : Bool) (s : State) : Res :=
  onCore t n (.opLdb t n d a i ue) (load n 1 a i ue (fun bs dv => dv.setSreg n d (low32 (signed 8 (leNat bs))))) s
def execOpLdbz (t n : Nat) (d a : Fin 32) (i : BitVec 16) (ue : Bool) (s : State) : Res :=
  onCore t n (.opLdbz t n d a i ue) (load n 1 a i ue (fun bs dv => dv.setSreg n d (BitVec.ofNat 32 (leNat bs)))) s
def execOpStw (t n : Nat) (x y : Fin 32) (i : BitVec 16) (s : State) : Res :=
  onCore t n (.opStw t n x y i) (store n (fun d => leBytes 4 (d.sreg n x).toNat) y i id) s
def execOpSth (t n : Nat) (x y : Fin 32) (i : BitVec 16) (s : State) : Res :=
  onCore t n (.opSth t n x y i) (store n (fun d => leBytes 2 (d.sreg n x).toNat) y i id) s
def execOpStb (t n : Nat) (x y : Fin 32) (i : BitVec 16) (s : State) : Res :=
  onCore t n (.opStb t n x y i) (store n (fun d => leBytes 1 (d.sreg n x).toNat) y i id) s
def execOpVld (t n : Nat) (vd : Fin 8) (a : Fin 32) (i : BitVec 16) (ue : Bool) (s : State) : Res :=
  onCore t n (.opVld t n vd a i ue) (load n 16 a i ue (fun bs dv => (dv.setLanes n vd (bytesLanes bs)).countVec n)) s
def execOpVst (t n : Nat) (vd : Fin 8) (a : Fin 32) (i : BitVec 16) (s : State) : Res :=
  onCore t n (.opVst t n vd a i) (store n (fun d => laneBytes ((d.core n).lanes vd)) a i (fun d => d.countVec n)) s

end Sys2Proof.Machine
end

