-- ==== Sys2Proof/Machine/CoreVec.lean ====
section
/-!
DEFINITION. Vector operations of the control cores, lane by lane (R306).
-/
namespace Sys2Proof.Machine

/-- A value kept within signed 16 bits. -/
def satLane (v : Int) : BitVec 16 := BitVec.ofInt 16 (clampInt (-32768) 32767 v)

/-- An operation on the lanes of two vector registers. -/
def vec2 (f : BitVec 16 → BitVec 16 → BitVec 16) (n : Nat) (vd va vb : Fin 8) (_pc : Word) (d : Dev) : CoreEnd :=
  let c := d.core n
  .done ((d.setLanes n vd (List.zipWith f (c.lanes va) (c.lanes vb))).countVec n)
/-- An operation on the lanes of one. -/
def vec1 (f : BitVec 16 → BitVec 16) (n : Nat) (vd va : Fin 8) (_pc : Word) (d : Dev) : CoreEnd :=
  .done ((d.setLanes n vd (((d.core n).lanes va).map f)).countVec n)
/-- An operation from a vector register to a scalar one. -/
def vecS (f : List (BitVec 16) → Word) (n : Nat) (va : Fin 8) (s : Fin 32) (_pc : Word) (d : Dev) : CoreEnd :=
  .done ((d.setSreg n s (f ((d.core n).lanes va))).countVec n)

def execOpVadd (t n : Nat) (vd va vb : Fin 8) (s : State) : Res := onCore t n (.opVadd t n vd va vb) (vec2 (· + ·) n vd va vb) s
def execOpVsub (t n : Nat) (vd va vb : Fin 8) (s : State) : Res := onCore t n (.opVsub t n vd va vb) (vec2 (· - ·) n vd va vb) s
def execOpVadds (t n : Nat) (vd va vb : Fin 8) (s : State) : Res :=
  onCore t n (.opVadds t n vd va vb) (vec2 (fun x y => satLane (x.toInt + y.toInt)) n vd va vb) s
def execOpVsubs (t n : Nat) (vd va vb : Fin 8) (s : State) : Res :=
  onCore t n (.opVsubs t n vd va vb) (vec2 (fun x y => satLane (x.toInt - y.toInt)) n vd va vb) s
def execOpVmul (t n : Nat) (vd va vb : Fin 8) (s : State) : Res := onCore t n (.opVmul t n vd va vb) (vec2 (· * ·) n vd va vb) s
def execOpVmulh (t n : Nat) (vd va vb : Fin 8) (s : State) : Res :=
  onCore t n (.opVmulh t n vd va vb) (vec2 (fun x y => BitVec.ofInt 16 (x.toInt * y.toInt / 65536)) n vd va vb) s
def execOpVmin (t n : Nat) (vd va vb : Fin 8) (s : State) : Res :=
  onCore t n (.opVmin t n vd va vb) (vec2 (fun x y => if y.slt x then y else x) n vd va vb) s
def execOpVmax (t n : Nat) (vd va vb : Fin 8) (s : State) : Res :=
  onCore t n (.opVmax t n vd va vb) (vec2 (fun x y => if x.slt y then y else x) n vd va vb) s
def execOpVand (t n : Nat) (vd va vb : Fin 8) (s : State) : Res := onCore t n (.opVand t n vd va vb) (vec2 (· &&& ·) n vd va vb) s
def execOpVor (t n : Nat) (vd va vb : Fin 8) (s : State) : Res := onCore t n (.opVor t n vd va vb) (vec2 (· ||| ·) n vd va vb) s
def execOpVxor (t n : Nat) (vd va vb : Fin 8) (s : State) : Res := onCore t n (.opVxor t n vd va vb) (vec2 (· ^^^ ·) n vd va vb) s
def execOpVsra (t n : Nat) (vd va : Fin 8) (m : BitVec 4) (s : State) : Res :=
  onCore t n (.opVsra t n vd va m) (vec1 (fun x => x.sshiftRight m.toNat) n vd va) s
def execOpVsll (t n : Nat) (vd va : Fin 8) (m : BitVec 4) (s : State) : Res :=
  onCore t n (.opVsll t n vd va m) (vec1 (fun x => x <<< m.toNat) n vd va) s
def execOpVsplat (t n : Nat) (vd : Fin 8) (r : Fin 32) (s : State) : Res :=
  onCore t n (.opVsplat t n vd r) (fun _ d =>
    .done ((d.setLanes n vd (List.replicate 8 ((d.sreg n r).setWidth 16))).countVec n)) s
def execOpVsum (t n : Nat) (va : Fin 8) (r : Fin 32) (s : State) : Res :=
  onCore t n (.opVsum t n va r) (vecS (fun l => low32 ((l.map (·.toInt)).sum)) n va r) s
def execOpVext (t n : Nat) (va : Fin 8) (r : Fin 32) (lane : Fin 8) (s : State) : Res :=
  onCore t n (.opVext t n va r lane) (vecS (fun l => (l.getD lane 0).signExtend 32) n va r) s
def execOpVins (t n : Nat) (vd : Fin 8) (r : Fin 32) (lane : Fin 8) (s : State) : Res :=
  onCore t n (.opVins t n vd r lane) (fun _ d =>
    .done ((d.setLanes n vd (((d.core n).lanes vd).set lane ((d.sreg n r).setWidth 16))).countVec n)) s
/-- VABSD (R306): the magnitude of the signed difference, which never passes 0xFFFF. -/
def execOpVabsd (t n : Nat) (vd va vb : Fin 8) (s : State) : Res :=
  onCore t n (.opVabsd t n vd va vb) (vec2 (fun x y => BitVec.ofNat 16 (min 65535 (x.toInt - y.toInt).natAbs)) n vd va vb) s

end Sys2Proof.Machine
end

