-- ==== Sys2Proof/Machine/CoreCsr.lean ====
section
/-!
DEFINITION. Control and status registers of the cores (R308 to R310) and the batches cores submit (R318, R319).
-/
namespace Sys2Proof.Machine

/-! ### Reading -/

/-- What CSR `k` of core `n` reads as (R308); none for an unlisted number. A WO register reads 0. -/
def Dev.csrRead (d : Dev) (n k : Nat) : Option Word :=
  let c := (d.core n).csr
  match k with
  | 0x000 => some (BitVec.ofNat 32 (n + 256 * (match d.forme with | some f => f.role n | none => 0)))
  | 0x001 => some (BitVec.ofNat 32 (b2n c.inexc + 2 * b2n c.patched))
  | 0x002 => some c.evec
  | 0x003 => some c.epc
  | 0x004 => some (BitVec.ofNat 32 (c.cause % 256))
  | 0x005 => some c.eaddr
  | 0x008 => some c.sig
  | 0x009 => some c.sigen
  | 0x010 => some (BitVec.ofNat 32 d.timerUs)
  | 0x011 => some (BitVec.ofNat 32 (d.timerUs / 4294967296))
  | 0x012 => some c.timerCmp
  | 0x014 => some c.wdog
  | 0x015 => some 0
  | 0x018 => some c.mailIn
  | 0x019 => some 0
  | 0x020 => some (BitVec.ofNat 32 d.cc.recW)
  | 0x021 => some (BitVec.ofNat 32 (d.cc.recW / 4294967296))
  | 0x022 => some c.recmask
  | 0x024 => some c.policyCur
  | 0x025 => some c.policySeq
  | 0x028 => some c.dwin
  | 0x030 => some c.batchAddr
  | 0x031 => some c.batchN
  | 0x032 => some 0
  | 0x033 => some c.batchResult
  | 0x034 => some c.batchSeam
  | 0x035 => some c.batchAt
  | 0x038 => some d.cc.seamLast
  | _ => none

/-! ### Batches (R318, R319) -/

/-- Records a staging store holds, by KIND, and the records free in it (R137, R187, R284). -/
def storeSize (kind : Nat) : Nat := if kind = 0 then 131072 else if kind = 1 then 8192 else 256
def Dev.storeFree (d : Dev) (kind : Nat) : Nat := if kind = 0 then d.nzFree else if kind = 1 then d.firFree else d.drefFree

/-- Reading the records of a batch ends in the records, or in how the instruction ends. -/
inductive BatchRead where
  | recs (l : List (Word × Word)) (d : Dev)
  | stop (e : CoreEnd)

/-- `k` records of 8 bytes from a core address up, read where the core may read (R318). -/
def Dev.batchRead (d : Dev) (n a : Nat) : Nat → BatchRead
  | 0 => .recs [] d
  | k + 1 =>
    match d.place n a 8 with
    | none => .stop (.trap d 4 (BitVec.ofNat 32 a) 0)
    | some p =>
      (match d.placeRead n p a 8 false with
       | .ok bs d =>
         (match d.batchRead n (a + 8) k with
          | .recs l d => .recs ((BitVec.ofNat 32 (u32 bs 0), BitVec.ofNat 32 (u32 bs 4)) :: l) d
          | x => x)
       | .trap c d => .stop (.trap d c (BitVec.ofNat 32 a) 0)
       | .hold => .stop .hold
       | .error e => .stop (.error e))

/-- The register whose owner a host batch of a kind is judged by (R138, R187). -/
def batchGuard (kind : Nat) : Nat := if kind = 0 then 0x070008 else 0x090048

/-- A record lies within the rights of core `n` (R296, R298). -/
def Dev.recRight (d : Dev) (f : Forme) (n kind : Nat) (rc : Word × Word) : Bool :=
  match f.role n with
  | 1 => (kind == 0 && decide (fld rc.1 0 21 < 0x100000)) || (kind == 1 && fld rc.1 12 4 == 2)
  | 2 => (kind == 0 && decide (0x100000 ≤ fld rc.1 0 21)) || kind == 2
  | 3 => kind == 1 && (fld rc.1 12 4 == 0 || fld rc.1 12 4 == 1 || fld rc.1 12 4 == 3)
  | 4 =>
    if kind = 2 then d.owner 8 n == d.owner 6 (fld rc.1 0 4)
    else
      (match regRow (batchGuard kind) with
       | some (r, i, _) => d.verdict (.core n) r.guard i == .accept
       | none => false)
  | _ => false

/-- The class and owner EV_OWNER_REJECT shows for a record (R363): DREF output, else loop parameters, whose class nozzle
and registration batches are judged by. -/
def Dev.recOwner (d : Dev) (kind : Nat) (rc : Word × Word) : Nat × Nat :=
  if kind = 2 then (6, (d.owner 6 (fld rc.1 0 4)).getD 0xFF) else (11, (d.owner 11 0).getD 0xFF)

/-- A record is no host error (R136, R186). -/
def Forme.recOk (f : Forme) (kind : Nat) (rc : Word × Word) : Bool :=
  if kind = 0 then f.nzRecOk (rc.1.toNat, rc.2) else if kind = 1 then f.regRecOk rc else true

/-- Rows a held batch affects. -/
def HeldBatch.rows (b : HeldBatch) (f : Forme) : List Nat :=
  if b.kind = 0 then f.nzRows (b.recs.map (fun rc => (rc.1.toNat, rc.2)))
  else if b.kind = 1 then f.regRows b.recs
  else f.rowsInUse.filter (fun r => b.recs.any (fun rc => fld rc.1 0 4 == r))

/-- One batch of a group joins those staged. -/
def Dev.stageBatch (d : Dev) (f : Forme) (n : Nat) (group : List Nat) (named : Option Word) (b : HeldBatch) : Dev :=
  if b.kind = 2 then d.stageDref f (b.recs.map (fun rc => (fld rc.1 0 4, fld rc.2 0 12))) b.tag (0x10 + n) named group
  else
    d.submit f { block := if b.kind = 0 then 0x07 else 0x09, tag := b.tag, by_ := 0x10 + n, seam := none,
                 payload := if b.kind = 0 then .nozzle (b.recs.map (fun rc => (rc.1.toNat, rc.2))) else .reg b.recs,
                 rows := b.rows f, applied := [], planes := [], planesDone := [], group := group } named

/-- A group is decided whole (R318, R319): refused where a record lies outside the core's rights, a host error where one
is not allowed, refused where a store lacks room, else staged to one seam. -/
def Dev.decideGroup (d : Dev) (f : Forme) (n : Nat) (g : List HeldBatch) : Eff :=
  let c := d.core n
  let d := (d.setCore n { c with held := [] }).count (16 * n + 15) 1
  let refuse := fun (d : Dev) (r : Nat) => d.batchDecided n r c.csr.batchSeam
  let all := g.flatMap (fun b => b.recs.map (fun rc => (b.kind, rc)))
  match all.find? (fun x => !(d.recRight f n x.1 x.2)) with
  | some x =>
    let (o, d) := d.takeFree
    let (cls, own) := d.recOwner x.1 x.2
    .ok (refuse (d.rejectWrite (.core n) (o % 16777216) (some cls) own) 2)
  | none =>
    match all.find? (fun x => !(f.recOk x.1 x.2)) with
    | some x => hostError (if x.1 = 0 then 136 else 186)
    | none =>
      if !((g.filter (·.kind == 1)).all (fun b => d.trimsOk f b.recs)) then hostError 183
      else if g.any (fun b => b.tooLong || decide (d.storeFree b.kind < b.recs.length)) then .ok (refuse d 1)
      else
        let rows := (g.flatMap (fun b => b.rows f)).eraseDups
        let named := if g.any (·.atLine) then some c.csr.batchAt else none
        let d := g.foldl (fun d b => d.stageBatch f n rows named b) d
        .ok (if d.ups.any (fun u => u.by_ == 0x10 + n && u.seam.isNone) then d
             else d.batchDecided n (if d.printing && !rows.isEmpty then 0 else 3)
               (if flag (d.core n).csr.batchResult 31 then (d.core n).csr.batchSeam else 0xFFFFFFFF))

/-- A write of BATCH_CTRL (R318). -/
def Dev.batchCtrl (d : Dev) (n : Nat) (v : Word) : CoreEnd :=
  let c := d.core n
  let kind := fld v 0 2
  let cnt := c.csr.batchN.toNat
  if kind = 3 || cnt = 0 then .trap d 1 0 0
  else if c.csr.batchAddr.toNat % 8 ≠ 0 then .trap d 3 c.csr.batchAddr 0
  else
    let tooLong := decide (storeSize kind < cnt)
    match d.batchRead n c.csr.batchAddr.toNat (if tooLong then 0 else cnt) with
    | .stop e => e
    | .recs l d =>
      let c := d.core n
      let b : HeldBatch := { kind := kind, tag := fld v 16 16, atLine := flag v 3, recs := l, tooLong := tooLong }
      let d := d.setCore n { c with csr := { c.csr with batchResult := windowBusy c.csr.batchResult c.csr.batchResult } }
      if c.held.any (fun x => x.kind == kind) then
        let d := (d.setCore n { d.core n with held := [] }).count (16 * n + 15) 1
        .done (d.batchDecided n 4 c.csr.batchSeam)
      else
        let g := c.held ++ [b]
        if flag v 2 then .done (d.setCore n { d.core n with held := g })
        else
          (match d.forme with
           | some f => .ofEff 0 0 (d.decideGroup f n g)
           | none => .done d)

/-! ### Writing -/

/-- How a CSR is written (R304). -/
inductive CsrOp where
  | put | set | clr
deriving DecidableEq, Repr

/-- The value a CSR takes of its old one and s_a. -/
def CsrOp.apply (o : CsrOp) (old v : Word) : Word :=
  match o with
  | .put => v
  | .set => old ||| v
  | .clr => old &&& ~~~v

/-- The control registers of core `n` replaced. -/
def Dev.setCsr (d : Dev) (n : Nat) (c : Csrs) : Dev := d.setCore n { d.core n with csr := c }

/-- TIMER_CMP written (R310): a compare value already reached sets SIG.TIMER at once. -/
def Dev.writeTimerCmp (d : Dev) (n : Nat) (v : Word) : Dev :=
  let us := d.timerUs
  let d := d.setCsr n { (d.core n).csr with timerCmp := v, timerAt := timerNext v us }
  if 0 ≤ lineDiff (BitVec.ofNat 32 us) v then d.signalCore n 4 else d

/-- MAILOUT written (R308): the value, OUT_SEQ, and the MAIL interrupt source of the lending context (R366). -/
def Dev.writeMailOut (d : Dev) (n : Nat) (v : Word) : Dev :=
  let c := (d.core n).csr
  let d := d.setCsr n { c with mailOut := v, outSeq := (c.outSeq + 1) % 256 }
  match d.owner 8 n with
  | some h => d.fireIrq h 7
  | none => d

/-- The watchdog starts again (R310). -/
def Dev.kick (d : Dev) (n : Nat) : Dev := d.setCore n { d.core n with kickAt := d.now }

/-- A write of CSR `k` of core `n` (R304, R308): an unlisted or RO register is illegal (R307). -/
def Dev.csrWrite (d : Dev) (n : Nat) (o : CsrOp) (k : Nat) (v : Word) : CoreEnd :=
  let c := (d.core n).csr
  match k with
  | 0x002 => .done (d.setCsr n { c with evec := o.apply c.evec v })
  | 0x003 => .done (d.setCsr n { c with epc := o.apply c.epc v })
  | 0x008 => .done (d.setCsr n { c with sig := c.sig &&& ~~~v })
  | 0x009 => .done (d.setCsr n { c with sigen := o.apply c.sigen v })
  | 0x012 => .done (d.writeTimerCmp n (o.apply c.timerCmp v))
  | 0x014 => .done ((d.setCsr n { c with wdog := o.apply c.wdog v &&& 0xFFFF }).kick n)
  | 0x015 => .done (d.kick n)
  | 0x019 => .done (d.writeMailOut n v)
  | 0x022 => .done (d.setCsr n { c with recmask := o.apply c.recmask v &&& 0xFF })
  | 0x028 => .done (d.setCsr n { c with dwin := o.apply c.dwin v })
  | 0x030 => .done (d.setCsr n { c with batchAddr := o.apply c.batchAddr v })
  | 0x031 => .done (d.setCsr n { c with batchN := o.apply c.batchN v })
  | 0x032 => d.batchCtrl n v
  | 0x035 => .done (d.setCsr n { c with batchAt := o.apply c.batchAt v })
  | _ => .trap d 1 0 0

/-! ### The commands -/

/-- GETC (R304): an unlisted number is illegal (R308). -/
def execOpGetc (t n : Nat) (r : Fin 32) (k : BitVec 16) (s : State) : Res :=
  onCore t n (.opGetc t n r k) (fun _ d =>
    match d.csrRead n k.toNat with
    | some v => .done (d.setSreg n r v)
    | none => .trap d 1 0 0) s
def execOpPutc (t n : Nat) (a : Fin 32) (k : BitVec 16) (s : State) : Res :=
  onCore t n (.opPutc t n a k) (fun _ d => d.csrWrite n .put k.toNat (d.sreg n a)) s
def execOpSetc (t n : Nat) (a : Fin 32) (k : BitVec 16) (s : State) : Res :=
  onCore t n (.opSetc t n a k) (fun _ d => d.csrWrite n .set k.toNat (d.sreg n a)) s
def execOpClrc (t n : Nat) (a : Fin 32) (k : BitVec 16) (s : State) : Res :=
  onCore t n (.opClrc t n a k) (fun _ d => d.csrWrite n .clr k.toNat (d.sreg n a)) s

end Sys2Proof.Machine
end

