-- ==== Sys2Proof/Machine/Datagram.lean ====
section
/-!
DEFINITION. The host protocol over Ethernet as the device receives it (R357 to R362): datagrams, their order and
acknowledgement, register access, peers, ARP and ICMP.
-/
namespace Sys2Proof.Machine

/-- Offset of a register of Ethernet port `q` (R378). -/
def enReg (q o : Nat) : Nat := 0x010200 + 0x20 * q + o

/-- A datagram whose magic, version, LEN and CRC are good (R359). -/
def dgSound (bs : List Byte) : Bool :=
  let len := u16 bs 6
  u16 bs 0 == 0x594C && u8 bs 2 == 0x10 && decide (36 + len ≤ bs.length)
    && u32 bs (32 + len) == (crc32c (bs.take (32 + len))).toNat

/-- A datagram is discarded and counted in HOST_EN_BAD: unsound, or for a context not bound to its port (R359). -/
def Dev.dgBad (d : Dev) (q : Nat) (bs : List Byte) : Bool :=
  !(dgSound bs) || !(decide (u8 bs 4 < 4) && d.boundTo (u8 bs 4) (2 + q))

/-- ACKONLY (R359). -/
def dgAckOnly (bs : List Byte) : Bool := bit (u8 bs 5) 0
/-- SEQ (R359). -/
def dgSeq (bs : List Byte) : Word := BitVec.ofNat 32 (u32 bs 8)

/-- The peer of a context is released (R361). -/
def Dev.releasePeer (d : Dev) (h : Nat) : Dev :=
  d.setCtx h { d.ctx h with peer := none, unacked := [], waiting := [], ahead := [], answers := [], reads := [] }

/-- An acknowledgement of its own: an ACKONLY datagram, whose OP is free (R362, log entry 39). -/
def Dev.sendAck (d : Dev) (h : Nat) : Dev :=
  match (d.ctx h).peer, d.enPort h with
  | some (ip, pt), some q =>
    let (x, d) := d.takeFree
    (d.emit (.datagram q ip pt (datagram (x % 256) h 1 0 (d.ctx h).expect 0 0 []))).count (608 + 8 * h + 7) 1
  | _, _ => d

/-- An acknowledgement of every number before `a` (R362): those datagrams are done with, and ones that waited are sent,
at most 64 unacknowledged. -/
def Dev.dgAcked (d : Dev) (h : Nat) (a : Word) : Dev :=
  let c := d.ctx h
  if lineDiff c.nextOut a < 0 then d
  else
    let left := c.unacked.filter (fun u => decide (lineDiff a u.seq ≤ 0))
    let go := c.waiting.take (64 - left.length)
    let more : List Unacked := go.map (fun b => { seq := dgSeq b, bytes := b, sends := 1, sentAt := d.now })
    let d := d.setCtx h { c with unacked := left ++ more, waiting := c.waiting.drop go.length }
    match c.peer, d.enPort h with
    | some (ip, pt), some q =>
      go.foldl (fun d b => (d.emit (.datagram q ip pt b)).count (608 + 8 * h + 7) 1) d
    | _, _ => d

/-- An answer to the request numbered `seq`, sent and kept: the last 64 answers of a context are replayed (R362). -/
def Dev.answer (d : Dev) (h : Nat) (seq : Option Word) (op addr tag : Nat) (body : List Byte) : Dev :=
  let c := d.ctx h
  let bs := datagram op h 0 c.nextOut c.expect addr tag body
  let d := d.sendNumbered h op addr tag body
  match seq with
  | some s => d.setCtx h { d.ctx h with answers := ((s, bs) :: (d.ctx h).answers).take 64 }
  | none => d

/-- The work of one datagram from the peer (R360), and whether it has been answered. Sizes outside those R360 states do
nothing (log entry 57). -/
def Dev.dgApply (d : Dev) (h : Nat) (seq : Option Word) (bs : List Byte) : Except Fault (Bool × Dev) :=
  let addr := u64 bs 16
  let tag := u32 bs 24
  let body := slice bs 32 (u16 bs 6)
  match u8 bs 3 with
  | 0x01 =>
    let n := tag % 2048
    if within 4 1024 n && n % 4 == 0 then
      let (ws, d) := Dev.readWords (.host h) (addr % 0x1000000) (n / 4) d
      .ok (true, d.answer h seq 0x81 addr tag (ws.flatMap (fun w => leBytes 4 w.toNat)))
    else .ok (false, d)
  | 0x02 =>
    if within 4 1024 body.length && body.length % 4 == 0 then
      (match d.writeWords (.host h) (addr % 0x1000000) (bytesWords body) with
       | .ok d => .ok (false, d)
       | .error e => .error e)
    else .ok (false, d)
  | 0x04 => .ok (true, (d.sendAck h).releasePeer h)
  | 0x10 => .ok (false, d.setCtx h { d.ctx h with reads := (d.ctx h).reads.erase (BitVec.ofNat 32 tag) })
  | _ => .ok (false, d)

/-- Numbered datagrams applied in order: this one, then those held that now follow (R362); with whether the last one was
answered. -/
def Dev.dgRun (h : Nat) : Nat → Dev → List Byte → Except Fault (Bool × Dev)
  | 0, d, _ => .ok (false, d)
  | fuel + 1, d, bs =>
    let c := d.ctx h
    let seq := c.expect
    match (d.setCtx h { c with expect := seq + 1 }).dgApply h (some seq) bs with
    | .error e => .error e
    | .ok (told, d) =>
      let c := d.ctx h
      if c.peer.isNone then .ok (told, d)
      else
        match c.ahead.find? (fun x => x.1 == c.expect) with
        | some x => Dev.dgRun h fuel (d.setCtx h { c with ahead := c.ahead.filter (fun y => y.1 != x.1) }) x.2
        | none => .ok (told, d)

/-- OPEN latches the peer of a context that has none (R361): the device's initial number is its own choice, and held
interrupts are signalled. -/
def Dev.dgOpened (d : Dev) (h q : Nat) (ip : Word) (pt : Nat) (bs : List Byte) : Dev :=
  let (x, d) := d.freeWord
  let d := d.setCtx h { d.ctx h with
    peer := some (ip, pt), lastHeard := d.now, nextOut := x, expect := dgSeq bs + 1, unacked := [], waiting := [],
    ahead := [], answers := [], reads := [] }
  let d := d.answer h (some (dgSeq bs)) 0x83 (u64 bs 16) (u32 bs 24) []
  if d.enPort h = some q then d.irqRelease h (List.range 8) else d

/-- A sound datagram of the peer (R361, R362). -/
def Dev.dgFromPeer (d : Dev) (h : Nat) (bs : List Byte) : Eff :=
  let d := d.setCtx h { d.ctx h with lastHeard := d.now }
  let d := d.dgAcked h (BitVec.ofNat 32 (u32 bs 12))
  let c := d.ctx h
  let seq := dgSeq bs
  if dgAckOnly bs then
    match d.dgApply h none bs with
    | .ok r => .ok r.2
    | .error e => .error e
  else if lineDiff seq c.expect < 0 then
    match c.answers.find? (fun x => x.1 == seq), c.peer, d.enPort h with
    | some x, some (ip, pt), some q => .ok ((d.emit (.datagram q ip pt x.2)).count (608 + 8 * h + 7) 1)
    | _, _, _ => .ok (d.sendAck h)
  else if seq ≠ c.expect then
    if c.ahead.any (fun x => x.1 == seq) || 64 ≤ c.ahead.length then .ok d
    else .ok (d.setCtx h { c with ahead := c.ahead ++ [(seq, bs)] })
  else
    match Dev.dgRun h 65 d bs with
    | .ok (told, d) => .ok (if told then d else d.sendAck h)
    | .error e => .error e

/-- A datagram arrives on port `q` from an address (R359 to R362): a silent port takes none; `op` is the operation of
the command. -/
def Dev.datagramIn (d : Dev) (q op : Nat) (ip : Word) (pt : Nat) (bs : List Byte) : Eff :=
  if d.reg (enReg q 0) = 0 then .ok d
  else if d.dgBad q bs then .ok (d.bump (enReg q 0x14))
  else if u8 bs 3 ≠ op then .ok d
  else
    let h := u8 bs 4
    match (d.ctx h).peer with
    | some p =>
      if p = (ip, pt) then (d.count (608 + 8 * h + 6) 1).dgFromPeer h bs else .ok (d.bump (enReg q 0x18))
    | none =>
      if op = 0x03 && !(dgAckOnly bs) then .ok ((d.count (608 + 8 * h + 6) 1).dgOpened h q ip pt bs)
      else .ok (d.bump (enReg q 0x18))

/-- A datagram that is only discarded (R359). -/
def Dev.datagramBad (d : Dev) (q : Nat) (bs : List Byte) : Dev :=
  if d.reg (enReg q 0) ≠ 0 && d.dgBad q bs then d.bump (enReg q 0x14) else d

/-- HOST_EN_RTO of port `q`, in ps. -/
def Dev.rto (d : Dev) (q : Nat) : Nat := fld (d.reg (enReg q 0xC)) 0 16 * 1000000

/-- HOST_EN_RTO has passed for unacknowledged datagrams (R362): each is resent, and after 8 sends the peer is lost. -/
def Dev.dgResend (d : Dev) (h : Nat) : Dev :=
  let c := d.ctx h
  match c.peer, d.enPort h with
  | some (ip, pt), some q =>
    let due := c.unacked.filter (fun u => decide (u.sentAt + d.rto q ≤ d.now))
    if due.any (fun u => decide (8 ≤ u.sends)) then (d.bump (enReg q 0x1C)).releasePeer h
    else
      let d := d.setCtx h { c with unacked := c.unacked.map (fun u =>
        if u.sentAt + d.rto q ≤ d.now then { u with sends := u.sends + 1, sentAt := d.now } else u) }
      due.foldl (fun d u => (d.emit (.datagram q ip pt u.bytes)).count (608 + 8 * h + 7) 1) d
  | _, _ => d

/-- 5 s have passed with no datagram from the peer (R361). -/
def Dev.dgSilent (d : Dev) (h : Nat) : Dev :=
  let c := d.ctx h
  if c.peer.isSome && decide (c.lastHeard + 5000000000000 ≤ d.now) then d.releasePeer h else d

/-- A port that exists. -/
def enOk (q : Nat) : Bool := decide (q < 2)
/-- REG_RD (R360). -/
def execRegRd (t q : Nat) (ip : Word) (pt : Nat) (bs : List Byte) (s : State) : Res :=
  onUnitE (enOk q) t (fun d => d.datagramIn q 0x01 ip pt bs) s
/-- REG_WR (R360). -/
def execRegWr (t q : Nat) (ip : Word) (pt : Nat) (bs : List Byte) (s : State) : Res :=
  onUnitE (enOk q) t (fun d => d.datagramIn q 0x02 ip pt bs) s
/-- OPEN (R361). -/
def execDgOpen (t q : Nat) (ip : Word) (pt : Nat) (bs : List Byte) (s : State) : Res :=
  onUnitE (enOk q) t (fun d => d.datagramIn q 0x03 ip pt bs) s
/-- CLOSE (R361). -/
def execDgClose (t q : Nat) (ip : Word) (pt : Nat) (bs : List Byte) (s : State) : Res :=
  onUnitE (enOk q) t (fun d => d.datagramIn q 0x04 ip pt bs) s
/-- KEEP (R361). -/
def execDgKeep (t q : Nat) (ip : Word) (pt : Nat) (bs : List Byte) (s : State) : Res :=
  onUnitE (enOk q) t (fun d => d.datagramIn q 0x05 ip pt bs) s
/-- RD_DATA (R360): the bytes come with the command that uses them (log entry 36). -/
def execRdData (t q : Nat) (ip : Word) (pt : Nat) (bs : List Byte) (s : State) : Res :=
  onUnitE (enOk q) t (fun d => d.datagramIn q 0x10 ip pt bs) s
/-- DATAGRAM_DISCARDED (R359). -/
def execDatagramDiscarded (t q : Nat) (_ip : Word) (_pt : Nat) (bs : List Byte) (s : State) : Res :=
  onUnit (enOk q) t (fun d => d.datagramBad q bs) s
/-- DATAGRAM_RESEND_TIMEOUT (R362). -/
def execDatagramResendTimeout (t h : Nat) (s : State) : Res := onUnit (ctxOk h) t (fun d => d.dgResend h) s
/-- PEER_TIMEOUT (R361). -/
def execPeerTimeout (t h : Nat) (s : State) : Res := onUnit (ctxOk h) t (fun d => d.dgSilent h) s
/-- ARP_REQUEST (R357): answered for the port's own address, with its MAC. -/
def execArpRequest (t q : Nat) (tgt sender : Word) (mac : Nat) (s : State) : Res :=
  onUnit (enOk q) t (fun d =>
    if tgt ≠ 0 && tgt = d.reg (enReg q 0) then d.emit (.arpReply q sender mac (d.host.macs.getD q 0)) else d) s
/-- ICMP_ECHO_REQUEST (R357): answered for the port's own address. -/
def execIcmpEchoRequest (t q : Nat) (tgt sender : Word) (payload : List Byte) (s : State) : Res :=
  onUnit (enOk q) t (fun d => if tgt ≠ 0 && tgt = d.reg (enReg q 0) then d.emit (.icmpReply q sender payload) else d) s

end Sys2Proof.Machine
end

