-- ==== Sys2Proof/Machine/Dispatch.lean ====
section
/-!
DEFINITION. One arm per command: its meaning.
-/
namespace Sys2Proof.Machine

/-- The effect of a command on everything but the queue. -/
def exec (i : Instr) (s : State) : Host.Outcome State Fault Refusal :=
  match i with
  | .powerOnReset t => Sys2Proof.Machine.execPowerOnReset t s
  | .resetNAssert t lowNs => Sys2Proof.Machine.execResetNAssert t lowNs s
  | .sysReset t w v => Sys2Proof.Machine.execSysReset t w v s
  | .brownout t supply mv => Sys2Proof.Machine.execBrownout t supply mv s
  | .perstAssert t n => Sys2Proof.Machine.execPerstAssert t n s
  | .resetRelease t => Sys2Proof.Machine.execResetRelease t s
  | .bootLoad t => Sys2Proof.Machine.execBootLoad t s
  | .fullLoad t w v => Sys2Proof.Machine.execFullLoad t w v s
  | .liveLoad t w v => Sys2Proof.Machine.execLiveLoad t w v s
  | .loadEnd t host => Sys2Proof.Machine.execLoadEnd t host s
  | .flashWriteGo t w v => Sys2Proof.Machine.execFlashWriteGo t w v s
  | .flashWriteEnd t src steps readBack => Sys2Proof.Machine.execFlashWriteEnd t src steps readBack s
  | .cmpOpen t w slot v => Sys2Proof.Machine.execCmpOpen t w slot v s
  | .stripStore t slot coded ue => Sys2Proof.Machine.execStripStore t slot coded ue s
  | .jqPost t w c v => Sys2Proof.Machine.execJqPost t w c v s
  | .jobStart t w v => Sys2Proof.Machine.execJobStart t w v s
  | .jobStop t w v => Sys2Proof.Machine.execJobStop t w v s
  | .commitLinePass t => Sys2Proof.Machine.execCommitLinePass t s
  | .jobBoundary t => Sys2Proof.Machine.execJobBoundary t s
  | .fetchBurstReturn t c bytes ue => Sys2Proof.Machine.execFetchBurstReturn t c bytes ue s
  | .stripDecode t c => Sys2Proof.Machine.execStripDecode t c s
  | .linePrepare t row ue => Sys2Proof.Machine.execLinePrepare t row ue s
  | .planeLineScreen t c ue => Sys2Proof.Machine.execPlaneLineScreen t c ue s
  | .seamApply t row => Sys2Proof.Machine.execSeamApply t row s
  | .nzHrecAppend t w v => Sys2Proof.Machine.execNzHrecAppend t w v s
  | .nzSubmit t w v => Sys2Proof.Machine.execNzSubmit t w v s
  | .nzDiscard t w v => Sys2Proof.Machine.execNzDiscard t w v s
  | .ledgerSave t w v => Sys2Proof.Machine.execLedgerSave t w v s
  | .ledgerSaveEnd t steps flashOk => Sys2Proof.Machine.execLedgerSaveEnd t steps flashOk s
  | .nzPatArm t w slot v => Sys2Proof.Machine.execNzPatArm t w slot v s
  | .scrPeek t w v => Sys2Proof.Machine.execScrPeek t w v s
  | .encCount t n a b => Sys2Proof.Machine.execEncCount t n a b s
  | .indexPulse t => Sys2Proof.Machine.execIndexPulse t s
  | .wireDisagreeEnter t n pair => Sys2Proof.Machine.execWireDisagreeEnter t n pair s
  | .wireDisagreeExit t n pair => Sys2Proof.Machine.execWireDisagreeExit t n pair s
  | .speedWindowEnd t n => Sys2Proof.Machine.execSpeedWindowEnd t n s
  | .webStopDetected t => Sys2Proof.Machine.execWebStopDetected t s
  | .encSnapTake t w v => Sys2Proof.Machine.execEncSnapTake t w v s
  | .fireCommit t h => Sys2Proof.Machine.execFireCommit t h s
  | .fireOrderedSetSend t k => Sys2Proof.Machine.execFireOrderedSetSend t k s
  | .lineFrameSend t h => Sys2Proof.Machine.execLineFrameSend t h s
  | .drefStep t row => Sys2Proof.Machine.execDrefStep t row s
  | .firBrecAppend t w v => Sys2Proof.Machine.execFirBrecAppend t w v s
  | .firSubmit t w v => Sys2Proof.Machine.execFirSubmit t w v s
  | .firDiscard t w v => Sys2Proof.Machine.execFirDiscard t w v s
  | .firSnapTake t w v => Sys2Proof.Machine.execFirSnapTake t w v s
  | .pcArm t w n v => Sys2Proof.Machine.execPcArm t w n v s
  | .pcDisarm t w n v => Sys2Proof.Machine.execPcDisarm t w n v s
  | .compareEdge t n => Sys2Proof.Machine.execCompareEdge t n s
  | .comparePulseEnd t n => Sys2Proof.Machine.execComparePulseEnd t n s
  | .tickSend t k => Sys2Proof.Machine.execTickSend t k s
  | .probeSend t k => Sys2Proof.Machine.execProbeSend t k s
  | .probeTimeout t k => Sys2Proof.Machine.execProbeTimeout t k s
  | .capsReqSend t k => Sys2Proof.Machine.execCapsReqSend t k s
  | .lockCapsTimeout t k => Sys2Proof.Machine.execLockCapsTimeout t k s
  | .configTimeout t k => Sys2Proof.Machine.execConfigTimeout t k s
  | .capsReceive t k f => Sys2Proof.Machine.execCapsReceive t k f s
  | .probeEchoReceive t k f => Sys2Proof.Machine.execProbeEchoReceive t k f s
  | .echoBlockReceive t k f => Sys2Proof.Machine.execEchoBlockReceive t k f s
  | .echoResendReceive t k f => Sys2Proof.Machine.execEchoResendReceive t k f s
  | .echoStatusReceive t k f => Sys2Proof.Machine.execEchoStatusReceive t k f s
  | .hkFrameReceive t k f => Sys2Proof.Machine.execHkFrameReceive t k f s
  | .recaps t w k v => Sys2Proof.Machine.execRecaps t w k v s
  | .reprobe t w k v => Sys2Proof.Machine.execReprobe t w k v s
  | .epLineReceive t k x f => Sys2Proof.Machine.execEpLineReceive t k x f s
  | .epArmReceive t k x f => Sys2Proof.Machine.execEpArmReceive t k x f s
  | .epFireReceive t k x f => Sys2Proof.Machine.execEpFireReceive t k x f s
  | .epArmExpire t k x q => Sys2Proof.Machine.execEpArmExpire t k x q s
  | .epTickReceive t k x f => Sys2Proof.Machine.execEpTickReceive t k x f s
  | .epDigestReceive t k x f => Sys2Proof.Machine.execEpDigestReceive t k x f s
  | .epClaimReceive t k x f => Sys2Proof.Machine.execEpClaimReceive t k x f s
  | .epHaltReceive t k x f => Sys2Proof.Machine.execEpHaltReceive t k x f s
  | .epSignalLoss t k x => Sys2Proof.Machine.execEpSignalLoss t k x s
  | .epCapsReq t k x f => Sys2Proof.Machine.execEpCapsReq t k x f s
  | .epHeadcfg t k x f => Sys2Proof.Machine.execEpHeadcfg t k x f s
  | .epHkReq t k x f => Sys2Proof.Machine.execEpHkReq t k x f s
  | .epClear t k x f => Sys2Proof.Machine.execEpClear t k x f s
  | .epEidle t k x f => Sys2Proof.Machine.execEpEidle t k x f s
  | .epPattern t k x f => Sys2Proof.Machine.execEpPattern t k x f s
  | .epLoopback t k x f => Sys2Proof.Machine.execEpLoopback t k x f s
  | .epTestEnd t k x => Sys2Proof.Machine.execEpTestEnd t k x s
  | .epEidleTimeout t k x => Sys2Proof.Machine.execEpEidleTimeout t k x s
  | .epProbeReceive t k x f => Sys2Proof.Machine.execEpProbeReceive t k x f s
  | .epStatusPeriodic t k => Sys2Proof.Machine.execEpStatusPeriodic t k s
  | .epCapsPeriodic t k x => Sys2Proof.Machine.execEpCapsPeriodic t k x s
  | .epReset t k => Sys2Proof.Machine.execEpReset t k s
  | .csiFrameStart t p vc fn => Sys2Proof.Machine.execCsiFrameStart t p vc fn s
  | .csiFrameEnd t p vc => Sys2Proof.Machine.execCsiFrameEnd t p vc s
  | .csiLinePacket t p vc dt data crcOk eccFixed => Sys2Proof.Machine.execCsiLinePacket t p vc dt data crcOk eccFixed s
  | .csiEmbeddedData t p vc data => Sys2Proof.Machine.execCsiEmbeddedData t p vc data s
  | .csiOtherPacket t p vc dt eccBad => Sys2Proof.Machine.execCsiOtherPacket t p vc dt eccBad s
  | .frameTimeout t p vc => Sys2Proof.Machine.execFrameTimeout t p vc s
  | .pipelineLine t pl ue => Sys2Proof.Machine.execPipelineLine t pl ue s
  | .frameClose t p vc => Sys2Proof.Machine.execFrameClose t p vc s
  | .camCciCmd t w p v => Sys2Proof.Machine.execCamCciCmd t w p v s
  | .cciCommandDone t p acked data => Sys2Proof.Machine.execCciCommandDone t p acked data s
  | .camCciRdata t w p => Sys2Proof.Machine.execCamCciRdata t w p s
  | .ispLutD2 t w p prof v => Sys2Proof.Machine.execIspLutD2 t w p prof v s
  | .ispSwap t w p prof v => Sys2Proof.Machine.execIspSwap t w p prof v s
  | .loopDrefSet t w row v => Sys2Proof.Machine.execLoopDrefSet t w row v s
  | .loopCal t w v => Sys2Proof.Machine.execLoopCal t w v s
  | .ccHalt t w n v => Sys2Proof.Machine.execCcHalt t w n v s
  | .ccResume t w n v => Sys2Proof.Machine.execCcResume t w n v s
  | .ccStart t w n v => Sys2Proof.Machine.execCcStart t w n v s
  | .ccMailIn t w n v => Sys2Proof.Machine.execCcMailIn t w n v s
  | .corePatchWrite t w off v => Sys2Proof.Machine.execCorePatchWrite t w off v s
  | .opAdd t n d a b => Sys2Proof.Machine.execOpAdd t n d a b s
  | .opSub t n d a b => Sys2Proof.Machine.execOpSub t n d a b s
  | .opAnd t n d a b => Sys2Proof.Machine.execOpAnd t n d a b s
  | .opOr t n d a b => Sys2Proof.Machine.execOpOr t n d a b s
  | .opXor t n d a b => Sys2Proof.Machine.execOpXor t n d a b s
  | .opAndn t n d a b => Sys2Proof.Machine.execOpAndn t n d a b s
  | .opLsl t n d a b => Sys2Proof.Machine.execOpLsl t n d a b s
  | .opLsr t n d a b => Sys2Proof.Machine.execOpLsr t n d a b s
  | .opAsr t n d a b => Sys2Proof.Machine.execOpAsr t n d a b s
  | .opRor t n d a b => Sys2Proof.Machine.execOpRor t n d a b s
  | .opSeq t n d a b => Sys2Proof.Machine.execOpSeq t n d a b s
  | .opSne t n d a b => Sys2Proof.Machine.execOpSne t n d a b s
  | .opSlt t n d a b => Sys2Proof.Machine.execOpSlt t n d a b s
  | .opSltu t n d a b => Sys2Proof.Machine.execOpSltu t n d a b s
  | .opMul t n d a b => Sys2Proof.Machine.execOpMul t n d a b s
  | .opMulhi t n d a b => Sys2Proof.Machine.execOpMulhi t n d a b s
  | .opMulhiu t n d a b => Sys2Proof.Machine.execOpMulhiu t n d a b s
  | .opDiv t n d a b => Sys2Proof.Machine.execOpDiv t n d a b s
  | .opDivu t n d a b => Sys2Proof.Machine.execOpDivu t n d a b s
  | .opMod t n d a b => Sys2Proof.Machine.execOpMod t n d a b s
  | .opModu t n d a b => Sys2Proof.Machine.execOpModu t n d a b s
  | .opMin t n d a b => Sys2Proof.Machine.execOpMin t n d a b s
  | .opMax t n d a b => Sys2Proof.Machine.execOpMax t n d a b s
  | .opMinu t n d a b => Sys2Proof.Machine.execOpMinu t n d a b s
  | .opMaxu t n d a b => Sys2Proof.Machine.execOpMaxu t n d a b s
  | .opLzc t n d a => Sys2Proof.Machine.execOpLzc t n d a s
  | .opPopc t n d a => Sys2Proof.Machine.execOpPopc t n d a s
  | .opAbsd t n d a b => Sys2Proof.Machine.execOpAbsd t n d a b s
  | .opAddk t n d a imm => Sys2Proof.Machine.execOpAddk t n d a imm s
  | .opAndk t n d a imm => Sys2Proof.Machine.execOpAndk t n d a imm s
  | .opOrk t n d a imm => Sys2Proof.Machine.execOpOrk t n d a imm s
  | .opXork t n d a imm => Sys2Proof.Machine.execOpXork t n d a imm s
  | .opLtk t n d a imm => Sys2Proof.Machine.execOpLtk t n d a imm s
  | .opLtku t n d a imm => Sys2Proof.Machine.execOpLtku t n d a imm s
  | .opHik t n d a imm => Sys2Proof.Machine.execOpHik t n d a imm s
  | .opShk t n d a kind amt => Sys2Proof.Machine.execOpShk t n d a kind amt s
  | .opLdw t n d a imm ue => Sys2Proof.Machine.execOpLdw t n d a imm ue s
  | .opLdh t n d a imm ue => Sys2Proof.Machine.execOpLdh t n d a imm ue s
  | .opLdhz t n d a imm ue => Sys2Proof.Machine.execOpLdhz t n d a imm ue s
  | .opLdb t n d a imm ue => Sys2Proof.Machine.execOpLdb t n d a imm ue s
  | .opLdbz t n d a imm ue => Sys2Proof.Machine.execOpLdbz t n d a imm ue s
  | .opStw t n x y imm => Sys2Proof.Machine.execOpStw t n x y imm s
  | .opSth t n x y imm => Sys2Proof.Machine.execOpSth t n x y imm s
  | .opStb t n x y imm => Sys2Proof.Machine.execOpStb t n x y imm s
  | .opBrt t n x off => Sys2Proof.Machine.execOpBrt t n x off s
  | .opBrf t n x off => Sys2Proof.Machine.execOpBrf t n x off s
  | .opLoop t n x off => Sys2Proof.Machine.execOpLoop t n x off s
  | .opGo t n off => Sys2Proof.Machine.execOpGo t n off s
  | .opCall t n off => Sys2Proof.Machine.execOpCall t n off s
  | .opCallr t n d a imm => Sys2Proof.Machine.execOpCallr t n d a imm s
  | .opGetc t n d csr => Sys2Proof.Machine.execOpGetc t n d csr s
  | .opPutc t n a csr => Sys2Proof.Machine.execOpPutc t n a csr s
  | .opSetc t n a csr => Sys2Proof.Machine.execOpSetc t n a csr s
  | .opClrc t n a csr => Sys2Proof.Machine.execOpClrc t n a csr s
  | .opWait t n => Sys2Proof.Machine.execOpWait t n s
  | .waitComplete t n => Sys2Proof.Machine.execWaitComplete t n s
  | .opNotify t n target => Sys2Proof.Machine.execOpNotify t n target s
  | .opSync t n => Sys2Proof.Machine.execOpSync t n s
  | .opBreak t n imm => Sys2Proof.Machine.execOpBreak t n imm s
  | .opHret t n => Sys2Proof.Machine.execOpHret t n s
  | .opVld t n vd a imm ue => Sys2Proof.Machine.execOpVld t n vd a imm ue s
  | .opVst t n vd a imm => Sys2Proof.Machine.execOpVst t n vd a imm s
  | .opVadd t n vd va vb => Sys2Proof.Machine.execOpVadd t n vd va vb s
  | .opVsub t n vd va vb => Sys2Proof.Machine.execOpVsub t n vd va vb s
  | .opVadds t n vd va vb => Sys2Proof.Machine.execOpVadds t n vd va vb s
  | .opVsubs t n vd va vb => Sys2Proof.Machine.execOpVsubs t n vd va vb s
  | .opVmul t n vd va vb => Sys2Proof.Machine.execOpVmul t n vd va vb s
  | .opVmulh t n vd va vb => Sys2Proof.Machine.execOpVmulh t n vd va vb s
  | .opVmin t n vd va vb => Sys2Proof.Machine.execOpVmin t n vd va vb s
  | .opVmax t n vd va vb => Sys2Proof.Machine.execOpVmax t n vd va vb s
  | .opVand t n vd va vb => Sys2Proof.Machine.execOpVand t n vd va vb s
  | .opVor t n vd va vb => Sys2Proof.Machine.execOpVor t n vd va vb s
  | .opVxor t n vd va vb => Sys2Proof.Machine.execOpVxor t n vd va vb s
  | .opVsra t n vd va amt => Sys2Proof.Machine.execOpVsra t n vd va amt s
  | .opVsll t n vd va amt => Sys2Proof.Machine.execOpVsll t n vd va amt s
  | .opVsplat t n vd r => Sys2Proof.Machine.execOpVsplat t n vd r s
  | .opVsum t n va r => Sys2Proof.Machine.execOpVsum t n va r s
  | .opVext t n va r lane => Sys2Proof.Machine.execOpVext t n va r lane s
  | .opVins t n vd r lane => Sys2Proof.Machine.execOpVins t n vd r lane s
  | .opVabsd t n vd va vb => Sys2Proof.Machine.execOpVabsd t n vd va vb s
  | .timerCompare t n => Sys2Proof.Machine.execTimerCompare t n s
  | .watchdogExpire t n => Sys2Proof.Machine.execWatchdogExpire t n s
  | .clearCounters t w v => Sys2Proof.Machine.execClearCounters t w v s
  | .latchingLoRead t w off => Sys2Proof.Machine.execLatchingLoRead t w off s
  | .tallyNow t w v => Sys2Proof.Machine.execTallyNow t w v s
  | .tallyPeriodExpire t => Sys2Proof.Machine.execTallyPeriodExpire t s
  | .tallyDumpDone t => Sys2Proof.Machine.execTallyDumpDone t s
  | .sampArm t w v => Sys2Proof.Machine.execSampArm t w v s
  | .sampleTag t n => Sys2Proof.Machine.execSampleTag t n s
  | .sampleRecordWrite t n obs => Sys2Proof.Machine.execSampleRecordWrite t n obs s
  | .dramTrainingDone t dc0 dc1 => Sys2Proof.Machine.execDramTrainingDone t dc0 dc1 s
  | .dramFillDone t => Sys2Proof.Machine.execDramFillDone t s
  | .refreshDue t m => Sys2Proof.Machine.execRefreshDue t m s
  | .retrainInterval t m => Sys2Proof.Machine.execRetrainInterval t m s
  | .retrainPause t m => Sys2Proof.Machine.execRetrainPause t m s
  | .dcRetrain t w v => Sys2Proof.Machine.execDcRetrain t w v s
  | .setpointChange t w v => Sys2Proof.Machine.execSetpointChange t w v s
  | .changePause t => Sys2Proof.Machine.execChangePause t s
  | .srIdleEntry t m request => Sys2Proof.Machine.execSrIdleEntry t m request s
  | .scrubBurstRead t addr err => Sys2Proof.Machine.execScrubBurstRead t addr err s
  | .regRd t q ip port d => Sys2Proof.Machine.execRegRd t q ip port d s
  | .regWr t q ip port d => Sys2Proof.Machine.execRegWr t q ip port d s
  | .dgOpen t q ip port d => Sys2Proof.Machine.execDgOpen t q ip port d s
  | .dgClose t q ip port d => Sys2Proof.Machine.execDgClose t q ip port d s
  | .dgKeep t q ip port d => Sys2Proof.Machine.execDgKeep t q ip port d s
  | .rdData t q ip port d => Sys2Proof.Machine.execRdData t q ip port d s
  | .datagramResendTimeout t h => Sys2Proof.Machine.execDatagramResendTimeout t h s
  | .peerTimeout t h => Sys2Proof.Machine.execPeerTimeout t h s
  | .arpRequest t q target sender mac => Sys2Proof.Machine.execArpRequest t q target sender mac s
  | .icmpEchoRequest t q target sender payload => Sys2Proof.Machine.execIcmpEchoRequest t q target sender payload s
  | .functionLevelReset t n linkDown => Sys2Proof.Machine.execFunctionLevelReset t n linkDown s
  | .dmDoorbell t h j => Sys2Proof.Machine.execDmDoorbell t h j s
  | .dmStop t h j v => Sys2Proof.Machine.execDmStop t h j v s
  | .dmAbort t h v => Sys2Proof.Machine.execDmAbort t h v s
  | .descriptorFetch t ch d => Sys2Proof.Machine.execDescriptorFetch t ch d s
  | .dmaBurst t ch d => Sys2Proof.Machine.execDmaBurst t ch d s
  | .descriptorComplete t ch => Sys2Proof.Machine.execDescriptorComplete t ch s
  | .nonRespondingMemory t ch kind addr => Sys2Proof.Machine.execNonRespondingMemory t ch kind addr s
  | .irqGapExpire t h src => Sys2Proof.Machine.execIrqGapExpire t h src s
  | .regWrite t w off v be => Sys2Proof.Machine.execRegWrite t w off v be s
  | .twHello t q m => Sys2Proof.Machine.execTwHello t q m s
  | .twBeat t q m => Sys2Proof.Machine.execTwBeat t q m s
  | .twBeatSend t => Sys2Proof.Machine.execTwBeatSend t s
  | .twCkpt t q seq f => Sys2Proof.Machine.execTwCkpt t q seq f s
  | .twCkptSend t => Sys2Proof.Machine.execTwCkptSend t s
  | .twMirror t q seq off bursts poison => Sys2Proof.Machine.execTwMirror t q seq off bursts poison s
  | .twState t q seq item => Sys2Proof.Machine.execTwState t q seq item s
  | .twIdig t q seq digs => Sys2Proof.Machine.execTwIdig t q seq digs s
  | .twAck t q seq => Sys2Proof.Machine.execTwAck t q seq s
  | .twProbe t q echo seq tta rtPs => Sys2Proof.Machine.execTwProbe t q echo seq tta rtPs s
  | .twResendTimeout t => Sys2Proof.Machine.execTwResendTimeout t s
  | .twLinkTimeout t q => Sys2Proof.Machine.execTwLinkTimeout t q s
  | .heartbeatLoss t => Sys2Proof.Machine.execHeartbeatLoss t s
  | .echoOverdue t k h block => Sys2Proof.Machine.execEchoOverdue t k h block s
  | .takeoverTimeout t => Sys2Proof.Machine.execTakeoverTimeout t s
  | .pairWaitExpire t => Sys2Proof.Machine.execPairWaitExpire t s
  | .holdoffExpire t => Sys2Proof.Machine.execHoldoffExpire t s
  | .revertRequest t q => Sys2Proof.Machine.execRevertRequest t q s
  | .revertAck t q seam => Sys2Proof.Machine.execRevertAck t q seam s
  | .revertAbort t q => Sys2Proof.Machine.execRevertAbort t q s
  | .revertReadyCheck t => Sys2Proof.Machine.execRevertReadyCheck t s
  | .revertNow t w v => Sys2Proof.Machine.execRevertNow t w v s
  | .twResync t w v => Sys2Proof.Machine.execTwResync t w v s
  | .twAlone t w v => Sys2Proof.Machine.execTwAlone t w v s
  | .ptpSync t q m => Sys2Proof.Machine.execPtpSync t q m s
  | .ptpFollowUp t q m => Sys2Proof.Machine.execPtpFollowUp t q m s
  | .ptpDelayReq t q m => Sys2Proof.Machine.execPtpDelayReq t q m s
  | .ptpDelayResp t q m => Sys2Proof.Machine.execPtpDelayResp t q m s
  | .ptpPdelayReq t q m => Sys2Proof.Machine.execPtpPdelayReq t q m s
  | .ptpPdelayResp t q m => Sys2Proof.Machine.execPtpPdelayResp t q m s
  | .ptpAnnounce t q m a => Sys2Proof.Machine.execPtpAnnounce t q m a s
  | .ptpOther t q m => Sys2Proof.Machine.execPtpOther t q m s
  | .delayReqSend t q dom => Sys2Proof.Machine.execDelayReqSend t q dom s
  | .masterAnnounceSend t q dom => Sys2Proof.Machine.execMasterAnnounceSend t q dom s
  | .masterSyncSend t q dom => Sys2Proof.Machine.execMasterSyncSend t q dom s
  | .domainLost t dom => Sys2Proof.Machine.execDomainLost t dom s
  | .domainReturn t => Sys2Proof.Machine.execDomainReturn t s
  | .tkStep t w v => Sys2Proof.Machine.execTkStep t w v s
  | .pendingStepMade t => Sys2Proof.Machine.execPendingStepMade t s
  | .tkSnapTake t w v => Sys2Proof.Machine.execTkSnapTake t w v s
  | .tpArm t w n v => Sys2Proof.Machine.execTpArm t w n v s
  | .tpDisarm t w n v => Sys2Proof.Machine.execTpDisarm t w n v s
  | .tpEdge t n => Sys2Proof.Machine.execTpEdge t n s
  | .tpPulseEnd t n => Sys2Proof.Machine.execTpPulseEnd t n s
  | .tcEdge t c falling => Sys2Proof.Machine.execTcEdge t c falling s
  | .tcPop t w c => Sys2Proof.Machine.execTcPop t w c s
  | .hkRound t obs => Sys2Proof.Machine.execHkRound t obs s
  | .graceExpire t => Sys2Proof.Machine.execGraceExpire t s
  | .govTick t => Sys2Proof.Machine.execGovTick t s
  | .plumbSample t counts => Sys2Proof.Machine.execPlumbSample t counts s
  | .lossOfSignal t n => Sys2Proof.Machine.execLossOfSignal t n s
  | .signalRestored t n => Sys2Proof.Machine.execSignalRestored t n s
  | .blockLock t n => Sys2Proof.Machine.execBlockLock t n s
  | .lockLost t n => Sys2Proof.Machine.execLockLost t n s
  | .eidleEnter t k => Sys2Proof.Machine.execEidleEnter t k s
  | .eidleExit t k => Sys2Proof.Machine.execEidleExit t k s
  | .deepStateExitDone t n => Sys2Proof.Machine.execDeepStateExitDone t n s
  | .laneTestPattern t w n v => Sys2Proof.Machine.execLaneTestPattern t w n v s
  | .laneTestFarLoop t w n v => Sys2Proof.Machine.execLaneTestFarLoop t w n v s
  | .laneTestNearLoop t w n v => Sys2Proof.Machine.execLaneTestNearLoop t w n v s
  | .laneTestOff t w n v => Sys2Proof.Machine.execLaneTestOff t w n v s
  | .laneTestEnd t n obs => Sys2Proof.Machine.execLaneTestEnd t n obs s
  | .laneErrinj t w n v => Sys2Proof.Machine.execLaneErrinj t w n v s
  | .laneClr t w n v => Sys2Proof.Machine.execLaneClr t w n v s
  | .illegalInstruction t n word => Sys2Proof.Machine.execIllegalInstruction t n word s
  | .pcieLinkTrained t n speed width => Sys2Proof.Machine.execPcieLinkTrained t n speed width s
  | .frameDiscarded t rx => Sys2Proof.Machine.execFrameDiscarded t rx s
  | .datagramDiscarded t q ip port d => Sys2Proof.Machine.execDatagramDiscarded t q ip port d s
  | .epRefoOutOfLimits t k x out => Sys2Proof.Machine.execEpRefoOutOfLimits t k x out s

end Sys2Proof.Machine
end

