-- ==== Sys2Proof/Safety.lean ====
section
/-!
DEFINITION. The terms the statements use: a command that completes, a core about to issue an instruction, and what a
command leaves alone.
-/
namespace Sys2Proof.Machine

/-- The command completes: it answers a next state. -/
def completes (c : Instr) (s : State) : Prop := ∃ s', exec c s = .next s'

/-- The command answers a next state of which `p` holds. -/
abbrev Does (c : Instr) (s : State) (p : State → Prop) : Prop := ∃ s', exec c s = .next s' ∧ p s'

/-- The command acts at instant `t` outside the reset, with this effect on the device: the queue and the endpoints stand. -/
abbrev Acts (c : Instr) (t : Nat) (s : State) (f : Dev → Dev) : Prop :=
  exec c s = .next { s with dev := f (s.dev.at t) }

/-! ### Cores -/

/-- An instruction whose memory read, if it makes one, reports no error: what an instruction word spells. -/
def readsWell : Instr → Instr
  | .opLdw t n d a i _ => .opLdw t n d a i false
  | .opLdh t n d a i _ => .opLdh t n d a i false
  | .opLdhz t n d a i _ => .opLdhz t n d a i false
  | .opLdb t n d a i _ => .opLdb t n d a i false
  | .opLdbz t n d a i _ => .opLdbz t n d a i false
  | .opVld t n v a i _ => .opVld t n v a i false
  | i => i


/-- Core `n` stands ready to issue the instruction `i`: out of reset, RUNNING, with the instruction's word at a pc that
can be fetched. -/
abbrev Issues (s : State) (n : Nat) (i : Instr) : Prop :=
  s.dev.inReset = false ∧ n < 8 ∧ (s.dev.core n).st = .running ∧ s.dev.fetchable n (s.dev.core n).pc = true ∧
    coreWord i = some (s.dev.fetchCore n (s.dev.core n).pc)

/-- Nothing but core `n`, the counters and the sampler's generator differs, and time has moved to the command's. -/
abbrev CoreOnly (t n : Nat) (s s' : State) : Prop :=
  s'.pending = s.pending ∧ s'.eps = s.eps ∧
    s'.dev = { s.dev with
      now := max s.dev.now t,
      cc := { s.dev.cc with cores := s'.dev.cc.cores },
      perf := { s.dev.perf with cnt := s'.dev.perf.cnt, gen := s'.dev.perf.gen } } ∧
    ∀ m, m ≠ n → s'.dev.core m = s.dev.core m

/-- A core without its scalar and vector registers, its pc and the sampler's marks. -/
def Core.rest (c : Core) : Core := { c with s := [], v := [], pc := 0, countdown := 0, tagNext := false, tag := none }

/-- The scalar registers of core `n` stand but for `d`, which holds `v`; s0 reads 0 and a write to it is discarded. -/
abbrev ScalarWritten (n : Nat) (s s' : State) (d : Fin 32) (v : Word) : Prop :=
  ∀ r : Fin 32, s'.dev.sreg n r = if r = 0 then 0 else if r = d then v else s.dev.sreg n r

/-- The scalar registers of core `n` stand. -/
abbrev ScalarsStand (n : Nat) (s s' : State) : Prop := ∀ r : Fin 32, s'.dev.sreg n r = s.dev.sreg n r

/-- The vector registers of core `n` stand. -/
abbrev VectorsStand (n : Nat) (s s' : State) : Prop := ∀ r l : Fin 8, (s'.dev.core n).lane r l = (s.dev.core n).lane r l

/-- The instruction `i` of core `n` retires into the next word: s_d holds `v`, and nothing else of the machine differs. -/
abbrev GivesScalar (i : Instr) (t n : Nat) (s : State) (d : Fin 32) (v : Word) : Prop :=
  Does i s fun s' =>
    CoreOnly t n s s' ∧ (s'.dev.core n).rest = (s.dev.core n).rest ∧ (s'.dev.core n).pc = (s.dev.core n).pc + 4 ∧
      VectorsStand n s s' ∧ ScalarWritten n s s' d v

/-- The same for an instruction that writes the lanes of v_vd. -/
abbrev GivesVector (i : Instr) (t n : Nat) (s : State) (vd : Fin 8) (f : Fin 8 → BitVec 16) : Prop :=
  Does i s fun s' =>
    CoreOnly t n s s' ∧ (s'.dev.core n).rest = (s.dev.core n).rest ∧ (s'.dev.core n).pc = (s.dev.core n).pc + 4 ∧
      ScalarsStand n s s' ∧
      ∀ r l : Fin 8, (s'.dev.core n).lane r l = if r = vd then f l else (s.dev.core n).lane r l

/-- The instruction retires and only the pc of core `n` differs. -/
abbrev GoesTo (i : Instr) (t n : Nat) (s : State) (pc : Word) : Prop :=
  Does i s fun s' =>
    CoreOnly t n s s' ∧ (s'.dev.core n).rest = (s.dev.core n).rest ∧ (s'.dev.core n).pc = pc ∧
      VectorsStand n s s' ∧ ScalarsStand n s s'

/-- The instruction retires into the next word and nothing else of the machine differs. -/
abbrev GoesOn (t n : Nat) (s : State) (i : Instr) : Prop := Issues s n i → GoesTo i t n s ((s.dev.core n).pc + 4)

/-- The exception is taken: the handler of the core is entered, with EPC, CAUSE, EADDR and INEXC written. -/
abbrev TakesException (i : Instr) (n : Nat) (s : State) (cause : Nat) (addr : Word) : Prop :=
  Issues s n i → (s.dev.core n).csr.evec ≠ 0 → (s.dev.core n).csr.inexc = false →
    Does i s fun s' =>
      (s'.dev.core n).st = .running ∧ (s'.dev.core n).pc = (s.dev.core n).csr.evec ∧
      (s'.dev.core n).csr = { (s.dev.core n).csr with epc := (s.dev.core n).pc, cause := cause, eaddr := addr, inexc := true } ∧
      VectorsStand n s s' ∧ ScalarsStand n s s' ∧ (s'.dev.core n).lmem = (s.dev.core n).lmem ∧
      (∀ m, m ≠ n → s'.dev.core m = s.dev.core m) ∧ s'.dev.dram = s.dev.dram

/-! ### Register writes -/

/-- The device takes a write of a register by this writer: the register can be written, no FULL load locks it, the writer
has the right to it (R363), and a standby still takes it (R390). -/
def Dev.takes (d : Dev) (w : Writer) (off : Nat) : Bool :=
  match regRow off with
  | none => false
  | some (r, i, _) =>
    !((r.acc == .ro && r.clr == 0) || r.acc == .rc) && !(lockedBlock off && d.fullChecking) &&
      d.verdict w r.guard i == .accept && !(d.standby && !(standbyTakes off))

/-! ### Endpoints -/

/-- The endpoint a command acts at; none for a command of the device. -/
def endpointOf : Instr → Option Nat
  | .epLineReceive _ k _ _ | .epArmReceive _ k _ _ | .epFireReceive _ k _ _ | .epArmExpire _ k _ _
  | .epTickReceive _ k _ _ | .epDigestReceive _ k _ _ | .epClaimReceive _ k _ _ | .epHaltReceive _ k _ _
  | .epSignalLoss _ k _ | .epCapsReq _ k _ _ | .epHeadcfg _ k _ _ | .epHkReq _ k _ _ | .epClear _ k _ _
  | .epEidle _ k _ _ | .epPattern _ k _ _ | .epLoopback _ k _ _ | .epTestEnd _ k _ | .epEidleTimeout _ k _
  | .epProbeReceive _ k _ _ | .epStatusPeriodic _ k | .epCapsPeriodic _ k _ | .epReset _ k
  | .epRefoOutOfLimits _ k _ _ | .frameDiscarded _ (.endpoint k _) => some k
  | _ => none

end Sys2Proof.Machine
end

