-- ==== Sys2Proof/Certificates/Slice0/Obligations.lean ====
section
/-!
DEFINITION. The statements about the LRT8256, family by family. Each formalises what rules of the spec say a command
does; a statement that rests on a choice of the model says so.
-/
open Sys2Proof Sys2Proof.Machine

/-- The step takes the command at the front of the queue and runs it with the queue's rest. -/
def Obligations.StepRunsTheFrontCommand : Prop :=
  ∀ (c : Instr) (rest : List Instr) (s : State),
    s.pending = c :: rest → step s = exec c { s with pending := rest }

/-- The queue is served in order: no command touches it, so that what waits behind a command still waits after it, and with
nothing waiting the step idles, the state standing (the model's choice, log entry 20). -/
def Obligations.CommandsLeaveTheQueue : Prop :=
  (∀ (c : Instr) (s s' : State), exec c s = .next s' → s'.pending = s.pending) ∧
  ∀ s : State, s.pending = [] → step s = .next s

/-- What the machine right after reset holds (R462, R465, R466, R474 and the register tables): no forme, no job, every core
IDLE, every count and the web position 0, no DRAM channel trained, every bar link DOWN, VSET driven at 0.800 V, the
identification readable, and the registers whose tables give a reset value other than 0 at it. -/
def Obligations.ResetLeaves : Prop :=
  let s := State.reset
  s.pending = [] ∧ s.dev.inReset = false ∧ s.dev.forme = none ∧ s.dev.job.phase = .idle ∧
  (∀ n < 8, (s.dev.core n).st = .idle) ∧ s.dev.enc.e0.k = 0 ∧ s.dev.enc.e1.k = 0 ∧ s.dev.fir.pos = 0 ∧ s.dev.perf.cnt = [] ∧
  (∀ m < 2, s.dev.dcState m = 0) ∧ (∀ k < 32, s.dev.blState k = 0) ∧ .vset 800 ∈ s.dev.out ∧
  s.dev.reg 0x000000 = 0x825601B0 ∧ fld (s.dev.reg 0x000008) 0 3 = 0 ∧ s.dev.reg 0x010018 = 0x0000000A ∧
  s.dev.reg 0x010048 = 0x00010032 ∧ s.dev.reg 0x04010C = 0x40000000 ∧ s.dev.reg 0x060100 = 0xFFFFFF00 ∧
  s.dev.reg 0x070018 = 0x00020000 ∧ s.dev.reg 0x080000 = 0x20040280 ∧ s.dev.reg 0x090008 = 0x40000000 ∧
  s.dev.reg 0x090058 = 0x00002000 ∧ s.dev.reg 0x0B0004 = 0x00002710


/-! ### Control cores: words (R303 to R307) -/

/-- Decode and encode agree: the word of an instruction decodes to that instruction, whatever its operands (every register,
immediate, offset, lane and CSR number the formats admit comes back), and what a word decodes to has that word again, so
that no bit of a word is dropped. LOOP with x = 0 is no instruction (R307), and ILLEGAL_INSTRUCTION carries a word of its
own. -/
def Obligations.CoreWordsDecode : Prop :=
  (∀ (i : Instr) (w : Word),
    coreWord i = some w → (∀ t n v, i ≠ .illegalInstruction t n v) → (∀ t n off, i ≠ .opLoop t n 0 off) →
      ∃ t n, decodeCore t n w = some (readsWell i)) ∧
  ∀ (t n : Nat) (w : Word) (i : Instr), decodeCore t n w = some i → coreWord i = some w

/-- Words written out from the formats of R303 and the codes of R304 to R306 decode to their instructions. -/
def Obligations.CoreWordsFromTheFormats : Prop :=
  ∀ t n : Nat,
    decodeCore t n 0b000000_00011_00001_00010_00000000001#32 = some (.opSub t n 3 1 2) ∧
    decodeCore t n 0b000001_00101_00000_1111111111111111#32 = some (.opAddk t n 5 0 0xFFFF) ∧
    decodeCore t n 0b001010_00111_00100_0000000000001000#32 = some (.opLdw t n 7 4 8 false) ∧
    decodeCore t n 0b010000_00111_00100_0000000000001000#32 = some (.opStw t n 7 4 8) ∧
    decodeCore t n 0b010100_00010_111111111111111111110#32 = some (.opBrt t n 2 0x1FFFFE) ∧
    decodeCore t n 0b011001_00000000000000000000000100#32 = some (.opCall t n 4) ∧
    decodeCore t n 0b100000_01001_00000_0000000000001000#32 = some (.opGetc t n 9 0x008) ∧
    decodeCore t n 0b110000_00_101_00011_0000000000010000#32 = some (.opVld t n 5 3 0x10 false) ∧
    decodeCore t n 0b110010_001_010_011_00000_000000_000100#32 = some (.opVmul t n 1 2 3) ∧
    decodeCore t n 0b110010_000_010_000_01100_000101_001111#32 = some (.opVext t n 2 12 5) ∧
    decodeCore t n 0b001001_00000_00000_0000000000000000#32 = none ∧
    decodeCore t n 0b010110_00000_000000000000000000001#32 = none

/-! ### Control cores: what instructions do (R301 to R312) -/

/-- The OPR operations of R305: each has its fn code in the fields of format R, gives s_d its result from s_a and s_b, and
leaves everything else of the machine as it was; a division raises no exception, whatever its divisor. -/
def Obligations.ScalarOperations : Prop :=
  ∀ (t n : Nat) (d a b : Fin 32) (s : State),
    let x := s.dev.sreg n a
    let y := s.dev.sreg n b
    let gives := fun (fn : Nat) (b : Nat) (i : Instr) (v : Word) =>
      (∃ w, coreWord i = some w ∧ fld w 26 6 = 0 ∧ fld w 21 5 = d ∧ fld w 16 5 = a ∧ fld w 11 5 = b ∧ fld w 0 11 = fn) ∧
        (Issues s n i → GivesScalar i t n s d v)
    gives 0x000 b (.opAdd t n d a b) (x + y) ∧
    gives 0x001 b (.opSub t n d a b) (x - y) ∧
    gives 0x002 b (.opAnd t n d a b) (x &&& y) ∧
    gives 0x003 b (.opOr t n d a b) (x ||| y) ∧
    gives 0x004 b (.opXor t n d a b) (x ^^^ y) ∧
    gives 0x005 b (.opAndn t n d a b) (x &&& ~~~y) ∧
    gives 0x006 b (.opLsl t n d a b) (x <<< (y.toNat % 32)) ∧
    gives 0x007 b (.opLsr t n d a b) (x >>> (y.toNat % 32)) ∧
    gives 0x008 b (.opAsr t n d a b) (x.sshiftRight (y.toNat % 32)) ∧
    gives 0x009 b (.opRor t n d a b) (x.rotateRight (y.toNat % 32)) ∧
    gives 0x00A b (.opSeq t n d a b) (if x = y then 1 else 0) ∧
    gives 0x00B b (.opSne t n d a b) (if x = y then 0 else 1) ∧
    gives 0x00C b (.opSlt t n d a b) (if x.toInt < y.toInt then 1 else 0) ∧
    gives 0x00D b (.opSltu t n d a b) (if x.toNat < y.toNat then 1 else 0) ∧
    gives 0x010 b (.opMul t n d a b) (x * y) ∧
    gives 0x011 b (.opMulhi t n d a b) (BitVec.ofInt 32 (x.toInt * y.toInt / 4294967296)) ∧
    gives 0x012 b (.opMulhiu t n d a b) (BitVec.ofNat 32 (x.toNat * y.toNat / 4294967296)) ∧
    gives 0x014 b (.opDiv t n d a b)
      (if y.toInt = 0 then 0
       else if x.toInt = -2147483648 ∧ y.toInt = -1 then 0x7FFFFFFF
       else BitVec.ofInt 32 (x.toInt.tdiv y.toInt)) ∧
    gives 0x015 b (.opDivu t n d a b) (if y.toNat = 0 then 0 else BitVec.ofNat 32 (x.toNat / y.toNat)) ∧
    gives 0x016 b (.opMod t n d a b) (if y.toInt = 0 then x else BitVec.ofInt 32 (x.toInt.tmod y.toInt)) ∧
    gives 0x017 b (.opModu t n d a b) (if y.toNat = 0 then x else BitVec.ofNat 32 (x.toNat % y.toNat)) ∧
    gives 0x018 b (.opMin t n d a b) (BitVec.ofInt 32 (min x.toInt y.toInt)) ∧
    gives 0x019 b (.opMax t n d a b) (BitVec.ofInt 32 (max x.toInt y.toInt)) ∧
    gives 0x01A b (.opMinu t n d a b) (BitVec.ofNat 32 (min x.toNat y.toNat)) ∧
    gives 0x01B b (.opMaxu t n d a b) (BitVec.ofNat 32 (max x.toNat y.toNat)) ∧
    gives 0x01C 0 (.opLzc t n d a) (BitVec.ofNat 32 (if x.toNat = 0 then 32 else 31 - x.toNat.log2)) ∧
    gives 0x01D 0 (.opPopc t n d a) (BitVec.ofNat 32 ((List.range 32).filter x.getLsbD).length) ∧
    gives 0x01E b (.opAbsd t n d a b) (BitVec.ofNat 32 (x.toInt - y.toInt).natAbs)

/-- The operations with an immediate (R304). -/
def Obligations.ImmediateOperations : Prop :=
  ∀ (t n : Nat) (d a : Fin 32) (imm : BitVec 16) (k : BitVec 2) (m : BitVec 5) (s : State),
    let x := s.dev.sreg n a
    let gives := fun (i : Instr) (v : Word) => Issues s n i → GivesScalar i t n s d v
    gives (.opAddk t n d a imm) (x + imm.signExtend 32) ∧
    gives (.opAndk t n d a imm) (x &&& imm.zeroExtend 32) ∧
    gives (.opOrk t n d a imm) (x ||| imm.zeroExtend 32) ∧
    gives (.opXork t n d a imm) (x ^^^ imm.zeroExtend 32) ∧
    gives (.opLtk t n d a imm) (if x.toInt < imm.toInt then 1 else 0) ∧
    gives (.opLtku t n d a imm) (if x.toNat < (imm.signExtend 32).toNat then 1 else 0) ∧
    gives (.opHik t n d a imm) (BitVec.ofNat 32 (imm.toNat * 65536 + x.toNat % 65536)) ∧
    gives (.opShk t n d a k m)
      (if k = 0 then x <<< m.toNat else if k = 1 then x >>> m.toNat
       else if k = 2 then x.sshiftRight m.toNat else x.rotateRight m.toNat)

/-- The vector operations of R306, lane by lane, and those between vector and scalar registers, each with its fn code in
format V. That the lanes of VABSD are signed is the model's reading (log entry 80). -/
def Obligations.VectorOperations : Prop :=
  ∀ (t n : Nat) (vd va vb : Fin 8) (r : Fin 32) (lane : Fin 8) (m : BitVec 4) (s : State),
    let c := s.dev.core n
    let x := fun l : Fin 8 => c.lane va l
    let y := fun l : Fin 8 => c.lane vb l
    let coded := fun (fn : Nat) (i : Instr) => ∃ w, coreWord i = some w ∧ fld w 26 6 = 0x32 ∧ fld w 0 6 = fn
    let lanes := fun (fn : Nat) (i : Instr) (f : Fin 8 → BitVec 16) =>
      coded fn i ∧ (Issues s n i → GivesVector i t n s vd f)
    let gives := fun (fn : Nat) (i : Instr) (v : Word) => coded fn i ∧ (Issues s n i → GivesScalar i t n s r v)
    let sat := fun v : Int => BitVec.ofInt 16 (max (-32768) (min 32767 v))
    lanes 0x00 (.opVadd t n vd va vb) (fun l => x l + y l) ∧
    lanes 0x01 (.opVsub t n vd va vb) (fun l => x l - y l) ∧
    lanes 0x02 (.opVadds t n vd va vb) (fun l => sat ((x l).toInt + (y l).toInt)) ∧
    lanes 0x03 (.opVsubs t n vd va vb) (fun l => sat ((x l).toInt - (y l).toInt)) ∧
    lanes 0x04 (.opVmul t n vd va vb) (fun l => x l * y l) ∧
    lanes 0x05 (.opVmulh t n vd va vb) (fun l => BitVec.ofInt 16 ((x l).toInt * (y l).toInt / 65536)) ∧
    lanes 0x06 (.opVmin t n vd va vb) (fun l => BitVec.ofInt 16 (min (x l).toInt (y l).toInt)) ∧
    lanes 0x07 (.opVmax t n vd va vb) (fun l => BitVec.ofInt 16 (max (x l).toInt (y l).toInt)) ∧
    lanes 0x08 (.opVand t n vd va vb) (fun l => x l &&& y l) ∧
    lanes 0x09 (.opVor t n vd va vb) (fun l => x l ||| y l) ∧
    lanes 0x0A (.opVxor t n vd va vb) (fun l => x l ^^^ y l) ∧
    lanes 0x0B (.opVsra t n vd va m) (fun l => (x l).sshiftRight m.toNat) ∧
    lanes 0x0C (.opVsll t n vd va m) (fun l => x l <<< m.toNat) ∧
    lanes 0x0D (.opVsplat t n vd r) (fun _ => (s.dev.sreg n r).setWidth 16) ∧
    lanes 0x10 (.opVins t n vd r lane) (fun l => if l = lane then (s.dev.sreg n r).setWidth 16 else c.lane vd l) ∧
    gives 0x0E (.opVsum t n va r)
      (BitVec.ofInt 32 ((x 0).toInt + (x 1).toInt + (x 2).toInt + (x 3).toInt + (x 4).toInt + (x 5).toInt + (x 6).toInt
        + (x 7).toInt)) ∧
    gives 0x0F (.opVext t n va r lane) ((x lane).signExtend 32) ∧
    lanes 0x11 (.opVabsd t n vd va vb) (fun l => BitVec.ofNat 16 (min 65535 ((x l).toInt - (y l).toInt).natAbs))

/-! ### Control cores: memory (R299 to R301, R311) -/

/-- Loads from local and shared memory (below the staging store), little-endian, at aligned addresses. -/
def Obligations.LoadsReadMemory : Prop :=
  ∀ (t n : Nat) (d a : Fin 32) (vd : Fin 8) (imm : BitVec 16) (s : State),
    let x := (s.dev.sreg n a + imm.signExtend 32).toNat
    let byte := fun i : Nat =>
      if x < 0x40000 then Sparse.get sramDefault (s.dev.core n).lmem (x + i)
      else Sparse.get sramDefault s.dev.cc.shared (x - 0x10000000 + i)
    let readable := fun len : Nat => x % len = 0 ∧ (x < 0x40000 ∨ (0x10000000 ≤ x ∧ x < 0x10300000))
    let half := fun i : Nat => byte (i + 1) ++ byte i
    let gives := fun (i : Instr) (len : Nat) (v : Word) => Issues s n i → readable len → GivesScalar i t n s d v
    gives (.opLdw t n d a imm false) 4 (byte 3 ++ byte 2 ++ byte 1 ++ byte 0) ∧
    gives (.opLdh t n d a imm false) 2 ((half 0).signExtend 32) ∧
    gives (.opLdhz t n d a imm false) 2 ((half 0).zeroExtend 32) ∧
    gives (.opLdb t n d a imm false) 1 ((byte 0).signExtend 32) ∧
    gives (.opLdbz t n d a imm false) 1 ((byte 0).zeroExtend 32) ∧
    (Issues s n (.opVld t n vd a imm false) → readable 16 →
      GivesVector (.opVld t n vd a imm false) t n s vd (fun l => half (2 * l)))

/-- Stores into local memory (data, or the code of a patched core) and into the core's own area of shared memory: the
bytes of the register at the address, little-endian, and no other byte of either memory. -/
def Obligations.StoresWriteMemory : Prop :=
  ∀ (t n : Nat) (x y : Fin 32) (vd : Fin 8) (imm : BitVec 16) (s : State),
    let a := (s.dev.sreg n y + imm.signExtend 32).toNat
    let word := s.dev.sreg n x
    let lane := fun l : Nat => (s.dev.core n).lane vd l
    let stores := fun (i : Instr) (len : Nat) (byte : Nat → Byte) =>
      Issues s n i → a % len = 0 →
      (a < 0x40000 → (s.dev.codeLen n ≤ a ∨ (s.dev.core n).csr.patched = true) →
        Does i s fun s' =>
          s'.pending = s.pending ∧ s'.eps = s.eps ∧ (∀ m, m ≠ n → s'.dev.core m = s.dev.core m) ∧
          s'.dev.cc.shared = s.dev.cc.shared ∧ s'.dev.dram = s.dev.dram ∧ s'.dev.regs = s.dev.regs ∧
          (s'.dev.core n).pc = (s.dev.core n).pc + 4 ∧ (s'.dev.core n).csr = (s.dev.core n).csr ∧
          VectorsStand n s s' ∧ ScalarsStand n s s' ∧
          ∀ k, Sparse.get sramDefault (s'.dev.core n).lmem k =
            if a ≤ k ∧ k < a + len then byte (k - a) else Sparse.get sramDefault (s.dev.core n).lmem k) ∧
      (0x10200000 + 0x20000 * n ≤ a → a < 0x10220000 + 0x20000 * n →
        Does i s fun s' =>
          s'.pending = s.pending ∧ s'.eps = s.eps ∧ (∀ m, m ≠ n → s'.dev.core m = s.dev.core m) ∧
          (s'.dev.core n).rest = (s.dev.core n).rest ∧ s'.dev.dram = s.dev.dram ∧ s'.dev.regs = s.dev.regs ∧
          (s'.dev.core n).pc = (s.dev.core n).pc + 4 ∧ VectorsStand n s s' ∧ ScalarsStand n s s' ∧
          ∀ k, Sparse.get sramDefault s'.dev.cc.shared k =
            if a - 0x10000000 ≤ k ∧ k < a - 0x10000000 + len then byte (k - (a - 0x10000000))
            else Sparse.get sramDefault s.dev.cc.shared k)
    stores (.opStw t n x y imm) 4 (fun k => word.extractLsb' (8 * k) 8) ∧
    stores (.opSth t n x y imm) 2 (fun k => word.extractLsb' (8 * k) 8) ∧
    stores (.opStb t n x y imm) 1 (fun k => word.extractLsb' (8 * k) 8) ∧
    stores (.opVst t n vd y imm) 16 (fun k => (lane (k / 2)).extractLsb' (8 * (k % 2)) 8)

/-- A core's loads and stores of DRAM through its window: within a CORE region the core may use, on a channel that is
READY, a read of a good burst brings the bytes of DRAM and a write puts them there. -/
def Obligations.CoresReachDram : Prop :=
  ∀ (t n : Nat) (d a x y : Fin 32) (imm : BitVec 16) (s : State) (q : Nat),
    let ld := (s.dev.sreg n a + imm.signExtend 32).toNat
    let st := (s.dev.sreg n y + imm.signExtend 32).toNat
    let reach := fun at_ : Nat =>
      at_ % 4 = 0 ∧ s.dev.place n at_ 4 = some (.dram q) ∧ s.dev.dcState (s.dev.channelOf q) = 2 ∧
        s.dev.dramBusy = false
    (Issues s n (.opLdw t n d a imm false) → reach ld → s.dev.readBad q 4 = false →
      Does (.opLdw t n d a imm false) s fun s' =>
        ScalarWritten n s s' d (BitVec.ofNat 32 (leNat (s.dev.dramRead q 4))) ∧ s'.dev.dram = s.dev.dram ∧
        (s'.dev.core n).pc = (s.dev.core n).pc + 4) ∧
    (Issues s n (.opStw t n x y imm) → reach st →
      Does (.opStw t n x y imm) s fun s' =>
        ScalarsStand n s s' ∧ (s'.dev.core n).pc = (s.dev.core n).pc + 4 ∧
        ∀ k, Sparse.get dramDefault s'.dev.dram k =
          if q ≤ k ∧ k < q + 4 then (s.dev.sreg n x).extractLsb' (8 * (k - q)) 8
          else Sparse.get dramDefault s.dev.dram k)

/-- Exceptions (R311, R312) enter the handler of the core: BREAK, a word that spells no instruction, LOOP with x = 0, an access that is
not aligned, one outside the core's map, a write to the code of a core that is not patched, a write to another core's
area, and a CSR number that is not listed or is read-only. Where no handler can take it, the core enters FAULT at the
faulting instruction. -/
def Obligations.ExceptionsAreTaken : Prop :=
  ∀ (t n : Nat) (d a : Fin 32) (imm : BitVec 16) (off : BitVec 21) (word : Word) (s : State),
    let ea := s.dev.sreg n a + imm.signExtend 32
    let takes := fun (i : Instr) (cause : Nat) (addr : Word) => TakesException i n s cause addr
    takes (.opBreak t n imm) 6 (imm.zeroExtend 32) ∧
    (decodeCore t n word = none → takes (.illegalInstruction t n word) 1 0) ∧
    takes (.opLoop t n 0 off) 1 0 ∧
    (ea.toNat % 4 ≠ 0 → takes (.opLdw t n d a imm false) 3 ea ∧ takes (.opStw t n d a imm) 3 ea) ∧
    (ea.toNat % 2 ≠ 0 → takes (.opLdh t n d a imm false) 3 ea ∧ takes (.opSth t n d a imm) 3 ea) ∧
    (ea.toNat % 16 ≠ 0 → ∀ v : Fin 8, takes (.opVld t n v a imm false) 3 ea ∧ takes (.opVst t n v a imm) 3 ea) ∧
    (s.dev.place n ea.toNat 1 = none → takes (.opLdb t n d a imm false) 4 ea ∧ takes (.opStb t n d a imm) 4 ea) ∧
    (ea.toNat < s.dev.codeLen n → ea.toNat < 0x40000 → (s.dev.core n).csr.patched = false →
      takes (.opStb t n d a imm) 4 ea) ∧
    (0x10000000 ≤ ea.toNat → ea.toNat < 0x10400000 →
      ¬(0x10200000 + 0x20000 * n ≤ ea.toNat ∧ ea.toNat < 0x10220000 + 0x20000 * n) →
      takes (.opStb t n d a imm) 4 ea) ∧
    (imm = 0x006 → takes (.opGetc t n d imm) 1 0) ∧
    (imm = 0x010 → takes (.opPutc t n a imm) 1 0 ∧ takes (.opSetc t n a imm) 1 0 ∧ takes (.opClrc t n a imm) 1 0) ∧
    (Issues s n (.opBreak t n imm) → ((s.dev.core n).csr.evec = 0 ∨ (s.dev.core n).csr.inexc = true) →
      Does (.opBreak t n imm) s fun s' =>
        (s'.dev.core n).st = .fault ∧ (s'.dev.core n).pc = (s.dev.core n).pc ∧ (s'.dev.core n).held = [] ∧
        (s'.dev.core n).csr = { (s.dev.core n).csr with cause := 6, eaddr := imm.zeroExtend 32 } ∧
        VectorsStand n s s' ∧ ScalarsStand n s s' ∧ ∀ m, m ≠ n → s'.dev.core m = s.dev.core m)

/-! ### Control cores: control flow, signals and control registers (R304, R308 to R310, R312) -/

/-- Branches and jumps (R304): where they go, and the link register CALL and CALLR write. -/
def Obligations.BranchesAndJumps : Prop :=
  ∀ (t n : Nat) (x a d : Fin 32) (off : BitVec 21) (far : BitVec 26) (imm : BitVec 16) (s : State),
    let pc := (s.dev.core n).pc
    let near := pc + 4 + 4 * off.signExtend 32
    let jump := pc + 4 + 4 * far.signExtend 32
    let goes := fun (i : Instr) (q : Word) => Issues s n i → GoesTo i t n s q
    goes (.opBrt t n x off) (if s.dev.sreg n x = 0 then pc + 4 else near) ∧
    goes (.opBrf t n x off) (if s.dev.sreg n x = 0 then near else pc + 4) ∧
    goes (.opGo t n far) jump ∧
    (Issues s n (.opLoop t n x off) → x ≠ 0 →
      Does (.opLoop t n x off) s fun s' =>
        CoreOnly t n s s' ∧ (s'.dev.core n).rest = (s.dev.core n).rest ∧ VectorsStand n s s' ∧
        ScalarWritten n s s' x (s.dev.sreg n x - 1) ∧
        (s'.dev.core n).pc = if s.dev.sreg n x = 1 then pc + 4 else near) ∧
    (Issues s n (.opCall t n far) →
      Does (.opCall t n far) s fun s' =>
        CoreOnly t n s s' ∧ (s'.dev.core n).rest = (s.dev.core n).rest ∧ VectorsStand n s s' ∧
        ScalarWritten n s s' 31 (pc + 4) ∧ (s'.dev.core n).pc = jump) ∧
    (Issues s n (.opCallr t n d a imm) →
      Does (.opCallr t n d a imm) s fun s' =>
        CoreOnly t n s s' ∧ (s'.dev.core n).rest = (s.dev.core n).rest ∧ VectorsStand n s s' ∧
        ScalarWritten n s s' d (pc + 4) ∧ (s'.dev.core n).pc = s.dev.sreg n a + imm.signExtend 32)

/-- WAIT, NOTIFY, SYNC and HRET (R301, R304, R309, R312), and the two that take an exception of their own: BREAK enters
the handler, and so does a word that spells nothing. -/
def Obligations.SignalsAndReturns : Prop :=
  ∀ (t n : Nat) (m : Fin 8) (imm : BitVec 16) (word : Word) (s : State),
    let c := s.dev.core n
    GoesOn t n s (.opSync t n) ∧
    (Issues s n (.opWait t n) →
      Does (.opWait t n) s fun s' =>
        (s'.dev.core n).st = (if c.csr.sig &&& c.csr.sigen = 0 then .waiting else .running) ∧
        (s'.dev.core n).pc = c.pc + 4 ∧ (s'.dev.core n).csr = c.csr ∧ VectorsStand n s s' ∧ ScalarsStand n s s' ∧
        ∀ k, k ≠ n → s'.dev.core k = s.dev.core k) ∧
    (Issues s n (.opNotify t n m) →
      Does (.opNotify t n m) s fun s' =>
        (s'.dev.core m).csr = { (s.dev.core m).csr with sig := (s.dev.core m).csr.sig ||| 0x40 } ∧
        (s'.dev.core n).pc = c.pc + 4 ∧ VectorsStand n s s' ∧ ScalarsStand n s s' ∧
        ∀ k, k ≠ n → k ≠ m → s'.dev.core k = s.dev.core k) ∧
    (Issues s n (.opHret t n) →
      Does (.opHret t n) s fun s' =>
        CoreOnly t n s s' ∧ (s'.dev.core n).pc = c.csr.epc ∧ (s'.dev.core n).csr = { c.csr with inexc := false } ∧
        (s'.dev.core n).st = .running ∧ (s'.dev.core n).lmem = c.lmem ∧ VectorsStand n s s' ∧ ScalarsStand n s s') ∧
    TakesException (.opBreak t n imm) n s 6 (imm.zeroExtend 32) ∧
    (decodeCore t n word = none → TakesException (.illegalInstruction t n word) n s 1 0)

/-- GETC reads what a CSR shows (R308); PUTC, SETC and CLRC write the plain RW registers by their three rules, clear SIG
where a bit is written, and restart the watchdog. -/
def Obligations.ControlRegisters : Prop :=
  ∀ (t n : Nat) (d a : Fin 32) (k : BitVec 16) (s : State),
    let x := s.dev.sreg n a
    let old := (s.dev.csrRead n k.toNat).getD 0
    let plain := k.toNat ∈ [0x002, 0x003, 0x009, 0x028, 0x030, 0x031, 0x035]
    let shows := fun (i : Instr) (num : Nat) (v : Word) =>
      Issues s n i →
        Does i s fun s' =>
          CoreOnly t n s s' ∧ (s'.dev.core n).pc = (s.dev.core n).pc + 4 ∧ VectorsStand n s s' ∧ ScalarsStand n s s' ∧
          s'.dev.csrRead n num = some v ∧
          ∀ j, j ≠ num → j ≠ 0x010 → j ≠ 0x011 → s'.dev.csrRead n j = s.dev.csrRead n j
    (∀ v, s.dev.csrRead n k.toNat = some v → k.toNat ≠ 0x010 → k.toNat ≠ 0x011 → Issues s n (.opGetc t n d k) →
      GivesScalar (.opGetc t n d k) t n s d v) ∧
    (plain → shows (.opPutc t n a k) k.toNat x) ∧
    (plain → shows (.opSetc t n a k) k.toNat (old ||| x)) ∧
    (plain → shows (.opClrc t n a k) k.toNat (old &&& ~~~x)) ∧
    (k = 0x008 → shows (.opPutc t n a k) 0x008 ((s.dev.core n).csr.sig &&& ~~~x) ∧
      shows (.opSetc t n a k) 0x008 ((s.dev.core n).csr.sig &&& ~~~x) ∧
      shows (.opClrc t n a k) 0x008 ((s.dev.core n).csr.sig &&& ~~~x)) ∧
    (k = 0x014 → shows (.opPutc t n a k) 0x014 (x &&& 0xFFFF)) ∧
    (k = 0x022 → shows (.opPutc t n a k) 0x022 (x &&& 0xFF)) ∧
    (k = 0x015 → shows (.opPutc t n a k) 0x015 0)

/-- The timers and the commands of a core's control block (R309, R310, R313, R315, R331): TIMER_COMPARE, WATCHDOG_EXPIRE,
WAIT_COMPLETE, HALT, RESUME, START, the mailbox and a patch. -/
def Obligations.CoreControl : Prop :=
  ∀ (t n : Nat) (w : Writer) (v : Word) (s : State),
    let c := s.dev.core n
    let d := s.dev.at t
    let others := fun s' : State => ∀ k, k ≠ n → s'.dev.core k = s.dev.core k
    s.dev.inReset = false → n < 8 →
    (c.st = .running ∨ c.st = .waiting → c.csr.timerAt ≤ d.timerUs →
      Does (.timerCompare t n) s fun s' =>
        flag (s'.dev.core n).csr.sig 4 = true ∧ (s'.dev.core n).st = c.st ∧ (s'.dev.core n).pc = c.pc ∧ others s') ∧
    (c.st = .running ∨ c.st = .waiting → fld c.csr.wdog 0 16 ≠ 0 → c.kickAt + fld c.csr.wdog 0 16 * 1000000000 ≤ d.now →
      c.csr.evec ≠ 0 → c.csr.inexc = false →
      Does (.watchdogExpire t n) s fun s' =>
        (s'.dev.core n).st = .running ∧ (s'.dev.core n).pc = c.csr.evec ∧
        (s'.dev.core n).csr = { c.csr with epc := c.pc, cause := 7, eaddr := 0, inexc := true } ∧ others s') ∧
    (c.st = .waiting → c.csr.sig &&& c.csr.sigen ≠ 0 →
      Does (.waitComplete t n) s fun s' =>
        (s'.dev.core n).st = .running ∧ (s'.dev.core n).pc = c.pc ∧ (s'.dev.core n).csr = c.csr ∧ others s') ∧
    (s.dev.takes w (0x0E0000 + 0x40 * n) = true →
      ((c.st = .running ∨ c.st = .waiting) → v = 2 →
        Does (.ccHalt t w n v) s fun s' =>
          (s'.dev.core n).st = .halted ∧ (s'.dev.core n).held = [] ∧ (s'.dev.core n).pc = c.pc ∧
          (s'.dev.core n).csr = c.csr ∧ ScalarsStand n s s' ∧ others s') ∧
      (c.st = .halted → v = 4 →
        Does (.ccResume t w n v) s fun s' =>
          (s'.dev.core n).st = (if c.wasWaiting then .waiting else .running) ∧ (s'.dev.core n).pc = c.pc ∧
          (s'.dev.core n).csr = c.csr ∧ ScalarsStand n s s' ∧ VectorsStand n s s' ∧ others s') ∧
      (∀ f k, s.dev.forme = some f → f.core n = some k → k.role ≠ 5 → c.st ≠ .idle → c.csr.cause ≠ 5 → v = 1 →
        Does (.ccStart t w n v) s fun s' =>
          (s'.dev.core n).st = .running ∧ (s'.dev.core n).pc = BitVec.ofNat 32 k.entry ∧
          (∀ r : Fin 32, s'.dev.sreg n r = 0) ∧ (∀ r l : Fin 8, (s'.dev.core n).lane r l = 0) ∧
          (s'.dev.core n).lmem = c.lmem ∧ (s'.dev.core n).csr.evec = 0 ∧ (s'.dev.core n).csr.inexc = false ∧
          (s'.dev.core n).csr.sigen = 0 ∧ (s'.dev.core n).held = [] ∧ others s')) ∧
    (s.dev.takes w (0x0E0014 + 0x40 * n) = true →
      Does (.ccMailIn t w n v) s fun s' =>
        (s'.dev.core n).csr.mailIn = v ∧ flag (s'.dev.core n).csr.sig 5 = true ∧ (s'.dev.core n).pc = c.pc ∧ others s') ∧
    (∀ k, k < 0x10000 → 2 ≤ n → s.dev.fullChecking = false → s.dev.byClass w 8 n = .accept → s.dev.standby = false →
      (c.st = .halted ∨ c.st = .fault) → s.dev.twinned = false →
        Does (.corePatchWrite t w (0xC00000 + 0x40000 * n + 4 * k) v) s fun s' =>
          (s'.dev.core n).csr = { c.csr with patched := true } ∧ (s'.dev.core n).pc = c.pc ∧ others s' ∧
          ∀ j, Sparse.get sramDefault (s'.dev.core n).lmem j =
            if 4 * k ≤ j ∧ j < 4 * k + 4 then v.extractLsb' (8 * (j - 4 * k)) 8 else Sparse.get sramDefault c.lmem j)

/-! ### Reset (R464 to R466, R474) -/

/-- What every reset leaves: the internal reset asserted with its cause, every register but SYS_STATUS at its reset value,
no forme, no job, memories and queues clear, fuses and flash kept, the endpoints and the queue as they were. And what its
release leaves, and what an endpoint reset, a link-down or a Function Level Reset does to the context bound to the PCIe
port: its event and statistics enables fall, no other context's enables change, and neither a job nor a forme nor the
cores are touched. -/
def Obligations.ResetsAndReleases : Prop :=
  ∀ (t lowNs mv n h g : Nat) (down : Bool) (sup : BrownSupply) (w : Writer) (v : Word) (s : State),
    let cleared := fun (cause : Nat) (clock : Clock) (s' : State) =>
      s'.pending = s.pending ∧ s'.eps = s.eps ∧ s'.dev.inReset = true ∧ fld (s'.dev.reg 0x000008) 0 8 = cause ∧
      (∀ off, off ≠ 0x000008 → s'.dev.reg off = regDefault off) ∧ s'.dev.clock = clock ∧
      s'.dev.fm.forme = none ∧ s'.dev.fm.flash = s.dev.fm.flash ∧ s'.dev.fm.keys = s.dev.fm.keys ∧
      s'.dev.job.phase = .idle ∧ s'.dev.dram = [] ∧ s'.dev.ups = [] ∧ s'.dev.perf.cnt = [] ∧ s'.dev.cc.cores = [] ∧
      s'.dev.fir.pos = 0 ∧ s'.dev.enc.e0.k = 0 ∧ s'.dev.enc.e1.k = 0
    let untouched := fun s' : State => s' = { s with dev := { s.dev with now := max s.dev.now t } }
    Does (.powerOnReset t) s (cleared 0 { val := 0, since := max s.dev.now t, y := 0, epoch := 0 }) ∧
    (s.dev.inReset = false → 1000 ≤ lowNs → Does (.resetNAssert t lowNs) s (cleared 1 s.dev.clock)) ∧
    (lowNs < 200 → Does (.resetNAssert t lowNs) s untouched) ∧
    (s.dev.inReset = false → s.dev.takes w 0x000004 = true → fld v 16 16 = 0x5A17 → flag v 0 = true →
      Does (.sysReset t w v) s (cleared 2 s.dev.clock)) ∧
    (s.dev.inReset = false → s.dev.takes w 0x000004 = true → fld v 16 16 ≠ 0x5A17 → Does (.sysReset t w v) s untouched) ∧
    (s.dev.inReset = false → mv < (match sup with | .core => 580 | .sram => 720 | .ser => 810) →
      Does (.brownout t sup mv) s (cleared 3 s.dev.clock)) ∧
    ((match sup with | .core => 580 | .sram => 720 | .ser => 810) ≤ mv → Does (.brownout t sup mv) s untouched) ∧
    (s.dev.inReset = true →
      Does (.resetRelease t) s fun s' =>
        s'.dev.inReset = false ∧ s'.dev.fm = s.dev.fm ∧ s'.dev.reg 0x000008 = s.dev.reg 0x000008 ∧
        .vset 800 ∈ s'.dev.out ∧ s'.eps = s.eps ∧ s'.pending = s.pending) ∧
    (s.dev.inReset = false → n < 2 → h < 4 → g < 4 → s.dev.boundTo h n = true →
      let after := fun s' : State =>
        fld (s'.dev.regOf h 0x010004) 0 2 = 0 ∧
        (s.dev.boundTo g n = false → s'.dev.regOf g 0x010004 = s.dev.regOf g 0x010004) ∧
        s'.dev.fm = s.dev.fm ∧ s'.dev.job = s.dev.job ∧ s'.dev.fir = s.dev.fir ∧ s'.dev.cc = s.dev.cc ∧
        s'.eps = s.eps ∧ s'.pending = s.pending
      Does (.perstAssert t n) s after ∧ Does (.functionLevelReset t n down) s after)

/-! ### Formes and flash (R57 to R66) -/

/-- Loads begin: the boot load once and only with no forme, a FULL load where R60 permits it, which discards the forme
in force, and a LIVE load, which leaves it; a FULL load that is not permitted is refused and changes nothing else.
That the boot load begins once is the model's reading (log entry 44). -/
def Obligations.LoadsBegin : Prop :=
  ∀ (t : Nat) (w : Writer) (v : Word) (s : State),
    let src := fld v 4 4
    let len := (s.dev.reg 0x030010).toNat
    let addr := (s.dev.reg 0x030008).toNat + (s.dev.reg 0x03000C).toNat * 4294967296
    s.dev.inReset = false → s.dev.fm.load = none →
    (s.dev.fm.boot = true → s.dev.forme = none →
      Does (.bootLoad t) s fun s' =>
        s'.dev.fm.load = some { live := false, src := 3, ctx := 0, addr := 0, len := 0, atLine := false } ∧
        s'.dev.fm.boot = false ∧ fld (s'.dev.reg 0x030004) 0 2 = 1 ∧ flag (s'.dev.reg 0x030004) 31 = false) ∧
    (s.dev.takes w 0x030000 = true → flag v 0 = true → flag v 3 = false → src < 2 → s.dev.fullAllowed = true →
      Does (.fullLoad t w v) s fun s' =>
        s'.dev.fm.load = some { live := false, src := src, ctx := s.dev.actsFor w, addr := addr, len := len, atLine := flag v 2 } ∧
        s'.dev.forme = none ∧ s'.dev.job.phase = .idle ∧ s'.dev.ups = [] ∧
        fld (s'.dev.reg 0x030004) 0 2 = 1 ∧ flag (s'.dev.reg 0x030004) 31 = false) ∧
    (s.dev.takes w 0x030000 = true → flag v 0 = true → flag v 3 = false → src < 2 → s.dev.fullAllowed = false →
      Does (.fullLoad t w v) s fun s' =>
        s'.dev.fm = s.dev.fm ∧ s'.dev.job = s.dev.job ∧ s'.dev.ups = s.dev.ups ∧ flag (s'.dev.reg 0x030004) 31 = true ∧
        fld (s'.dev.reg 0x030004) 23 8 = (fld (s.dev.reg 0x030004) 23 8 + 1) % 256 ∧
        fld (s'.dev.reg 0x030004) 16 7 = 0x7E ∧ fld (s'.dev.reg 0x030004) 8 8 = 0x0E ∧
        fld (s'.dev.reg 0x030004) 0 2 = fld (s.dev.reg 0x030004) 0 2) ∧
    (s.dev.takes w 0x030000 = true → flag v 0 = true → flag v 3 = true → addr % 64 = 0 → len % 64 = 0 →
      s.dev.liveAllowed = true →
      Does (.liveLoad t w v) s fun s' =>
        s'.dev.fm.load = some { live := true, src := 2, ctx := s.dev.actsFor w, addr := addr, len := len, atLine := flag v 2 } ∧
        s'.dev.forme = s.dev.forme ∧ s'.dev.job = s.dev.job ∧ fld (s'.dev.reg 0x030004) 0 2 = 1)

/-- A load ends: a FULL image from a slot that passes every check comes into force; one that fails leaves its reason and
section and no forme; a host that does not respond ends the load with reason 0x10 and leaves what was in force. -/
def Obligations.LoadsEnd : Prop :=
  ∀ (t : Nat) (l : LoadJob) (bytes : Option (List Byte)) (s : State),
    s.dev.inReset = false → s.dev.fm.load = some l →
    let shows := fun (s' : State) (reason sect state : Nat) =>
      s'.dev.fm.load = none ∧ flag (s'.dev.reg 0x030004) 31 = true ∧ fld (s'.dev.reg 0x030004) 16 7 = sect ∧
      fld (s'.dev.reg 0x030004) 8 8 = reason ∧ fld (s'.dev.reg 0x030004) 0 2 = state
    (∀ f, l.src < 2 → checkFull s.dev.fm.keys (s.dev.slotImage l.src) = .ok f →
      Does (.loadEnd t bytes) s fun s' =>
        shows s' 0 0 2 ∧ s'.dev = ((s.dev.at t).takeForme f (s.dev.slotImage l.src) l.src).loadResult 0 0 2) ∧
    (∀ reason sect, l.src < 2 → reason < 256 → sect < 128 →
      checkFull s.dev.fm.keys (s.dev.slotImage l.src) = .error (reason, sect) →
      Does (.loadEnd t bytes) s fun s' =>
        shows s' reason sect 0 ∧ s'.dev.forme = s.dev.forme ∧ s'.dev.job = s.dev.job ∧ s'.dev.cc = s.dev.cc) ∧
    (l.src = 2 → bytes = none →
      Does (.loadEnd t bytes) s fun s' =>
        shows s' 0x10 0x7E (if s.dev.forme.isSome then 2 else 0) ∧ s'.dev.forme = s.dev.forme ∧ s'.dev.job = s.dev.job)

/-- The flash writer: a GO it can take starts the request; the end of it leaves what the target read back as in flash,
every other byte outside the erased sectors as it was, and DONE or VERIFY in the result; a source that does not
respond before the first erase ends with BUS_ERROR and leaves the flash alone. The order of its judgements and what
the target reads back as are the model's (log entry 43). -/
def Obligations.FlashWriter : Prop :=
  ∀ (t steps : Nat) (w : Writer) (v : Word) (j : FlashJob) (img back : List Byte) (s : State),
    let tgt := fld v 4 2
    let len := (s.dev.reg 0x030080).toNat
    let addr := (s.dev.reg 0x030078).toNat + (s.dev.reg 0x03007C).toNat * 4294967296
    s.dev.inReset = false →
    (s.dev.takes w 0x030070 = true → flag v 0 = true → tgt < 2 → s.dev.fm.flashJob = none → s.dev.nz.save = none →
      s.dev.fm.load = none → addr % 64 = 0 → len % 64 = 0 → 128 ≤ len → len ≤ 12582912 →
      (s.dev.forme = none ∨ s.dev.fm.slot ≠ tgt) → s.dev.flashWindow = true →
      Does (.flashWriteGo t w v) s fun s' =>
        s'.dev.fm.flashJob = some { target := tgt, ctx := s.dev.actsFor w, addr := addr, len := len, halted := false } ∧
        s'.dev.fm.flash = s.dev.fm.flash ∧ s'.dev.fm.forme = s.dev.fm.forme) ∧
    (s.dev.fm.flashJob = some j → j.halted = false → j.target < 2 → img.length = j.len → back.length = j.len → s.dev.flashWindow = true →
      s.dev.nz.saveWait = false →
      Does (.flashWriteEnd t (some img) steps back) s fun s' =>
        s'.dev.fm.flashJob = none ∧ s'.dev.fm.forme = s.dev.fm.forme ∧
        s'.dev.flashRead (j.target * 0x1000000) j.len = back ∧
        (∀ a, (a < j.target * 0x1000000 ∨ j.target * 0x1000000 + (j.len + 4095) / 4096 * 4096 ≤ a) →
          Sparse.get flashDefault s'.dev.fm.flash a = Sparse.get flashDefault s.dev.fm.flash a) ∧
        fld (s'.dev.reg 0x030074) 20 3 = (if crc32c back = crc32c img then 0 else 3)) ∧
    (s.dev.fm.flashJob = some j → j.halted = false → s.dev.nz.saveWait = false →
      Does (.flashWriteEnd t none 0 back) s fun s' =>
        s'.dev.fm.flashJob = none ∧ s'.dev.fm.flash = s.dev.fm.flash ∧ fld (s'.dev.reg 0x030074) 20 3 = 2)

/-! ### The job store (R71 to R81) -/

/-- A store opens with the values its registers hold at OPEN; a strip that waits whole is stored coded or raw, whichever
R75 and R76 say, the slot moves on to the next strip at the next multiple of 64 bytes; an uncorrectable read ends the store
FULL. -/
def Obligations.StoresOpenAndFill : Prop :=
  ∀ (t slot : Nat) (w : Writer) (v : Word) (f : Forme) (p : PlaneCfg) (x : StoreSlot) (coded : List Byte) (s : State),
    let reg := fun o => s.dev.reg (0x050000 + 0x40 * slot + o)
    let status := fun s' : State => s'.dev.reg (0x050010 + 0x40 * slot)
    let others := fun s' : State =>
      (∀ k, k ≠ slot → s'.dev.store k = s.dev.store k) ∧ s'.dev.job = s.dev.job ∧ s'.dev.fm = s.dev.fm ∧ s'.eps = s.eps
    s.dev.inReset = false → slot < 8 → s.dev.forme = some f →
    (s.dev.takes w (0x050000 + 0x40 * slot) = true → flag v 0 = true → f.plane (fld v 4 3) = some p →
      s.dev.owner 0 (fld v 4 3) = some (slot / 2) → fld (reg 0x10) 0 2 ≠ 1 →
      Does (.cmpOpen t w slot v) s fun s' =>
        s'.dev.store slot = some
          { plane := fld v 4 3, dest := (reg 0x4).toNat, limit := (reg 0x8).toNat, lines := (reg 0xC).toNat, wc := f.wc p,
            kind := if p.input = 3 then 1 else 0, bits := if p.input = 3 then p.dropBits else 0, raw := p.codec == 1,
            taken := 0, buf := [], strip := 0, off := 64 + (4 * (((reg 0xC).toNat + 31) / 32) + 63) / 64 * 64,
            index := [], prev := [], window := [] } ∧
        fld (status s') 0 2 = 1 ∧ flag (status s') 31 = false ∧ others s') ∧
    (s.dev.store slot = some x → s.dev.stripWaits slot = true → s.dev.dramBusy = false →
      (Does (.stripStore t slot coded true) s fun s' =>
        fld (status s') 0 2 = 3 ∧ flag (status s') 31 = true ∧ s'.dev.store slot = some x ∧ s'.dev.dram = s.dev.dram ∧
        others s') ∧
      (let n := min 32 (x.lines - 32 * x.strip)
       let raw := x.buf.take (n * x.wc)
       let restart := x.strip % 16 == 0
       let form := x.form raw coded (if restart then List.replicate x.wc 0 else x.prev) (if restart then freshWindow else x.window)
       let size := (16 + (if form = .coded then coded else raw).length + 63) / 64 * 64
       x.off + size ≤ x.limit * 64 → x.strip + 1 < (x.lines + 31) / 32 →
       s.dev.overImage f x.plane (x.dest * 64 + x.off) (x.dest * 64 + x.off + size) = false →
       Does (.stripStore t slot coded false) s fun s' =>
         others s' ∧
         ∃ y, s'.dev.store slot = some y ∧ y.strip = x.strip + 1 ∧ y.off = x.off + size ∧ y.buf = x.buf.drop (n * x.wc) ∧
           y.index = x.index ++ [x.off / 64] ∧ y.plane = x.plane ∧ y.dest = x.dest ∧ y.limit = x.limit ∧ y.lines = x.lines))

/-! ### Jobs (R82 to R91) -/

/-- An entry is posted; a job starts at its position and line; STOP ends it after the last committed repeat; the
commit line of a repeat that is not there makes the queue run dry; the boundary makes the job IDLE with every entry
gone. Where each head begins a job is the model's reading (log entry 7). -/
def Obligations.JobsRun : Prop :=
  ∀ (t c : Nat) (w : Writer) (v : Word) (f : Forme) (s : State),
    let q := s.dev.queue c
    let j := s.dev.job
    let img := s.dev.reg (0x040100 + 0x20 * c)
    let gut := s.dev.reg (0x040104 + 0x20 * c)
    let lo := s.dev.reg 0x040008
    let hi := s.dev.reg 0x04000C
    let pos := (s.dev.at t).p
    let p0 : Int := if flag v 4 then pos + 64 * lo.toNat else signed 64 (lo.toNat + hi.toNat * 4294967296)
    s.dev.inReset = false → s.dev.forme = some f →
    (c < 8 → s.dev.takes w (0x040108 + 0x20 * c) = true → flag v 0 = true → q.free ≠ 0 → j.phase = .idle →
      Does (.jqPost t w c v) s fun s' =>
        (s'.dev.queue c).posted = q.posted + 1 ∧
        (∃ e : QEntry, (s'.dev.queue c).entries = q.entries ++ [e] ∧ e.image = img.toNat ∧ e.gutter = fld gut 0 12 ∧
          e.last = flag gut 16) ∧
        (∀ k, k ≠ c → s'.dev.queue k = s.dev.queue k) ∧ s'.dev.job.phase = .idle ∧ s'.dev.fm = s.dev.fm) ∧
    (s.dev.takes w 0x040000 = true → flag v 0 = true → flag v 1 = false → j.phase = .idle →
      (∀ k ∈ f.planesInUse, (s.dev.queue k).entries ≠ []) →
      (∀ (i k m : Nat) (e g : QEntry), k ∈ f.planesInUse → m ∈ f.planesInUse →
        (s.dev.queue k).entries[i]? = some e → (s.dev.queue m).entries[i]? = some g →
          e.gutter = g.gutter ∧
          s.dev.imageLines f k e.image * (match f.plane k with | some p => f.fy p | none => 0) =
            s.dev.imageLines f m g.image * (match f.plane m with | some p => f.fy p | none => 0)) →
      Does (.jobStart t w v) s fun s' =>
        s'.dev.job.phase = .running ∧ s'.dev.job.p0 = p0 ∧ s'.dev.job.first ≤ 0 ∧ (∀ h ∈ f.heads, (s'.dev.headFire h.slot).lines = []) ∧
        s'.dev.fm = s.dev.fm ∧ s'.eps = s.eps) ∧
    (s.dev.takes w 0x040000 = true → flag v 0 = false → flag v 1 = true → j.phase = .running → j.stop = false →
      j.dryFrom = none →
      Does (.jobStop t w v) s fun s' =>
        s'.dev.job.stop = true ∧ s'.dev.job.endLine = some (j.nextB - 1) ∧ s'.dev.job.reps = j.reps ∧
        (s'.dev.job.phase = .running ∨ s'.dev.job.phase = .draining) ∧
        ∀ k ∈ f.planesInUse, (s'.dev.queue k).entries = (s.dev.queue k).entries.take j.reps.length) ∧
    (j.phase = .running → j.stop = false → j.dryFrom = none → j.nextB - 256 ≤ s.dev.upLine f + 1 →
      Does (.commitLinePass t) s fun s' =>
        s' = { s with dev := { s.dev with now := max s.dev.now t, job := { j with dryFrom := some j.nextB } } }) ∧
    (s.dev.atBoundary f = true →
      Does (.jobBoundary t) s fun s' =>
        s'.dev.job.phase = .idle ∧ s'.dev.job.reps = [] ∧ s'.dev.job.queues = [] ∧ s'.dev.job.stop = false ∧
        s'.dev.job.endLine = none ∧ s'.dev.swath = [])

/-- The swath fetch ports (R89, R90): a burst adds to what the port holds, up to its 256 KiB and the end of the image; a
strip that has come whole is decoded, its lines join those to be screened, and the port goes on to the next strip, or to the
next repeat's image after the last. -/
def Obligations.SwathsFetchAndDecode : Prop :=
  ∀ (t c bytes img n : Nat) (f : Forme) (pc : PlaneCfg) (s : State),
    let p := s.dev.port c
    let base := s.dev.jobBase f c + img * 64
    let off := u32 (s.dev.dramRead (base + 64 + 4 * p.strip) 4) 0 * 64
    let stop := off + (16 + u32 (s.dev.dramRead (base + off) 16) 12 + 63) / 64 * 64
    s.dev.inReset = false → c < 8 → s.dev.forme = some f → s.dev.portImage f c = some (img, n) →
    (s.dev.job.phase ≠ .idle → p.held < 196608 → p.fetched < s.dev.imageSpan f c img → 0 < bytes →
      s.dev.dramBusy = false →
      Does (.fetchBurstReturn t c bytes false) s fun s' =>
        let k := min bytes (min (262144 - p.held) (s.dev.imageSpan f c img - p.fetched))
        (s'.dev.port c).held = p.held + k ∧ (s'.dev.port c).fetched = p.fetched + k ∧ (s'.dev.port c).lines = p.lines ∧
        (∀ j, j ≠ c → s'.dev.port j = s.dev.port j) ∧ s'.dev.job = s.dev.job ∧ s'.dev.dram = s.dev.dram) ∧
    (f.plane c = some pc → p.strip < n → stop ≤ p.fetched →
      Does (.stripDecode t c) s fun s' =>
        (s'.dev.port c).strip = (if p.strip + 1 = n then 0 else p.strip + 1) ∧
        (s'.dev.port c).rep = (if p.strip + 1 = n then p.rep + 1 else p.rep) ∧
        (∃ ls, (s'.dev.port c).lines = p.lines ++ ls) ∧
        (∀ j, j ≠ c → s'.dev.port j = s.dev.port j) ∧ s'.dev.job = s.dev.job ∧ s'.dev.dram = s.dev.dram)

/-- What a body of tokens decodes to is what was coded, for the bodies a literal coder makes of any residuals (R74); and a
strip stored raw whose bytes match their CRC comes out of the decompressor line for line (R71, R90). -/
def Obligations.StripsComeOutWhole : Prop :=
  (∀ (rs window : List Byte) (fuel : Nat),
    rs.length ≤ fuel →
      decodeTokens fuel rs.length window (rs.flatMap (fun b => [0, b])) = some (rs.reverse ++ window)) ∧
  ∀ (t c img n : Nat) (f : Forme) (pc : PlaneCfg) (s : State),
    let p := s.dev.port c
    let base := s.dev.jobBase f c + img * 64
    let off := u32 (s.dev.dramRead (base + 64 + 4 * p.strip) 4) 0 * 64
    let head := s.dev.dramRead (base + off) 16
    let body := s.dev.dramRead (base + off + 16) (u32 head 12)
    let lines := min 32 (s.dev.imageLines f c img - 32 * p.strip)
    s.dev.inReset = false → c < 8 → s.dev.forme = some f → s.dev.portImage f c = some (img, n) → f.plane c = some pc →
    0 < f.wc pc → p.strip < n → off + (16 + u32 head 12 + 63) / 64 * 64 ≤ p.fetched → p.badBursts = [] → p.skip = 0 →
    bit (u8 head 6) 0 = true → u32 head 12 = lines * f.wc pc → (crc32c body).toNat = u32 head 8 →
      Does (.stripDecode t c) s fun s' =>
        ∃ ls, (s'.dev.port c).lines = p.lines ++ ls ∧ ls.length = lines ∧ (∀ l ∈ ls, l.length = f.wc pc) ∧ ls.flatten = body

/-! ### Preparing, screening and seams (R27, R106, R119, R120) -/

/-- A row that may begin its next line does: the row has prepared it, and every head of the row that has not come past it
holds the line in its lead buffer. A plane that has its line's data screens it and moves on. SCR_PEEK reads the matrix store: the entry, with VALID. A row
that reaches a seam applies every update bound at or before its line (R27), and an update every row and plane has passed
leaves; with nothing waiting for a seam, nothing else is bound. -/
def Obligations.LinesArePreparedAndScreened : Prop :=
  ∀ (t row c : Nat) (w : Writer) (v : Word) (f : Forme) (p : PlaneCfg) (x : Int) (s : State),
    let line := s.dev.nextLine f row
    s.dev.inReset = false → s.dev.forme = some f →
    (row < 16 → (f.plane (row / 2)).isSome = true → s.dev.mayPrepare f row line = true →
      Does (.linePrepare t row none) s fun s' =>
        s'.dev.prep row = line ∧
        (∀ h ∈ f.rowHeads row, (s.dev.headFire h.slot).done < line → ∃ l ∈ (s'.dev.headFire h.slot).lines, l.s = line) ∧
        s'.dev.fm.forme = some f ∧ s'.eps = s.eps) ∧
    (c < 8 → f.plane c = some p → s.dev.screenNext c = some x → s.dev.printing = true → s.dev.printPath = true →
      s.dev.paced p x = true → ((s.dev.at t).screenLine f p x none).isSome = true →
      Does (.planeLineScreen t c none) s fun s' =>
        (s'.dev.plane c).next = x + 1 ∧ (s'.dev.plane c).carryLine = x + 1 ∧ s'.dev.fm.forme = some f ∧ s'.eps = s.eps) ∧
    (s.dev.takes w 0x060008 = true → fld v 0 21 ≤ 1572863 →
      Does (.scrPeek t w v) s fun s' =>
        fld (s'.dev.reg 0x06000C) 0 16 = (Sparse.get (fun _ => 0) s.dev.scr.matrix (fld v 0 21)).toNat ∧
        flag (s'.dev.reg 0x06000C) 31 = true ∧ s'.dev.scr = s.dev.scr ∧
        ∀ off, off ≠ 0x060008 → off ≠ 0x06000C → s'.dev.reg off = s.dev.reg off) ∧
    (row < 16 → s.dev.mayPrepare f row line = true → (∀ u ∈ s.dev.ups, u.seam.isSome = true) →
      Does (.seamApply t row) s fun s' =>
        s'.dev.job.reps = s.dev.job.reps ∧ s'.dev.prep row = s.dev.prep row ∧
        (∀ u ∈ s'.dev.ups, ∀ y, u.seam.bind s'.dev.job.seamLine = some y → row ∈ u.rows → y ≤ line → row ∈ u.applied) ∧
        ∀ u ∈ s'.dev.ups, u.spent = false)

/-! ### Nozzle compensation (R121 to R153) -/

/-- The host buffer of nozzle records: appending, overflow, discarding, and a submission of one record with no job running,
which takes effect at once in the field its SEL names and in no other word; one that finds the store full stages nothing. -/
def Obligations.NozzleRecordsAreStaged : Prop :=
  ∀ (t : Nat) (w : Writer) (v lo hi : Word) (f : Forme) (h : HeadCfg) (s : State),
    let buf := s.dev.nz.hbuf
    let idx := lo.toNat % 0x200000
    s.dev.inReset = false →
    (s.dev.takes w 0x070004 = true → buf.length < 4096 →
      Does (.nzHrecAppend t w v) s fun s' =>
        s'.dev.nz.hbuf = buf ++ [(s.dev.reg 0x070000, v)] ∧ fld (s'.dev.reg 0x070010) 0 13 = buf.length + 1 ∧
        s'.dev.nz.hbufOvf = s.dev.nz.hbufOvf ∧ s'.dev.nz.table = s.dev.nz.table ∧ s'.dev.ups = s.dev.ups) ∧
    (s.dev.takes w 0x070004 = true → 4096 ≤ buf.length →
      Does (.nzHrecAppend t w v) s fun s' => s'.dev.nz.hbuf = buf ∧ s'.dev.nz.hbufOvf = true) ∧
    (s.dev.takes w 0x070008 = true → flag v 0 = false → flag v 1 = true →
      Does (.nzDiscard t w v) s fun s' =>
        s'.dev.nz.hbuf = [] ∧ s'.dev.nz.hbufOvf = false ∧ fld (s'.dev.reg 0x070010) 0 13 = 0 ∧
        s'.dev.nz.table = s.dev.nz.table ∧ s'.dev.ups = s.dev.ups) ∧
    (s.dev.takes w 0x070008 = true → flag v 0 = true → flag v 1 = false → s.dev.forme = some f → buf = [(lo, hi)] →
      s.dev.nz.hbufOvf = false → idx < 0x100000 → f.head (idx / 4096) = some h → h.row ∈ f.rowsInUse →
      (s.dev.printing = false → 1 ≤ s.dev.nzFree →
        Does (.nzSubmit t w v) s fun s' =>
          s'.dev.nz.hbuf = [] ∧ flag (s'.dev.reg 0x070010) 31 = true ∧ fld (s'.dev.reg 0x070010) 20 3 = 3 ∧
          ∀ i, Sparse.get nzDefault s'.dev.nz.table i =
            if i = idx then nzMerge (Sparse.get nzDefault s.dev.nz.table i) (lo.toNat / 0x200000 % 32) hi
            else Sparse.get nzDefault s.dev.nz.table i) ∧
      (s.dev.nzFree = 0 →
        Does (.nzSubmit t w v) s fun s' =>
          s'.dev.nz = s.dev.nz ∧ s'.dev.ups = s.dev.ups ∧ flag (s'.dev.reg 0x070010) 31 = true ∧
          fld (s'.dev.reg 0x070010) 20 3 = 1))

/-- The ledger and the pattern slots: a save starts inside the flash window and is refused outside it; one the flash takes
ends DONE in the other copy with the next SEQ; a slot armed with no job running stands ARMED, and stops the model where its
values are out of range (log entries 77 and 119). -/
def Obligations.LedgerAndPatterns : Prop :=
  ∀ (t slot steps : Nat) (w : Writer) (v : Word) (j : SaveJob) (s : State),
    s.dev.inReset = false →
    (s.dev.takes w 0x070020 = true → flag v 0 = true → s.dev.nz.save = none → s.dev.nz.saveWait = false →
      s.dev.fm.flashJob = none →
      (s.dev.flashWindow = true →
        Does (.ledgerSave t w v) s fun s' =>
          s'.dev.nz.save = some { copyB := s.dev.nz.copy == 1, stale := false, halted := false } ∧ flag (s'.dev.reg 0x070024) 2 = true ∧
          flag (s'.dev.reg 0x070024) 31 = false ∧ s'.dev.fm = s.dev.fm ∧ s'.dev.nz.table = s.dev.nz.table) ∧
      (s.dev.flashWindow = false →
        Does (.ledgerSave t w v) s fun s' =>
          s'.dev.nz.save = none ∧ fld (s'.dev.reg 0x070024) 20 3 = 1 ∧ flag (s'.dev.reg 0x070024) 31 = true ∧
          s'.dev.fm = s.dev.fm ∧ s'.dev.nz.table = s.dev.nz.table)) ∧
    (s.dev.nz.save = some j → j.halted = false → s.dev.flashWindow = true →
      Does (.ledgerSaveEnd t steps true) s fun s' =>
        s'.dev.nz.save = none ∧ s'.dev.nz.copy = (if j.copyB then 2 else 1) ∧
        s'.dev.reg 0x070028 = (if s.dev.nz.copy = 0 then 1 else s.dev.reg 0x070028 + 1) ∧
        fld (s'.dev.reg 0x070024) 20 3 = 0 ∧ flag (s'.dev.reg 0x070024) 31 = true ∧ flag (s'.dev.reg 0x070024) 2 = false ∧
        s'.dev.nz.table = s.dev.nz.table ∧ s'.dev.nz.heads = s.dev.nz.heads) ∧
    (slot < 32 → s.dev.takes w (0x070400 + 0x20 * slot) = true → flag v 0 = true → s.dev.patState slot ≠ 1 →
      s.dev.patState slot ≠ 2 → s.dev.printing = false →
      (s.dev.patLegal slot (fld v 1 2) = true →
        Does (.nzPatArm t w slot v) s fun s' =>
          s'.dev.patState slot = 1 ∧ flag (s'.dev.reg (0x070418 + 0x20 * slot)) 31 = false ∧
          ∀ k, k < 32 → k ≠ slot → s'.dev.patState k = s.dev.patState k) ∧
      (s.dev.patLegal slot (fld v 1 2) = false → exec (.nzPatArm t w slot v) s = .fault (.hostError 153)))

/-! ### The web encoders (R155 to R176) -/

/-- A count of ENC0 moves K_0 and the position by one count in its direction, and K_max follows; a count of an ENC1 in use
moves its own count; both levels changing at once is an illegal transition, counted and nothing else. -/
def Obligations.CountsMoveThePosition : Prop :=
  ∀ (t n : Nat) (a b : Bool) (s : State),
    let e := s.dev.encSide n
    let move := (quadPlace a b + 4 - quadPlace e.a e.b) % 4
    let dir : Int := if move = 1 then 1 else -1
    let sign : Int := if flag (s.dev.reg 0x080000) n then -dir else dir
    s.dev.inReset = false → n < 2 → e.disA = none → e.disB = none →
    (n = 0 → (move = 1 ∨ move = 3) →
      Does (.encCount t n a b) s fun s' =>
        s'.dev.enc.e0.k = e.k + sign ∧ s'.dev.enc.e0.a = a ∧ s'.dev.enc.e0.b = b ∧
        s'.dev.fir.pos = s.dev.fir.pos + sign * s.dev.inc ∧ s'.dev.enc.kmax = max s.dev.enc.kmax (e.k + sign) ∧
        s'.dev.enc.e1.k = s.dev.enc.e1.k ∧ s'.dev.enc.e0.lastT = max s.dev.now t) ∧
    (n = 1 → (move = 1 ∨ move = 3) → s.dev.enc1Use = true → s.dev.enc.fallback = false →
      Does (.encCount t n a b) s fun s' =>
        s'.dev.enc.e1.k = e.k + sign ∧ s'.dev.enc.e0 = s.dev.enc.e0 ∧ s'.dev.fir.pos = s.dev.fir.pos) ∧
    (move = 2 → (n = 0 ∨ s.dev.enc1Use = true) →
      Does (.encCount t n a b) s fun s' =>
        s'.dev.reg (0x080058 + 4 * n) = s.dev.reg (0x080058 + 4 * n) + 1 ∧ (s'.dev.encSide n).k = e.k ∧
        (s'.dev.encSide n).a = a ∧ (s'.dev.encSide n).b = b ∧ s'.dev.fir.pos = s.dev.fir.pos)

/-- The index base, the wire watch, the speed window, the stop of the web and the snapshot. -/
def Obligations.EncoderWatches : Prop :=
  ∀ (t n : Nat) (pair : EncPair) (w : Writer) (v : Word) (f : Forme) (s : State),
    let e0 := s.dev.enc.e0
    let e := s.dev.encSide n
    let now := max s.dev.now t
    let h := s.dev.window w
    s.dev.inReset = false →
    (s.dev.forme = some f → 0 < e0.lastSign → s.dev.indexOn f = true → s.dev.enc.armed = false →
      Does (.indexPulse t) s fun s' =>
        s'.dev.enc.armed = true ∧ s'.dev.enc.kb = e0.k ∧ s'.dev.enc.e0.k = e0.k ∧ s'.dev.regs = s.dev.regs) ∧
    (let p : Int := f.sys.indexPeriod
     let delta : Int := (e0.k - s.dev.enc.kb + p / 2) % p - p / 2
     s.dev.forme = some f → 0 < e0.lastSign → s.dev.indexOn f = true → s.dev.enc.armed = true →
      Does (.indexPulse t) s fun s' =>
        s'.dev.enc.armed = true ∧ s'.dev.enc.kb = e0.k ∧ s'.dev.enc.e0.k = e0.k ∧ s'.dev.reg 0x080060 = low32 delta ∧
        s'.dev.reg 0x080064 = s.dev.reg 0x080064 + (if delta.natAbs ≤ f.sys.indexTol then 0 else 1)) ∧
    (n < 2 → e.dis pair = none →
      Does (.wireDisagreeEnter t n pair) s fun s' =>
        (s'.dev.encSide n).dis pair = some now ∧ (s'.dev.encSide n).k = e.k ∧ s'.dev.fir.pos = s.dev.fir.pos) ∧
    (∀ since, n < 2 → e.dis pair = some since →
      Does (.wireDisagreeExit t n pair) s fun s' =>
        (s'.dev.encSide n).dis pair = none ∧ (s'.dev.encSide n).k = e.k ∧ s'.dev.fir.pos = s.dev.fir.pos) ∧
    (n < 2 → (n = 0 ∨ s.dev.enc1Use = true) → e.winStart + e.winLen * 10000000 ≤ now →
      Does (.speedWindowEnd t n) s fun s' =>
        (s'.dev.encSide n).winN = 0 ∧ (s'.dev.encSide n).winStart = now ∧
        (s'.dev.encSide n).winLen = fld (s.dev.reg 0x080000) 6 10 ∧ (s'.dev.encSide n).k = e.k ∧
        (2 ≤ e.winN → e.winMixed = false →
          (s'.dev.encSide n).speed =
            e.winSign * ((16 * (e.winN - 1) * 625000000 / (e.lastT / 1600 - e.winFirst / 1600) : Nat) : Int))) ∧
    (s.dev.forme = some f → s.dev.fir.stopped = false → s.dev.fir.advT + f.geom.stopMs * 1000000000 ≤ now →
      Does (.webStopDetected t) s fun s' =>
        s'.dev.fir.stopped = true ∧ s'.dev.fir.ps = max s.dev.fir.pmax (s.dev.at t).p ∧ s'.dev.fir.pos = s.dev.fir.pos) ∧
    (s.dev.takes w 0x080020 = true → flag v 0 = true →
      Does (.encSnapTake t w v) s fun s' =>
        s'.dev.regOf h 0x080028 = low32 e0.k ∧ s'.dev.regOf h 0x08002C = high32 e0.k ∧
        s'.dev.regOf h 0x08003C = low32 e0.speed ∧ s'.dev.regOf h 0x080040 = low32 s.dev.enc.e1.k ∧
        flag (s'.dev.regOf h 0x080024) 31 = true ∧
        fld (s'.dev.regOf h 0x080024) 23 8 = (fld (s.dev.regOf h 0x080024) 23 8 + 1) % 256 ∧
        s'.dev.enc = s.dev.enc ∧ s'.dev.fir = s.dev.fir)

/-! ### Registration, firing and DREF steps (R181 to R197, R283 to R285) -/

/-- The host buffer of registration records, and a correction of one row submitted with no job running, which is the row's
target and its correction at once (R182, R186 to R188). -/
def Obligations.RegistrationRecordsAreStaged : Prop :=
  ∀ (t : Nat) (w : Writer) (v lo hi : Word) (f : Forme) (s : State),
    let buf := s.dev.fir.hbuf
    let row := fld lo 0 12
    s.dev.inReset = false →
    (s.dev.takes w 0x090044 = true → buf.length < 1024 →
      Does (.firBrecAppend t w v) s fun s' =>
        s'.dev.fir.hbuf = buf ++ [(s.dev.reg 0x090040, v)] ∧ fld (s'.dev.reg 0x090050) 0 11 = buf.length + 1 ∧
        s'.dev.fir.hbufOvf = s.dev.fir.hbufOvf ∧ s'.dev.fir.rows = s.dev.fir.rows ∧ s'.dev.ups = s.dev.ups) ∧
    (s.dev.takes w 0x090048 = true → flag v 0 = false → flag v 1 = true →
      Does (.firDiscard t w v) s fun s' =>
        s'.dev.fir.hbuf = [] ∧ s'.dev.fir.hbufOvf = false ∧ fld (s'.dev.reg 0x090050) 0 11 = 0 ∧
        s'.dev.fir.rows = s.dev.fir.rows ∧ s'.dev.ups = s.dev.ups) ∧
    (s.dev.takes w 0x090048 = true → flag v 0 = true → flag v 1 = false → s.dev.forme = some f → buf = [(lo, hi)] →
      s.dev.fir.hbufOvf = false → fld lo 12 4 = 0 → row ∈ f.rowsInUse → -8388608 ≤ hi.toInt → hi.toInt ≤ 8388607 →
      s.dev.printing = false → 1 ≤ s.dev.firFree →
        Does (.firSubmit t w v) s fun s' =>
          s'.dev.fir.hbuf = [] ∧ flag (s'.dev.reg 0x090050) 31 = true ∧ fld (s'.dev.reg 0x090050) 20 3 = 3 ∧
          (s'.dev.rowFire row).tgt = hi.toInt ∧ (s'.dev.rowFire row).c = hi.toInt + (s.dev.rowFire row).anchor ∧
          ∀ r, r ≠ row → s'.dev.rowFire r = s.dev.rowFire r)

/-- Where a FIRE committed at its instant goes (R191): blocks start on a link every 6.4 ns, from whatever phase; the FIRE is
in the block that starts at or before t_tx and latest among such blocks, its offset is the nearest number of 100 ps, and an
offset of 64 is the next block's 0. The head then fires within 50 ps of t_f. -/
def Obligations.FiresArePlacedWithin50ps : Prop :=
  ∀ (d : Dev) (k : Nat), ∃ phase : Int, 0 ≤ phase ∧ phase < 6400 ∧
    ∀ (pos : Int) (sl : Slot),
      d.fireSlot k pos = some sl → sl.past = false →
        let ttx := sl.tf - d.flight k
        let start := fun b : Nat => phase + 6400 * (b : Int)
        (∃ b o : Nat,
          start b ≤ ttx ∧ ttx < start (b + 1) ∧ (100 * o : Int) ≤ ttx - start b + 50 ∧ ttx - start b ≤ 100 * o + 50 ∧
          o ≤ 64 ∧ (sl.block, sl.off) = if o = 64 then (b + 1, 0) else (b, o)) ∧
        sl.off < 64 ∧ (sl.fireAt (d.flight k) : Int) ≤ sl.tf + 50 ∧ sl.tf ≤ (sl.fireAt (d.flight k) : Int) + 50

/-- A head's first line commits: it leaves the lead buffer, and its block, offset, fire instant and codes are those of the
commit, blank where it is late or the head is inhibited (R190 to R196, R434). A complete line goes out in a LINE frame.
A due set goes out: its heads' lines are gone and the set number moves on. The first DREF code that waits steps once its row has
fired the last line before its seam. -/
def Obligations.LinesAreSentAndFired : Prop :=
  ∀ (t k h row : Nat) (f : Forme) (c : HeadCfg) (l : PrepLine) (rest : List PrepLine) (sl : Slot) (code : Nat)
    (seam : Int) (steps : List (Nat × Int)) (s : State),
    let d := s.dev.at t
    let x := s.dev.headFire h
    let y := s.dev.drefRow row
    let late := d.lateCause c l (d.timingLate (f.rowStep c.row) x l.f sl (d.flight c.link))
    let blank := late.isSome || d.inhibited c.slot
    s.dev.inReset = false → s.dev.forme = some f →
    (h < 256 → f.head h = some c → x.lines = l :: rest → x.commit = none → s.dev.printing = true → s.dev.printPath = true →
      d.fireSlot c.link l.f = some sl →
      Does (.fireCommit t h) s fun s' =>
        (s'.dev.headFire h).lines = rest ∧ (s'.dev.headFire h).done = l.s ∧
        (s'.dev.headFire h).last = some (l.f, sl.fireAt (d.flight c.link)) ∧
        (s'.dev.headFire h).commit = some
          { s := l.s, f := l.f, block := sl.block, off := sl.off, fireAt := sl.fireAt (d.flight c.link), blank := blank,
            payload := if blank then [] else packCodes (if l.fb then 2 else c.bits) (l.codes.getD []) } ∧
        ∀ g, g ≠ h → s'.dev.headFire g = s.dev.headFire g) ∧
    (h < 256 → f.head h = some c → (s.dev.bl c.link).resend.find? (fun q => q.1 == c.slot) = none →
      x.lines.find? (fun q => !q.sent && !q.ue) = some l → l.codes.isSome = true → s.dev.maySend c.link l.s = true →
      s.dev.inhibited c.slot = false → s.dev.phy c.link = 2 →
      Does (.lineFrameSend t h) s fun s' =>
        (∀ q ∈ (s'.dev.headFire h).lines, q.s = l.s → q.sent = true) ∧
        .barFrame c.link (lineFrame c.port (if l.fb then 2 else c.bits) l.fb l.s l.f
          (packCodes (if l.fb then 2 else c.bits) (l.codes.getD []))) ∈ s'.dev.out ∧
        s'.dev.job = s.dev.job ∧ ∀ g, g ≠ h → s'.dev.headFire g = s.dev.headFire g) ∧
    (k < 32 → s.dev.mirroring = false → (∀ j, (s.dev.bl j).lost = none) → (d.dueSet f k) ≠ [] → (∀ z ∈ d.dueSet f k, d.maySend k z.2.s = true) →
      Does (.fireOrderedSetSend t k) s fun s' =>
        (s'.dev.bl k).q = ((s.dev.bl k).q + 1) % 8 ∧
        ∀ z ∈ d.dueSet f k, (s'.dev.headFire z.1.slot).commit = none) ∧
    (row < 16 → y.step = (code, seam) :: steps → (∀ g ∈ f.rowHeads row, seam ≤ (s.dev.headFire g.slot).fired) →
      (s.dev.rowFire row).firedAt + 200000 ≤ d.now →
      Does (.drefStep t row) s fun s' =>
        (s'.dev.drefRow row).now = code ∧ (s'.dev.drefRow row).step = steps ∧ (s'.dev.drefRow row).stepT = d.now ∧
        (∀ r, r ≠ row → s'.dev.drefRow r = s.dev.drefRow r) ∧ s'.dev.fir = s.dev.fir)

/-- Compare units, the position snapshot, and the registers of the colour loop (R198 to R205, R284, R291): an ABSOLUTE unit
armed before its position stands ARMED and one armed behind it is LATE; its edge, once due, starts the pulse and latches P;
the pulse ends; DISARM ends the unit; a DREF code set with no job running is in force at once; CAL stays set. -/
def Obligations.ComparesAndReferences : Prop :=
  ∀ (t n row : Nat) (w : Writer) (v : Word) (f : Forme) (edge tgt : Int) (s : State),
    let u := s.dev.pc n
    let reg := fun o => s.dev.reg (0x092000 + 0x40 * n + o)
    let abs : Int := signed 64 ((reg 0x4).toNat + (reg 0x8).toNat * 4294967296)
    let now := max s.dev.now t
    let h := s.dev.window w
    s.dev.inReset = false →
    (n < 32 → s.dev.takes w (0x092000 + 0x40 * n) = true → fld v 0 2 = 1 → fld v 3 2 = 0 → fld v 5 2 = 0 →
      1 ≤ fld (reg 0x10) 0 16 →
      Does (.pcArm t w n v) s fun s' =>
        s'.dev.pcState n = (if abs ≤ s.dev.fir.pmax then 2 else 1) ∧ (s'.dev.pc n).waiting = false ∧
        s'.dev.fir.pos = s.dev.fir.pos) ∧
    (n < 32 → s.dev.takes w (0x092000 + 0x40 * n) = true → fld v 0 2 = 2 → u.active = false →
      Does (.pcDisarm t w n v) s fun s' =>
        s'.dev.pcState n = 0 ∧ (s'.dev.pc n).targets = [] ∧ (s'.dev.pc n).active = false ∧ s'.dev.fir.pos = s.dev.fir.pos) ∧
    (n < 32 → s.dev.pcState n = 1 → s.dev.pcMode n = 0 → u.waiting = false → u.disarm = false →
      s.dev.edgeAt n = some edge → s.dev.pcNext n = some tgt → edge ≤ now →
      Does (.compareEdge t n) s fun s' =>
        s'.dev.pcState n = 3 ∧ (s'.dev.pc n).active = true ∧ (s'.dev.pc n).pulseEnd = now + 10000 * fld (reg 0x10) 0 16 ∧
        s'.dev.reg (0x092018 + 0x40 * n) = low32 (s.dev.at t).p ∧ s'.dev.reg (0x09201C + 0x40 * n) = high32 (s.dev.at t).p ∧
        s'.dev.reg (0x092028 + 0x40 * n) = reg 0x28 + 1) ∧
    (n < 32 → u.active = true → u.pulseEnd ≤ now → u.disarm = false →
      Does (.comparePulseEnd t n) s fun s' =>
        (s'.dev.pc n).active = false ∧ s'.dev.pcState n = s.dev.pcState n ∧ (∀ m, m ≠ n → s'.dev.pc m = s.dev.pc m) ∧
        s'.dev.regs = s.dev.regs) ∧
    (s.dev.takes w 0x090010 = true → flag v 0 = true →
      Does (.firSnapTake t w v) s fun s' =>
        s'.dev.regOf h 0x090018 = low32 (s.dev.at t).p ∧ s'.dev.regOf h 0x09001C = high32 (s.dev.at t).p ∧
        s'.dev.regOf h 0x090020 = low32 (max s.dev.fir.pmax (s.dev.at t).p) ∧ flag (s'.dev.regOf h 0x090014) 31 = true ∧
        fld (s'.dev.regOf h 0x090014) 23 8 = (fld (s.dev.regOf h 0x090014) 23 8 + 1) % 256 ∧ s'.dev.fir = s.dev.fir) ∧
    (row < 16 → s.dev.takes w (0x0D0100 + 0x10 * row) = true → s.dev.forme = some f → row ∈ f.rowsInUse →
      1 ≤ s.dev.drefFree → s.dev.printing = false →
      Does (.loopDrefSet t w row v) s fun s' =>
        (s'.dev.drefRow row).now = fld v 0 12 ∧ (∀ r, r ≠ row → s'.dev.drefRow r = s.dev.drefRow r) ∧ s'.dev.fir = s.dev.fir) ∧
    (s.dev.takes w 0x0D0000 = true → flag v 8 = true →
      Does (.loopCal t w v) s fun s' =>
        flag (s'.dev.reg 0x0D0000) 8 = true ∧ ∀ off, off ≠ 0x0D0000 → s'.dev.reg off = s.dev.reg off)

/-! ### Bar links at the device (R209 to R240) -/

/-- What a link sends of its own accord (R219, R234 to R236): TICK, PROBE and CAPS_REQ go out, and the timers of LOCK,
CONFIG and a PROBE end what they time. Which heads a TICK is owed to is the model's reading (log entry 58). -/
def Obligations.LinkTimers : Prop :=
  ∀ (t k : Nat) (f : Forme) (s : State),
    let d := s.dev.at t
    let b := s.dev.bl k
    let fresh := fun (p : Nat × Nat) => decide (d.now < p.2 + 2000000)
    s.dev.inReset = false → k < 32 →
    (s.dev.forme = some f → 3 ≤ s.dev.blState k → s.dev.blState k ≤ 5 → s.dev.phy k = 2 →
      Does (.tickSend t k) s fun s' =>
        .barFrame k (d.tickFrame f k) ∈ s'.dev.out ∧ (∀ h ∈ f.linkHeads k, (d.nextArm h.slot).isSome → h.port ∉ (s'.dev.bl k).tickFor) ∧
        s'.dev.blState k = s.dev.blState k) ∧
    (s.dev.blState k = 3 → 0 < b.left → s.dev.phy k = 2 →
      Does (.probeSend t k) s fun s' =>
        .barFrame k (probeFrame b.seq) ∈ s'.dev.out ∧ (s'.dev.bl k).probes = b.probes ++ [(b.seq, d.now)] ∧
        (s'.dev.bl k).left + 1 = b.left ∧ (s'.dev.bl k).seq = (b.seq + 1) % 65536) ∧
    (s.dev.blState k = 3 →
      Does (.probeTimeout t k) s fun s' =>
        (s'.dev.bl k).probes = b.probes.filter fresh ∧
        (s'.dev.bl k).left + (b.probes.filter fresh).length = b.left + b.probes.length ∧
        s'.dev.blState k = 3 ∧ ∀ j, j ≠ k → s'.dev.bl j = s.dev.bl j) ∧
    (s.dev.blState k = 1 → s.dev.phy k = 2 →
      Does (.capsReqSend t k) s fun s' => .barFrame k (ctrlFrame 0xFF 1 []) ∈ s'.dev.out ∧ s'.dev.blState k = 1) ∧
    (s.dev.blState k = 1 → b.since + 50000000000 ≤ d.now →
      Does (.lockCapsTimeout t k) s fun s' =>
        s'.dev.blState k = 0 ∧ (s'.dev.bl k).own = 0 ∧ ∀ j, j ≠ k → s'.dev.bl j = s.dev.bl j) ∧
    (s.dev.blState k = 3 → b.since + 1000000000 ≤ d.now →
      Does (.configTimeout t k) s fun s' =>
        (if b.fails < 2 then s'.dev.blState k = 0 ∧ (s'.dev.bl k).fails = b.fails + 1
         else s'.dev.blState k = 6 ∧ fld (s'.dev.reg (0x0A0004 + 0x100 * k)) 8 4 = 15 ∧ (s'.dev.bl k).fails = 0) ∧
        (s'.dev.bl k).own = 0 ∧ ∀ j, j ≠ k → s'.dev.bl j = s.dev.bl j)

/-- CAPS at a link in LOCK leads to CONFIG where the forme is met and to REFUSED with its reason where it is not; in any
other state it is recorded (R232, R234, R235, R240). A latency value is accepted within 100 ns of the mean, and the
sixteenth one of CONFIG makes a SOLO unit's link READY and claims it (R231, R236). -/
def Obligations.LinksNegotiate : Prop :=
  ∀ (t k : Nat) (b : List Byte) (f : Forme) (sq t0 : Nat) (s : State),
    let d := s.dev.at t
    let x := s.dev.bl k
    let v : Int := ((d.now : Int) - t0 - 10 * u32 b 4 + u16 x.caps 8 - u16 x.caps 0xA) / 2
    let mean : Int := if x.lats.isEmpty then v else x.lats.sum / x.lats.length
    let lats := (v.toNat :: x.lats).take 16
    s.dev.inReset = false → k < 32 → s.dev.forme = some f →
    (frameGood 0x82 (28 + 16 * u8 b 4) b = true → 1 ≤ u8 b 4 → u8 b 4 ≤ 8 →
      Does (.capsReceive t k b) s fun s' =>
        (s'.dev.bl k).caps = b ∧ (s'.dev.bl k).capsAt = some d.now ∧ (s'.dev.bl k).claim = u40 b 0x10 ∧
        (s.dev.blState k ≠ 1 → s'.dev.blState k = s.dev.blState k) ∧
        (s.dev.blState k = 1 → capsReason f k b = 0 → s'.dev.blState k = 3 ∧ (s'.dev.bl k).left = 16) ∧
        (s.dev.blState k = 1 → capsReason f k b ≠ 0 →
          s'.dev.blState k = 6 ∧ fld (s'.dev.reg (0x0A0004 + 0x100 * k)) 8 4 = capsReason f k b ∧ (s'.dev.bl k).own = 0)) ∧
    (frameGood 0x84 12 b = true → x.probes.find? (fun p => p.1 == u16 b 2) = some (sq, t0) →
      (v - mean).natAbs ≤ 1000 → 0 ≤ v →
      Does (.probeEchoReceive t k b) s fun s' =>
        (s'.dev.bl k).lats = lats ∧ (s'.dev.bl k).probes = x.probes.filter (fun p => p.1 != sq) ∧
        s'.dev.reg (0x090200 + 4 * k) = BitVec.ofNat 32 (lats.sum / lats.length % 16777216) ∧
        (s.dev.blState k ≠ 3 ∨ lats.length < 16 → s'.dev.blState k = s.dev.blState k) ∧
        (s.dev.blState k = 3 → lats.length = 16 → s.dev.twState = 0 → s.dev.twinned = false →
          s'.dev.blState k = 4 ∧ (s'.dev.bl k).own = (x.claim / 256 + 1) * 256 + 0x80))

/-- Frames a link hears (R209, R213, R224, R230, R231, R237), and the two commands of BL_CTRL (R240). -/
def Obligations.LinksHear : Prop :=
  ∀ (t k : Nat) (w : Writer) (v : Word) (b : List Byte) (f : Forme) (h : HeadCfg) (rx : Receiver) (s : State),
    let x := s.dev.bl k
    let st := s.dev.blState k
    let lines := fun (c : HeadCfg) => (s.dev.headFire c.slot).lines
    s.dev.inReset = false → k < 32 → s.dev.forme = some f →
    (rx = .bar k →
      Does (.frameDiscarded t rx) s fun s' =>
        s'.dev.reg (0x0A0020 + 0x100 * k) = s.dev.reg (0x0A0020 + 0x100 * k) + 1 ∧ s'.dev.links = s.dev.links ∧
        s'.eps = s.eps) ∧
    (frameGood 0x81 28 b = true → u8 b 2 = 0 → f.twin.twin = false →
      Does (.echoBlockReceive t k b) s fun s' =>
        (s'.dev.bl k).claim = u40 b 0x10 ∧
        (st ≠ 5 ∨ u40 b 0x10 ≤ x.own → s'.dev.blState k = st ∧ (s'.dev.bl k).lost = x.lost) ∧
        (st = 5 → x.own < u40 b 0x10 → s'.dev.blState k = 4 ∧ (s'.dev.bl k).lost = some none)) ∧
    (frameGood 0x81 16 b = true → u8 b 2 = 1 → flag (s.dev.reg (0x0A0000 + 0x100 * k)) 2 = true →
      flag (s.dev.reg (0x0A0004 + 0x100 * k)) 12 = false → (f.linkHeads k).find? (fun c => c.port == u8 b 1) = some h →
      Does (.echoResendReceive t k b) s fun s' =>
        s'.dev.reg (0x0A0024 + 0x100 * k) = s.dev.reg (0x0A0024 + 0x100 * k) + BitVec.ofNat 32 (u16 b 8) ∧
        s'.dev.blState k = st ∧
        ∀ l : PrepLine, (h.slot, l.s) ∈ (s'.dev.bl k).resend ↔
          (h.slot, l.s) ∈ x.resend ∨
            ∃ m ∈ lines h, m.s = l.s ∧ m.sent = true ∧
              ∃ i < u16 b 8, low32 m.s = BitVec.ofNat 32 (u32 b 4) + BitVec.ofNat 32 (i * f.rowStep h.row)) ∧
    (frameGood 0x81 32 b = true → u8 b 2 = 2 → f.twin.twin = false → s.dev.twState = 0 → s.dev.twinned = false →
      Does (.echoStatusReceive t k b) s fun s' =>
        (s'.dev.bl k).claim = u40 b 4 ∧
        (st = 4 → x.lost = none → x.own ≠ 0 → u40 b 4 = x.own → u8 b 9 = fld (s.dev.reg (0x0A0004 + 0x100 * k)) 16 1 →
          s'.dev.blState k = 5) ∧
        (st = 5 → x.own < u40 b 4 → s'.dev.blState k = 4 ∧ (s'.dev.bl k).lost.isSome = true)) ∧
    (frameGood 0x83 28 b = true → (f.linkHeads k).find? (fun c => c.port == u8 b 1) = some h →
      Does (.hkFrameReceive t k b) s fun s' =>
        s'.dev.reg (0x0A0080 + 0x100 * k + 4 * h.port) = BitVec.ofNat 32 (u16 b 4 + u8 b 2 % 8 * 65536) ∧
        h.slot ∈ s'.dev.hk.fresh ∧ h.slot ∈ s'.dev.hk.heard ∧ s'.dev.links = s.dev.links) ∧
    (s.dev.takes w (0x0A0000 + 0x100 * k) = true → flag v 0 = false → flag v 1 = true → s.dev.inTest k = false → st ≠ 7 →
      Does (.recaps t w k v) s fun s' =>
        s'.dev.blState k = 0 ∧ fld (s'.dev.reg (0x0A0004 + 0x100 * k)) 8 4 = 0 ∧ (s'.dev.bl k).own = 0 ∧
        ∀ j, j ≠ k → s'.dev.bl j = s.dev.bl j) ∧
    (s.dev.takes w (0x0A0000 + 0x100 * k) = true → flag v 0 = true → flag v 1 = false → s.dev.blUp k = true →
      Does (.reprobe t w k v) s fun s' =>
        s'.dev.blState k = st ∧ (s'.dev.bl k).lats = [] ∧ (s'.dev.bl k).left = 16 ∧ s'.dev.reg (0x090200 + 4 * k) = 0 ∧
        ∀ j, j ≠ k → s'.dev.bl j = s.dev.bl j)

/-! ### Head endpoints (R206 to R238, R452, R458) -/

/-- The claim register C of an endpoint never falls, but at its reset (R225): whatever command the block takes. -/
def Obligations.EndpointClaimNeverFalls : Prop :=
  ∀ (k : Nat) (s s' : State), step s = .next s' → (∀ t, s.pending.head? ≠ some (.epReset t k)) → (s.ep k).c ≤ (s'.ep k).c

/-- A command of an endpoint leaves every other endpoint and the device alone, but for the time, what is sent and the free
values used; a command of the device leaves every endpoint alone. -/
def Obligations.EndpointsActAlone : Prop :=
  ∀ (c : Instr) (s s' : State), exec c s = .next s' →
    (∀ k, endpointOf c = some k →
      (∀ j, j ≠ k → s'.ep j = s.ep j) ∧
        s'.dev = { s.dev with now := s'.dev.now, out := s'.dev.out, free := s'.dev.free }) ∧
    (endpointOf c = none → s'.eps = s.eps)

/-- CLAIM at an endpoint (R226, R227, R230): accepted as a plain, ANYLINE or RELEASE claim under its condition, and else
refused with nothing changed; a STATUS goes out on both ports. -/
def Obligations.EndpointsDecideClaims : Prop :=
  ∀ (t k : Nat) (x : Port) (b : List Byte) (s : State),
    let e := s.ep k
    let c := u40 b 4
    let flags := u8 b 2
    let le : Word := BitVec.ofNat 32 (u32 b 0xC)
    let plain := flags = 0 ∧ e.c < c
    let anyline := flags = 1 ∧ e.c < c ∧ ∀ h < e.caps.nhead, (e.head h).firing ≠ some (portOther x)
    let release := flags = 2 ∧ c = e.c ∧ ∃ h < e.caps.nhead, (e.head h).firing = some x
    k < 32 → frameOk 0x03 20 b = true → e.test = none →
      Does (.epClaimReceive t k x b) s fun s' =>
        let e' := s'.ep k
        (plain → e'.c = c ∧ e'.cport = x ∧ e'.le = some le ∧ .epFrame k x (e'.status 0) ∈ s'.dev.out ∧
          ∀ h < e.caps.nhead, e'.head h = { e.head h with sw := some (x, some le), switched := false }) ∧
        (anyline → e'.c = c ∧ e'.cport = x ∧ e'.le = none ∧ .epFrame k x (e'.status 0) ∈ s'.dev.out ∧
          ∀ h < e.caps.nhead, e'.head h = { e.head h with sw := some (x, none), switched := false }) ∧
        (release → e'.c = e.c ∧ .epFrame k x (e'.status 0) ∈ s'.dev.out ∧
          ∀ h < e.caps.nhead, e'.head h =
            if (e.head h).firing = some x then { e.head h with rel := some le } else e.head h) ∧
        (¬plain → ¬anyline → ¬release →
          e'.c = e.c ∧ e'.cport = e.cport ∧ e'.le = e.le ∧ .epFrame k x (e'.status 1) ∈ s'.dev.out ∧ ∀ h, e'.head h = e.head h)

/-- Lines, ARMs and FIREs at an endpoint (R213 to R218, R223): a line is stored, an ARM is held, and the FIRE that names it
jets the stored line of each head that fires from its port, at the instant its offset gives, and moves the head's line on. -/
def Obligations.EndpointsFire : Prop :=
  ∀ (t k q : Nat) (x : Port) (b : List Byte) (a : EpArm) (s : State),
    let e := s.ep k
    let h1 := u8 b 1
    let line : Word := BitVec.ofNat 32 (u32 b 4)
    let size := ((e.hp x h1).cfg.nozzles * u8 b 3 + 7) / 8
    let tag := fun h => bits (u32 b 3) (4 * h) 4
    let arm := u8 b 0 % 8
    k < 32 → e.test = none →
    (u8 b 0 = 1 → b.length = 20 + size → crc16 (b.take 14) = u16 b 14 →
      (crc32c (b.take (b.length - 4))).toNat = u32 b (b.length - 4) → h1 < e.caps.nhead →
      atOrAfter line (e.hp x h1).next = true →
      Does (.epLineReceive t k x b) s fun s' =>
        ((s'.ep k).hp x h1).lines = (e.hp x h1).lines.filter (fun l => l.s != line) ++
          [{ s := line, bits := u8 b 3, fallback := bit (u8 b 2) 0, payload := slice b 16 size }] ∧
        ((s'.ep k).hp x h1).next = (e.hp x h1).next ∧ ((s'.ep k).hp x h1).cfg = (e.hp x h1).cfg ∧
        ∀ h, (s'.ep k).head h = e.head h) ∧
    (u8 b 0 / 8 = 0x14 → b.length = 8 → crc8 (b.take 7) = u8 b 7 →
      Does (.epArmReceive t k x b) s fun s' =>
        ∃ heads, (s'.ep k).arm x arm = some { mask := h1, blank := u8 b 2, heads := heads } ∧
          ∀ h < 8, h < e.caps.nhead → bit h1 h = true → tag h = (e.hp x h).next.toNat % 16 → bit heads h = true) ∧
    (u8 b 0 / 8 = 0x1E → b.length = 8 → e.arm x arm = some a → a.mask = h1 →
      Does (.epFireReceive t k x b) s fun s' =>
        (s'.ep k).arm x arm = none ∧
        ∀ h < 8, bit a.heads h = true →
          ((s'.ep k).hp x h).next = (e.hp x h).next + BitVec.ofNat 32 (e.hp x h).cfg.step ∧
          ∀ l, (e.head h).firing = some x → (e.head h).sw = none → (e.head h).rel = none → bit a.blank h = false →
            (e.port x).out = false → (e.hp x h).lines.find? (fun l => l.s == (e.hp x h).next) = some l →
            ((s'.ep k).head h).fired = (e.head h).fired + 1 ∧
            .jet k h ((s.dev.at t).now + 100 * (e.caps.lat + roundOffset e.caps.offres (bits (leNat (slice b 2 6)) (6 * h) 6)))
              (e.hp x h).next (l.codes (e.hp x h).cfg) ∈ s'.dev.out) ∧
    (e.arm x q = some a →
      Does (.epArmExpire t k x q) s fun s' =>
        (s'.ep k).arm x q = none ∧ (s'.ep k).tagErr = e.tagErr + 1 ∧ ∀ h, (s'.ep k).head h = e.head h)

/-- TICK, DIGEST, HALT, loss of signal and the CTRL frames at an endpoint, what it sends of its own accord, and its reset
(R219, R220, R223, R225, R229, R230, R232, R233, R236 to R238, R452, R458). -/
def Obligations.EndpointsAnswer : Prop :=
  ∀ (t k : Nat) (x : Port) (b : List Byte) (out : Bool) (y : EpTest) (s : State),
    let e := s.ep k
    let first : Word := BitVec.ofNat 32 (u32 b 4)
    let test : EpTest := { port := x, op := u8 b 4, pats := u8 b 5, dur := u16 b 6, user := u64 b 8 }
    let ctrl := fun kind => frameOk 0x04 20 b = true ∧ u8 b 2 = kind
    let lost := fun s' : State => ∀ h < e.caps.nhead, (e.head h).firing = some x →
      ((s'.ep k).head h).firing = none ∧ ((s'.ep k).hp x h).lines = [] ∧ (s'.ep k).c = e.c ∧ ∀ q, (s'.ep k).arm x q = none
    k < 32 →
    (frameOk 0x05 60 b = true →
      Does (.epTickReceive t k x b) s fun s' => ∀ h < e.caps.nhead,
        ((s'.ep k).hp x h).next =
          if u32 b (0x18 + 4 * h) = 0xFFFFFFFF then (e.hp x h).next else BitVec.ofNat 32 (u32 b (0x18 + 4 * h))) ∧
    (frameOk 0x02 20 b = true →
      Does (.epDigestReceive t k x b) s fun s' =>
        (x, u8 b 1, first, u16 b 8, (BitVec.ofNat 32 (u32 b 0xC) : Word)) ∈ (s'.ep k).digs) ∧
    (b = leBytes 1 0x33 ++ List.replicate 7 0x5A → Does (.epHaltReceive t k x b) s lost) ∧
    ((e.port x).eidle = false → Does (.epSignalLoss t k x) s lost) ∧
    (ctrl 1 → e.test = none →
      Does (.epCapsReq t k x b) s fun s' => .epFrame k x (e.capsFrame x) ∈ s'.dev.out ∧ (s'.ep k).c = e.c) ∧
    (ctrl 2 →
      Does (.epHeadcfg t k x b) s fun s' =>
        ((s'.ep k).hp x (u8 b 1)).cfg =
            { nozzles := u16 b 4, bits := u8 b 6, step := u8 b 7, xlate := (slice b 8 4).map (·.toNat) } ∧
          ((s'.ep k).hp x (u8 b 1)).lines = (e.hp x (u8 b 1)).lines) ∧
    (ctrl 3 → e.test = none →
      Does (.epHkReq t k x b) s fun s' => ∀ h < 8, h < e.caps.nhead →
        ∃ v, .epFrame k x (withCrc (leBytes 1 0x83 ++ leBytes 1 h ++ leBytes 1 (v % 8) ++ leBytes 1 0 ++ leBytes 2 (v / 8)
          ++ leBytes 2 (v / 524288) ++ leBytes 4 (e.head h).fired.toNat ++ leBytes 4 (e.head h).missed.toNat
          ++ leBytes 2 e.tagErr ++ leBytes 2 e.crcErr ++ leBytes 4 0)) ∈ s'.dev.out) ∧
    (ctrl 4 →
      Does (.epClear t k x b) s fun s' =>
        (s'.ep k).tagErr = 0 ∧ (s'.ep k).crcErr = 0 ∧
          ∀ h < e.caps.nhead, ((s'.ep k).head h).fired = 0 ∧ ((s'.ep k).head h).missed = 0) ∧
    (ctrl 5 → e.test = none →
      (u8 b 4 = 1 → Does (.epEidle t k x b) s fun s' => ((s'.ep k).port x).eidle = true ∧ (s'.ep k).test = none) ∧
      (u8 b 4 = 2 → Does (.epPattern t k x b) s fun s' => (s'.ep k).test = some test) ∧
      (u8 b 4 = 3 → Does (.epLoopback t k x b) s fun s' => (s'.ep k).test = some test)) ∧
    (e.test = some y → y.port = x → Does (.epTestEnd t k x) s fun s' => (s'.ep k).test = none ∧ (s'.ep k).heads = e.heads) ∧
    Does (.epEidleTimeout t k x) s (fun s' => ((s'.ep k).port x).eidle = false ∧ (s'.ep k).heads = e.heads) ∧
    (frameOk 0x06 12 b = true → e.test = none →
      Does (.epProbeReceive t k x b) s fun s' =>
        ∃ tta ≤ 200000, .epFrame k x (withCrc (leBytes 1 0x84 ++ leBytes 1 0xFF ++ slice b 2 2 ++ leBytes 4 tta)) ∈ s'.dev.out) ∧
    (e.test = none →
      Does (.epStatusPeriodic t k) s fun s' =>
        .epFrame k .a (e.status 0xFF) ∈ s'.dev.out ∧ .epFrame k .b (e.status 0xFF) ∈ s'.dev.out) ∧
    (e.test = none → Does (.epCapsPeriodic t k x) s fun s' => .epFrame k x (e.capsFrame x) ∈ s'.dev.out) ∧
    Does (.epReset t k) s (fun s' => s'.ep k = { Endpoint.zero with caps := e.caps }) ∧
    Does (.epRefoOutOfLimits t k x out) s
      (fun s' => ((s'.ep k).port x).out = out ∧ (s'.ep k).c = e.c ∧ (s'.ep k).heads = e.heads)

/-! ### Cameras (R241 to R271) -/

/-- Frames of a channel (R243, R245 to R248, R251, R260, R262, R267): a Frame Start opens one with the oldest hit that is
young enough, a Frame End and 100 ms without a packet close it, lines and embedded data join it, the pipeline takes its
lines, and its record closes it. -/
def Obligations.CameraFrames : Prop :=
  ∀ (t p vc fn pl dt : Nat) (data : List Byte) (c : ChanCfg) (f : CamFrame) (hit : CamHit) (rest : List CamFrame)
    (hits : List CamHit) (s : State),
    let d := s.dev.at t
    let x := s.dev.camChan p vc
    let shut := x.frames.map (fun g => { g with isOpen := false })
    let win := fun w o => s.dev.reg (0x0C0800 + 0x1000 * p + 0x20 * w + o)
    let limit := fld (s.dev.reg (0x0B0004 + 0x400 * p)) 0 16 * 1000000
    let j := f.counts.getD 0 0
    let px := unpackLine c.dt data
    s.dev.inReset = false → s.dev.watching = false → p < 8 → vc < 16 →
    (s.dev.chanCfg p vc = some c →
      (∀ w ∈ winsOf s.dev.reg p vc, winBad c.width (win w 0) (win w 4) (win w 8) = false) →
      Does (.csiFrameStart t p vc fn) s fun s' =>
        ∃ g, (s'.dev.camChan p vc).frames = shut ++ [g] ∧ g.isOpen = true ∧ g.num = x.num + 1 ∧ g.fn = fn % 65536 ∧
          (s'.dev.camChan p vc).num = x.num + 1 ∧ g.nojob = !s.dev.printing ∧
          (x.hits = [] → g.untrig = true ∧ g.pos = d.p) ∧
          (x.hits = hit :: hits → d.now ≤ hit.at_ + limit →
            g.untrig = false ∧ g.pos = hit.pos ∧ g.sec = hit.sec ∧ (s'.dev.camChan p vc).hits = hits)) ∧
    (s.dev.chanCfg p vc = some c → x.open?.isSome = true →
      Does (.csiFrameEnd t p vc) s fun s' => (s'.dev.camChan p vc).frames = shut ∧ (s'.dev.camChan p vc).hits = x.hits) ∧
    (x.open? = some f → f.last + 100000000000 ≤ d.now →
      Does (.frameTimeout t p vc) s fun s' => (s'.dev.camChan p vc).frames = shut ∧ (s'.dev.camChan p vc).hits = x.hits) ∧
    (s.dev.chanCfg p vc = some c → x.frames.filter (·.isOpen) = [f] → f.counts ≠ [] → j < c.height → f.cut = false →
      f.mosaic.length ≤ j → s.dev.bufferUsed p < 64 →
      Does (.csiLinePacket t p vc c.dt data true false) s fun s' =>
        ∃ g l, (s'.dev.camChan p vc).open? = some g ∧ g.lines = f.lines ++ [l] ∧ g.counts.getD 0 0 = j + 1 ∧
          l.exp = 0 ∧ l.idx = j ∧ l.bad = false ∧ l.fill = false ∧ l.px = padTo c.width (f.fill p) px) ∧
    (s.dev.chanCfg p vc = some c → x.open? = some f → f.emb = none →
      Does (.csiEmbeddedData t p vc data) s fun s' =>
        ∃ g, (s'.dev.camChan p vc).open? = some g ∧ g.emb = some (padTo 16 0 data) ∧ g.lines = f.lines) ∧
    (s.dev.chanCfg p vc = none → dt ≠ 0x10 → dt ≠ 0x11 →
      Does (.csiOtherPacket t p vc dt false) s fun s' =>
        s'.dev.reg (0x0B0014 + 0x400 * p) = s.dev.reg (0x0B0014 + 0x400 * p) + 1 ∧ s'.dev.cam = s.dev.cam) ∧
    (pl < 4 → s.dev.camNextLine pl = some (p, vc, f) → s.dev.chanCfg p vc = some c →
      Does (.pipelineLine t pl false) s fun s' =>
        (s'.dev.camChan p vc).frames = x.frames.map (fun h => if h.num == f.num then f.step p c.width else h) ∧
        s'.dev.reg (0x0C0E04 + 0x1000 * p) = s.dev.reg (0x0C0E04 + 0x1000 * p) + 1) ∧
    (s.dev.chanCfg p vc = some c → x.frames = f :: rest → f.isOpen = false → f.ready p = none →
      Does (.frameClose t p vc) s fun s' =>
        (s'.dev.camChan p vc).frames = rest ∧ s.dev.cc.recW < s'.dev.cc.recW ∧
        s'.dev.reg (0x0B0108 + 0x400 * p + 0x10 * vc) = BitVec.ofNat 32 f.num ∧
        flag (s'.dev.reg (0x0B0104 + 0x400 * p + 0x10 * vc)) 31 = true)

/-- The CCI master and the lookup tables (R249, R259, R271): a command is queued with the write data of the moment, its end
gives a result where it reads, a read of the result takes the oldest or shows EMPTY, a write of ISP_LUT_D2 fills the back
copy's entry and moves on, and SWAP waits for a Frame Start. -/
def Obligations.CameraControl : Prop :=
  ∀ (t p prof : Nat) (w : Writer) (v cmd wd data : Word) (rest : List (Word × Word)) (rs : List Word) (s : State),
    let x := s.dev.camPort p
    let o := 0x0C0000 + 0x1000 * p + 0x400 * prof
    let a := fld (s.dev.reg (o + 0x34)) 0 13
    let entry := fun (d : Dev) i => Sparse.get (fun _ => (0 : BitVec 16)) (d.camPort p).back i
    let words := s.dev.reg (o + 0x38)
    let at_ := 16384 * prof + 3 * a
    let got := if fld cmd 8 2 = 0 then data &&& 0xFF else data &&& 0xFFFF
    s.dev.inReset = false → p < 8 →
    (s.dev.takes w (0x0B0028 + 0x400 * p) = true → flag v 7 = false ∨ fld v 8 2 < 2 → x.cmds.length < 32 →
      s.dev.watching = false →
      Does (.camCciCmd t w p v) s fun s' =>
        ∃ kept, (s'.dev.camPort p).cmds = x.cmds ++ [(kept, s.dev.reg (0x0B002C + 0x400 * p))] ∧
          fld kept 0 8 = fld v 0 8 ∧ fld (s'.dev.reg (0x0B0034 + 0x400 * p)) 0 6 = x.cmds.length + 1 ∧
          flag (s'.dev.reg (0x0B0034 + 0x400 * p)) 8 = true) ∧
    (x.cmds = (cmd, wd) :: rest → s.dev.watching = false → x.results.length < 32 →
      Does (.cciCommandDone t p true data) s fun s' =>
        (s'.dev.camPort p).cmds = rest ∧ .cci p cmd wd ∈ s'.dev.out ∧
        (s'.dev.camPort p).results = if flag cmd 7 then x.results ++ [got] else x.results) ∧
    Does (.camCciRdata t w p) s (fun s' =>
      (x.results = [] → .answer w (0x0B0030 + 0x400 * p) 0x80000000 ∈ s'.dev.out ∧ s'.dev.cam = s.dev.cam) ∧
      (x.results = v :: rs → .answer w (0x0B0030 + 0x400 * p) v ∈ s'.dev.out ∧ (s'.dev.camPort p).results = rs)) ∧
    (prof < 2 → s.dev.takes w (o + 0x3C) = true → a ≤ 4912 →
      Does (.ispLutD2 t w p prof v) s fun s' =>
        entry s'.dev at_ = words.extractLsb' 0 16 ∧ entry s'.dev (at_ + 1) = words.extractLsb' 16 16 ∧
        entry s'.dev (at_ + 2) = v.extractLsb' 0 16 ∧ s'.dev.reg (o + 0x34) = BitVec.ofNat 32 (a + 1) ∧
        (∀ i, i ≠ at_ → i ≠ at_ + 1 → i ≠ at_ + 2 → entry s'.dev i = entry s.dev i) ∧
        (s'.dev.camPort p).front = x.front) ∧
    (prof < 2 → s.dev.takes w (o + 0x30) = true → flag v 0 = true →
      Does (.ispSwap t w p prof v) s fun s' =>
        prof ∈ (s'.dev.camPort p).swap ∧ (s'.dev.camPort p).front = x.front ∧ (s'.dev.camPort p).back = x.back)

/-- Linearisation and the colour matrix of a frame's pixels, from the profile registers the frame took (R253, R257). -/
def Obligations.PixelsAreCorrected : Prop :=
  ∀ (f : CamFrame) (p x r g b z : Nat),
    let reg := fun o => f.reg (0x0C0000 + 0x1000 * p + 0x400 * f.profile + o)
    let on := fun n => flag (reg 0) n
    let l : Nat → Int := fun k => if k % 2 = 0 then fld (reg (0x40 + 4 * (k / 2))) 0 16 else fld (reg (0x40 + 4 * (k / 2))) 16 16
    let k := x / 1024
    let m : Nat → Nat → Int := fun i j => ((reg (0x100 + 4 * (4 * i + j))).setWidth 16).toInt
    let o : Nat → Int := fun i => min 65535 (max 0 ((m i 0 * r + m i 1 * g + m i 2 * b + m i 3 * z + 2048) / 4096))
    (on 13 = true → x < 65536 → (f.linear p x : Int) = l k + (l (k + 1) - l k) * (x - 1024 * k) / 1024) ∧
    (on 13 = false → f.linear p x = x) ∧
    (on 15 = true → (f.matrix p [r, g, b, z]).map Int.ofNat = [o 0, o 1, o 2]) ∧
    (on 15 = false → f.matrix p [r, g, b, z] = [r, g, b])

/-! ### Counters, tallies and the sampler (R322 to R331, R479) -/

/-- CLEAR, a latching LO read, and the tally (R322, R329, R330, R479): every counter goes to 0 and counts on from
there, those of time too; LO shows the low word of an endpoint's claim and keeps the upper bits for the reader's next read of HI; a snapshot is taken by NOW and at
each period; its dump, once written, stands in its region. -/
def Obligations.CountersAndTallies : Prop :=
  ∀ (t k slot addr : Nat) (w : Writer) (v : Word) (bs : List Byte) (r : Region) (s : State),
    let p := s.dev.perf
    let next := p.periodAt + fld (s.dev.reg 0x0F0064) 0 16 * 1000000000
    let region := s.dev.forme.bind (fun f => f.region (fld (s.dev.reg 0x0F0068) 0 8))
    let lo := 0x0A0010 + 0x100 * k
    s.dev.inReset = false →
    (s.dev.takes w 0x0F0000 = true → flag v 0 = true →
      Does (.clearCounters t w v) s fun s' =>
        s'.dev.perf = { p with cnt := [] } ∧ s'.dev.regs = s.dev.regs ∧ s'.dev.dram = s.dev.dram ∧ s'.eps = s.eps ∧
        ∀ n < 640, paceCounter n = false → (s'.dev.counter n).1 = 0) ∧
    (k < 32 →
      Does (.latchingLoRead t w lo) s fun s' =>
        .answer w lo (BitVec.ofNat 32 (s.dev.bl k).claim) ∈ s'.dev.out ∧
        (s'.dev.readWord w (lo + 4)).1 = BitVec.ofNat 32 ((s.dev.bl k).claim / 4294967296) ∧ s'.dev.regs = s.dev.regs) ∧
    (s.dev.takes w 0x0F0060 = true → s.dev.tallyOn = true → flag v 0 = true → flag v 2 = true → region = some r →
      p.dump = none →
      Does (.tallyNow t w v) s fun s' => s'.dev.perf.dump.isSome = true ∧ s'.dev.perf.dumps = p.dumps + 1) ∧
    (s.dev.tallyOn = true → next ≤ (s.dev.at t).now → region = some r → p.dump = none →
      Does (.tallyPeriodExpire t) s fun s' =>
        s'.dev.perf.dump.isSome = true ∧ s'.dev.perf.dumps = p.dumps + 1 ∧ s'.dev.perf.periodAt = next) ∧
    (p.dump = some (slot, addr, bs) → (∀ k < 2, s.dev.dcState k ≠ 3) →
      Does (.tallyDumpDone t) s fun s' =>
        s'.dev.perf.dump = none ∧ s'.dev.dramRead addr bs.length = bs ∧ flag (s'.dev.reg 0x0F0070) 31 = true ∧
        s'.dev.reg 0x0F0074 = s.dev.reg 0x0F0074 + 1)

/-- The sampler (R326 to R328): ARM clears WIDX and every tag; a countdown at 0 tags the next instruction and is loaded
again from the generator's next number; a record of 32 bytes goes to the buffer and WIDX moves on. -/
def Obligations.SamplerTagsAndRecords : Prop :=
  ∀ (t n : Nat) (w : Writer) (v : Word) (tag : SampTag) (obs : SampleObs) (s : State),
    let d := s.dev.at t
    let c := s.dev.core n
    let ctrl := s.dev.reg 0x0F0080
    let g := xorshift s.dev.perf.gen
    let i := (s.dev.reg 0x0F0088).toNat
    s.dev.inReset = false → n < 8 →
    (s.dev.takes w 0x0F0080 = true → flag v 2 = true → fld v 16 5 ≤ 16 →
      Does (.sampArm t w v) s fun s' =>
        s'.dev.reg 0x0F0088 = 0 ∧ s'.dev.perf.stopped = false ∧ s'.dev.perf.buf = s.dev.perf.buf ∧
        (s'.dev.core n).tag = none ∧ (s'.dev.core n).tagNext = false ∧ (s'.dev.core n).pc = c.pc) ∧
    (s.dev.sampled n = true → c.countdown = 0 →
      Does (.sampleTag t n) s fun s' =>
        s'.dev.core n = { c with
          tagNext := c.tag.isNone, countdown := (s.dev.reg 0x0F0084).toNat % 16777216 + g.toNat % 2 ^ fld ctrl 16 5 } ∧
        s'.dev.perf = { s.dev.perf with gen := g } ∧ ∀ m, m ≠ n → s'.dev.core m = s.dev.core m) ∧
    (c.tag = some tag → flag ctrl 0 = true → s.dev.perf.stopped = false →
      Does (.sampleRecordWrite t n obs) s fun s' =>
        Sparse.getList sramDefault s'.dev.perf.buf (32 * (i % 1024)) 32 =
          sampleBytes tag n obs (d.clockSec % 4294967296) d.clockNsWord ∧
        s'.dev.reg 0x0F0088 = s.dev.reg 0x0F0088 + 1 ∧ (s'.dev.core n).tag = none ∧
        s'.dev.perf.stopped = (flag ctrl 1 && decide (1024 ≤ i + 1)))

/-! ### The DRAM controller (R335, R336, R341 to R350) -/

/-- Training and the fill, refresh and retraining, set points, self-refresh and the scrubber. That the fill's end
writes nothing more is the model's (log entry 63). -/
def Obligations.DramController : Prop :=
  ∀ (t m k addr : Nat) (r0 r1 : TrainResult) (w : Writer) (v : Word) (f : Forme) (s : State),
    let d := s.dev.at t
    let x := s.dev.dch m
    let r := if m = 0 then r0 else r1
    let chans := b2n (bit f.dram.chMask 0) + b2n (bit f.dram.chMask 1)
    let good := r.rate.isSome && (densityCode (densityOf f.dram.capGib chans r)).isSome
    let ready := s.dev.dcState m = 2
    let held := flag v 0 && s.dev.printing && !s.dev.lowFits
    s.dev.inReset = false → m < 2 →
    (s.dev.forme = some f → s.dev.dcState m = 1 →
      Does (.dramTrainingDone t r0 r1) s fun s' =>
        s'.dev.dcState m = (if good then 2 else 3) ∧ (good = true → flag (s'.dev.reg 0x100004) 8 = true) ∧
        s'.dev.dram = s.dev.dram) ∧
    (flag (s.dev.reg 0x100004) 8 = true →
      Does (.dramFillDone t) s fun s' =>
        flag (s'.dev.reg 0x100004) 8 = false ∧ s'.dev.dcState m = s.dev.dcState m ∧ s'.dev.dram = s.dev.dram) ∧
    (ready → x.selfRefresh = false → s.dev.anyPanic = false →
      Does (.refreshDue t m) s fun s' => s'.dev.out = .dramCmd m 0 :: s.dev.out ∧ s'.dev.regs = s.dev.regs) ∧
    (ready → x.selfRefresh = false → s.dev.anyPanic = true → s.dev.postponed m < 8 →
      Does (.refreshDue t m) s fun s' => s'.dev.postponed m = s.dev.postponed m + 1 ∧ s'.dev.out = s.dev.out) ∧
    (ready →
      Does (.retrainInterval t m) s fun s' =>
        if x.round = none then s'.dev.dch m = { x with round := some 0, due := none, temp := x.read }
        else s'.dev.dch m = x ∧ flag (s'.dev.reg (0x100100 + 0x100 * m)) 20 = true) ∧
    (ready → x.round = some k → (∀ l, x.lastPause = some l → l + 10000000 ≤ d.now) → s.dev.freqWanted = false →
      s.dev.anyPanic = false →
      Does (.retrainPause t m) s fun s' =>
        (s'.dev.dch m).round = (if 4 ≤ k then none else some (k + 1)) ∧ (s'.dev.dch m).lastPause = some d.now ∧
        .dramCmd m 1 ∈ s'.dev.out ∧
        s'.dev.reg (0x100104 + 0x100 * m) = s.dev.reg (0x100104 + 0x100 * m) + (if 4 ≤ k then 1 else 0)) ∧
    (s.dev.takes w 0x100000 = true → flag v 0 = flag (s.dev.reg 0x100000) 0 → flag v 5 = true → ready → x.round = none →
      Does (.dcRetrain t w v) s fun s' => (s'.dev.dch m).round = some 0 ∧ s'.dev.reg 0x100004 = s.dev.reg 0x100004) ∧
    (s.dev.takes w 0x100000 = true → flag v 0 ≠ flag (s.dev.reg 0x100000) 0 → flag v 0 ≠ flag (s.dev.reg 0x100004) 4 →
      flag v 5 = false →
      Does (.setpointChange t w v) s fun s' =>
        flag (s'.dev.reg 0x100000) 0 = flag v 0 ∧ flag (s'.dev.reg 0x100004) 5 = true ∧
        flag (s'.dev.reg 0x100004) 6 = held ∧ flag (s'.dev.reg 0x100004) 4 = flag (s.dev.reg 0x100004) 4 ∧
        (s'.dev.dch m).round = none) ∧
    (s.dev.freqWanted = true → s.dev.anyPanic = false →
      Does (.changePause t) s fun s' =>
        flag (s'.dev.reg 0x100004) 5 = false ∧ flag (s'.dev.reg 0x100004) 4 = flag (s.dev.reg 0x100000) 0 ∧
        (ready → x.round = none → (s'.dev.dch m).round = some 0 ∧ (s'.dev.dch m).selfRefresh = false)) ∧
    (flag (s.dev.reg 0x100000) 3 = true → ready → x.selfRefresh = false → s.dev.postponed m = 0 →
      Does (.srIdleEntry t m none) s fun s' =>
        s'.dev.dch m = { x with selfRefresh := true } ∧ s'.dev.out = .dramCmd m 2 :: s.dev.out) ∧
    (flag (s.dev.reg 0x100000) 4 = true → s.dev.dcState (s.dev.channelOf addr) = 2 →
      Does (.scrubBurstRead t addr .uncorrectable) s fun s' =>
        s'.dev.poisoned (addr / 64 * 64) 64 = true ∧ flag (s'.dev.reg 0x100024) 31 = true ∧
        flag (s'.dev.reg 0x100024) 0 = true ∧ s'.dev.dram = s.dev.dram)

/-! ### Hosts: register writes, ownership and datagrams (R357 to R363, R476) -/

/-- A register write (R363, R476): one whose byte enables are not all set does nothing; one by a writer that does not own
the class only raises EV_OWNER_REJECT and its counter; one that is taken changes that register alone. -/
def Obligations.RegisterWritesAreJudged : Prop :=
  ∀ (t n : Nat) (w : Writer) (v : Word) (be : BitVec 4) (off o : Nat) (c : Option Nat) (row : RegRow) (i j : Nat) (s : State),
    s.dev.inReset = false →
    (be ≠ 0xF → exec (.regWrite t w off v be) s = .next { s with dev := s.dev.at t }) ∧
    (off ∈ [0x040000, 0x080020, 0x090048, 0x0F0000, 0x0F0060, 0x0F0080, 0x100000, 0x110000, 0x120000, 0x130000] →
      regRow off = some (row, i, j) → s.dev.verdict w row.guard i = .reject c o → (lockedBlock off && s.dev.fullChecking) = false →
      Acts (.regWrite t w off v 0xF) t s (fun d => d.rejectWrite w off c o)) ∧
    (s.dev.takes w 0x0F0064 = true → 1 ≤ fld v 0 16 → fld v 0 16 ≤ 60000 →
      Does (.regWrite t w 0x0F0064 v 0xF) s fun s' =>
        fld (s'.dev.reg 0x0F0064) 0 16 = fld v 0 16 ∧ (∀ q, q ≠ 0x0F0064 → s'.dev.reg q = s.dev.reg q) ∧
        s'.dev = { s.dev.at t with regs := s'.dev.regs } ∧ s'.eps = s.eps) ∧
    (n < 2 → Does (.pcieLinkTrained t n 4 4) s fun s' => s'.dev = s.dev.at t)

/-- Datagrams (R357 to R362): OPEN latches the peer of a context that has none; one from the peer whose number is expected
is applied and moves the number on; what is unsound or of a stranger is counted and nothing else; resends give the peer up
after eight, and 5 s of silence release it; ARP and ICMP are answered for the port's own address. -/
def Obligations.DatagramsFromThePeer : Prop :=
  ∀ (t q h pt mac : Nat) (ip tgt sender : Word) (bs payload : List Byte) (s : State),
    let d := s.dev.at t
    let ctx := u8 bs 4
    let c := s.dev.ctx ctx
    let g := s.dev.ctx h
    let addr := u64 bs 16
    let seq : Word := BitVec.ofNat 32 (u32 bs 8)
    let reg := fun o => 0x010200 + 0x20 * q + o
    let sound := s.dev.reg (reg 0) ≠ 0 ∧ s.dev.dgBad q bs = false
    let inOrder := sound ∧ c.peer = some (ip, pt) ∧ c.ahead = [] ∧ bit (u8 bs 5) 0 = false ∧ c.expect = seq
    let applied := fun s' : State =>
      (s'.dev.ctx ctx).expect = seq + 1 ∧ (s'.dev.ctx ctx).lastHeard = d.now ∧ (s'.dev.ctx ctx).peer = c.peer
    let size := u32 bs 24 % 2048
    let due := g.unacked.filter (fun u => decide (u.sentAt + s.dev.rto q ≤ d.now))
    s.dev.inReset = false → q < 2 →
    (sound → u8 bs 3 = 0x03 → bit (u8 bs 5) 0 = false → c.peer = none →
      Does (.dgOpen t q ip pt bs) s fun s' =>
        (s'.dev.ctx ctx).peer = some (ip, pt) ∧ (s'.dev.ctx ctx).expect = seq + 1 ∧ (s'.dev.ctx ctx).lastHeard = d.now) ∧
    (inOrder → u8 bs 3 = 0x01 → 4 ≤ size → size ≤ 1024 → size % 4 = 0 → Does (.regRd t q ip pt bs) s applied) ∧
    (inOrder → u8 bs 3 = 0x02 → u16 bs 6 = 4 → addr % 0x1000000 = 0x0F0064 → s.dev.takes (.host ctx) 0x0F0064 = true →
      1 ≤ u16 bs 32 → u16 bs 32 ≤ 60000 →
      Does (.regWr t q ip pt bs) s fun s' => applied s' ∧ fld (s'.dev.reg 0x0F0064) 0 16 = u16 bs 32) ∧
    (inOrder → u8 bs 3 = 0x04 →
      Does (.dgClose t q ip pt bs) s fun s' => (s'.dev.ctx ctx).peer = none ∧ (s'.dev.ctx ctx).unacked = []) ∧
    (inOrder → u8 bs 3 = 0x05 → Does (.dgKeep t q ip pt bs) s applied) ∧
    (inOrder → u8 bs 3 = 0x10 →
      Does (.rdData t q ip pt bs) s fun s' =>
        applied s' ∧ (s'.dev.ctx ctx).reads = c.reads.erase (BitVec.ofNat 32 (u32 bs 24))) ∧
    (s.dev.reg (reg 0) ≠ 0 → s.dev.dgBad q bs = true →
      Does (.datagramDiscarded t q ip pt bs) s fun s' =>
        s'.dev.reg (reg 0x14) = s.dev.reg (reg 0x14) + 1 ∧ s'.dev.host = s.dev.host ∧ s'.dev.out = s.dev.out) ∧
    (h < 4 → g.peer = some (ip, pt) → s.dev.enPort h = some q →
      Does (.datagramResendTimeout t h) s fun s' =>
        if due.any (fun u => decide (8 ≤ u.sends)) then
          (s'.dev.ctx h).peer = none ∧ s'.dev.reg (reg 0x1C) = s.dev.reg (reg 0x1C) + 1
        else
          (∀ u ∈ due, .datagram q ip pt u.bytes ∈ s'.dev.out) ∧
          (s'.dev.ctx h).unacked = g.unacked.map (fun u =>
            if u.sentAt + s.dev.rto q ≤ d.now then { u with sends := u.sends + 1, sentAt := d.now } else u)) ∧
    (h < 4 → g.peer = some (ip, pt) → g.lastHeard + 5000000000000 ≤ d.now →
      Does (.peerTimeout t h) s fun s' =>
        (s'.dev.ctx h).peer = none ∧ (s'.dev.ctx h).unacked = [] ∧ ∀ k, k ≠ h → s'.dev.ctx k = s.dev.ctx k) ∧
    Does (.arpRequest t q tgt sender mac) s (fun s' =>
      s'.dev.out = if tgt ≠ 0 ∧ tgt = s.dev.reg (reg 0) then
        .arpReply q sender mac (s.dev.host.macs.getD q 0) :: s.dev.out else s.dev.out) ∧
    Does (.icmpEchoRequest t q tgt sender payload) s (fun s' =>
      s'.dev.out = if tgt ≠ 0 ∧ tgt = s.dev.reg (reg 0) then .icmpReply q sender payload :: s.dev.out else s.dev.out)

/-! ### The DMA engine and the interrupt gaps (R364 to R376) -/

/-- A doorbell starts the chain of a channel at rest; STOP waits for the descriptor in progress and halts a channel between
two; ABORT halts every running channel of its context; access to memory that does not respond halts its channel. -/
def Obligations.ChannelsStartAndHalt : Prop :=
  ∀ (t h j addr : Nat) (v : Word) (x : Desc) (s : State),
    let ch := 4 * h + j
    let c := s.dev.chan ch
    let head := (s.dev.dmGet ch 8).toNat + (s.dev.dmGet ch 0xC).toNat * 4294967296
    let others := fun s' : State => ∀ k, k ≠ ch → s'.dev.chan k = s.dev.chan k
    let result := fun s' : State => fld (s'.dev.dmGet ch 4) 20 3
    s.dev.inReset = false → h < 4 → j < 4 →
    (s.dev.takes (.host h) (0x020010 + 0x40 * j) = true → s.dev.dmRuns ch = false →
      Does (.dmDoorbell t h j) s fun s' =>
        s'.dev.dmState ch = 1 ∧ (s'.dev.chan ch).next = head ∧ (s'.dev.chan ch).desc = none ∧ (s'.dev.chan ch).moved = 0 ∧
        others s') ∧
    (s.dev.takes (.host h) (0x020000 + 0x40 * j) = true → flag v 0 = true → s.dev.dmState ch = 1 →
      Does (.dmStop t h j v) s fun s' =>
        (c.desc = some x → s'.dev.dmState ch = 2 ∧ s'.dev.chan ch = c) ∧
        (c.desc = none → s'.dev.dmState ch = 3 ∧ result s' = 1 ∧ s'.dev.dmGet ch 0x1C = 0) ∧ others s') ∧
    (s.dev.takes (.host h) 0x020100 = true → flag v 0 = true → s.dev.dmRuns ch = true →
      Does (.dmAbort t h v) s fun s' =>
        s'.dev.dmState ch = 3 ∧ result s' = 4 ∧ (s'.dev.chan ch).desc = none ∧ (s'.dev.chan ch).pending = none ∧
        (c.desc = some x → s'.dev.dmGet ch 0x1C = BitVec.ofNat 32 (x.len - c.moved))) ∧
    (s.dev.dmRuns ch = true → c.desc = none →
      Does (.nonRespondingMemory t ch .fetch addr) s fun s' =>
        s'.dev.dmState ch = 3 ∧ result s' = 3 ∧ (s'.dev.chan ch).pending = none ∧ others s')

/-- A descriptor is taken up as it stands in the host's memory, or halts its channel where it is misaligned; a burst
from the host goes to DRAM where the descriptor says and moves the count on; a descriptor that has moved all its bytes
is counted, and the last of a chain leaves the channel IDLE (R368 to R373). A source whose gap has passed is signalled
(R366). Whose turn it is and where the bytes come from are the model's (log entries 36, 37). -/
def Obligations.DescriptorsMoveTheirBytes : Prop :=
  ∀ (t h j src : Nat) (b : List Byte) (f : Forme) (r : Region) (y : Desc) (s : State),
    let ch := 4 * h + j
    let c := s.dev.chan ch
    let x := parseDesc c.next (padTo 64 0 b)
    let n := min 4096 (y.len - c.moved)
    let a := y.dst + c.moved
    s.dev.inReset = false → h < 4 → j < 4 →
    (s.dev.dmRuns ch = true → c.desc = none → c.next % 64 = 0 → s.dev.hostReachable h = true →
      descBad (padTo 64 0 b) x = false →
      Does (.descriptorFetch t ch b) s fun s' =>
        (x.misaligned = true → s'.dev.dmState ch = 3 ∧ fld (s'.dev.dmGet ch 4) 20 3 = 2 ∧ (s'.dev.chan ch).desc = none) ∧
        (x.misaligned = false → s.dev.descRefused h x = none →
          s'.dev.chan ch = { c with desc := some x, moved := 0 } ∧ s'.dev.dmGet ch 0x14 = BitVec.ofNat 32 c.next ∧
          s'.dev.dmState ch = s.dev.dmState ch)) ∧
    (s.dev.nextChan = some ch → c.desc = some y → y.srcSpace = 0 → y.dstSpace = 1 → y.mode = 0 →
      s.dev.hostReachable h = true → b ≠ [] → s.dev.forme = some f → f.regionAt a = some r → r.kind = 3 →
      a % 65536 + n ≤ 65536 → (∀ k < 2, s.dev.dcState k ≠ 3) → s.dev.dramBusy = false →
      Does (.dmaBurst t ch b) s fun s' =>
        s'.dev.dramRead a (b.take n).length = b.take n ∧ (s'.dev.chan ch).moved = c.moved + (b.take n).length ∧
        (s'.dev.chan ch).desc = some y ∧ ∀ k, k ≠ ch → s'.dev.chan k = s.dev.chan k) ∧
    (s.dev.dmState ch = 1 → c.desc = some y → y.len ≤ c.moved → s.dev.unackedWrites h y = false → y.end_ = true →
      c.pending = none →
      Does (.descriptorComplete t ch) s fun s' =>
        s'.dev.dmState ch = 0 ∧ (s'.dev.chan ch).desc = none ∧ s'.dev.dmGet ch 0x20 = s.dev.dmGet ch 0x20 + 1 ∧
        flag (s'.dev.dmGet ch 4) 31 = true) ∧
    (src < 8 → src ≠ 0 → s.dev.enPort h = none → s.dev.hostReachable h = true → (s.dev.at t).irqDue h src = true →
      Does (.irqGapExpire t h src) s fun s' =>
        src ∉ (s'.dev.ctx h).held ∧ Sparse.get (fun _ => 0) (s'.dev.ctx h).lastIrq src = (s.dev.at t).now + 1 ∧
        (s'.dev.ctx h).peer = (s.dev.ctx h).peer)

/-! ### Timekeeping (R406 to R424) -/

/-- PTP messages (R413 to R417): the offset of a Sync from the parent, one-step or completed by its Follow_Up, the delays
that the responses give, Announces heard, requests answered and messages sent. -/
def Obligations.TimeMessages : Prop :=
  ∀ (t q i : Nat) (m : PtpMsg) (a : AnnounceBody) (r : Nat × Nat × Int) (t1 t2 corr : Int) (s : State),
    let d := s.dev.at t
    let x := s.dev.dom i
    let num := s.dev.tk.nums.getD i 0
    let asym := s.dev.asym q
    let sent := msgTime m
    let asked := x.reqs.find? (fun r => r.1 == q && r.2.1 == m.seq)
    let quota := Sparse.get (fun _ => (0, 0)) s.dev.tk.answered q
    let free := quota.1 ≠ d.now / 1000000000000 ∨ quota.2 < 256
    let sec := fun (v : Int) => (v / 65536).toNat / 1000000000
    let ns := fun (v : Int) => (v / 65536).toNat % 1000000000
    let at_ := d.arrival q
    let go := d.departure q
    let next := fun kind => Sparse.get (fun _ => 0) s.dev.tk.seqs (q * 256 + kind * 16 + i)
    s.dev.inReset = false → q < 2 → i < 2 → s.dev.domOf m.dom = some i →
    (s.dev.fromParent i q m = true → -7 ≤ m.logInterval → m.logInterval ≤ 1 →
      Does (.ptpSync t q m) s fun s' =>
        if m.twoStep then (s'.dev.dom i).two = some (m.seq, at_, m.corr)
        else (s'.dev.dom i).theta = at_ - (sent + m.corr) - asym - x.delay ∧ (s'.dev.dom i).n = x.n + 1) ∧
    (s.dev.fromParent i q m = true → x.two = some (m.seq, t2, corr) →
      Does (.ptpFollowUp t q m) s fun s' => (s'.dev.dom i).theta = t2 - (sent + corr + m.corr) - asym - x.delay) ∧
    (s.dev.domMaster i q = true → free →
      (s.dev.domP2p i = false →
        Does (.ptpDelayReq t q m) s fun s' =>
          .ptp q 9 num m.seq (sec at_) (ns at_) (m.corr - at_ % 65536) ∈ s'.dev.out) ∧
      (s.dev.domP2p i = true →
        Does (.ptpPdelayReq t q m) s fun s' => ∃ turn : Nat, .ptp q 3 num m.seq 0 0 (m.corr + turn) ∈ s'.dev.out)) ∧
    (asked = some r → x.sync = some (t1, t2) → s.dev.fromParent i q m = true → s.dev.domP2p i = false →
      m.requester = s.dev.portIdentity q →
      Does (.ptpDelayResp t q m) s fun s' =>
        (s'.dev.dom i).delay = ((t2 - t1 - asym) + (sent - r.2.2 - m.corr)) / 2 ∧ (s'.dev.dom i).theta = x.theta) ∧
    (asked = some r → s.dev.domP2p i = true → s.dev.domRx i q = true → m.requester = s.dev.portIdentity q →
      m.followUp = false → m.twoStep = false →
      Does (.ptpPdelayResp t q m) s fun s' =>
        (s'.dev.dom i).delay = (at_ - r.2.2 - m.corr - asym) / 2 ∧ (s'.dev.dom i).theta = x.theta) ∧
    (s.dev.domRx i q = true → a.ptpTimescale = true →
      Does (.ptpAnnounce t q m a) s fun s' =>
        ∃ p ∈ (s'.dev.dom i).masters, p.src = m.src ∧ p.port = q ∧ p.body = a ∧ p.at_ = d.now) ∧
    Does (.ptpOther t q m) s (fun s' =>
      s'.dev.reg (0x120214 + 0x20 * q) = s.dev.reg (0x120214 + 0x20 * q) + 1 ∧ s'.dev.tk = s.dev.tk ∧ s'.dev.clock = s.dev.clock) ∧
    (s.dev.domRx i q = true → s.dev.tk.nums.getD i 0xFF ≠ 0xFF → s.dev.domP2p i = true →
      Does (.delayReqSend t q i) s fun s' =>
        (s'.dev.dom i).reqs = (q, next 2, go) :: x.reqs.take 15 ∧ .ptp q 2 num (next 2) 0 0 (-asym) ∈ s'.dev.out) ∧
    (s.dev.domMaster i q = true →
      Does (.masterSyncSend t q i) s fun s' => .ptp q 0 num (next 0) (sec go) (ns go) (go % 65536) ∈ s'.dev.out) ∧
    (s.dev.domMaster i q = true → x.gm = some a →
      Does (.masterAnnounceSend t q i) s fun s' => .announce q num (next 11) { a with steps := a.steps + 1 } ∈ s'.dev.out)

/-- The clock and its domains (R408, R410, R411, R414, R418): STEP sets the clock to TK_SET with the next time epoch where a
step is allowed and else waits; a step that waited is made; a domain whose parent is overdue listens again; TD0 takes its
place back after RETURN_S; a snapshot comes from one sample. -/
def Obligations.TheClockSteps : Prop :=
  ∀ (t i : Nat) (w : Writer) (v : Word) (p : PtpParent) (src port t0 : Nat) (s : State),
    let d := s.dev.at t
    let x := s.dev.dom i
    let set := (((s.dev.reg 0x120010).toNat + fld (s.dev.reg 0x120014) 0 16 * 4294967296) * 1000000000
      + fld (s.dev.reg 0x120018) 0 30) * 1099511627776
    let stepped := fun s' : State =>
      s'.dev.clock = { s.dev.clock with val := set, since := d.now, epoch := (s.dev.clock.epoch + 1) % 256 } ∧
      s'.dev.tk.pend = none
    let h := s.dev.window w
    s.dev.inReset = false → i < 2 →
    (s.dev.takes w 0x120000 = true → flag v 0 = true → fld v 8 8 ≠ 0 → fld (s.dev.reg 0x120018) 0 30 < 1000000000 →
      Does (.tkStep t w v) s fun s' =>
        (s.dev.stepAllowed = true → stepped s') ∧
        (s.dev.stepAllowed = false → s'.dev.tk.pend = some 3 ∧ s'.dev.clock = s.dev.clock)) ∧
    (s.dev.tk.pend = some 3 → s.dev.stepAllowed = true → Does (.pendingStepMade t) s stepped) ∧
    (s.dev.domState i = 2 → x.parent = some (src, port) →
      x.masters.find? (fun p => x.parent == some (p.src, p.port)) = some p →
      p.at_ + s.dev.annTimeout i * logPs p.interval ≤ d.now →
      Does (.domainLost t i) s fun s' =>
        s'.dev.domState i = 0 ∧ (s'.dev.dom i).parent = none ∧ (s'.dev.dom i).masters = [] ∧
        s'.dev.reg (0x12011C + 0x40 * i) = s.dev.reg (0x12011C + 0x40 * i) + 1) ∧
    ((s.dev.dom 0).lockedAt = some t0 → s.dev.tkSrc = 2 → s.dev.domState 0 = 2 →
      t0 + fld (s.dev.reg 0x120000) 8 8 * 1000000000000 ≤ d.now →
      Does (.domainReturn t) s fun s' => s'.dev.tkSrc = 1 ∧ s'.dev.clock = s.dev.clock) ∧
    (s.dev.takes w 0x120020 = true → flag v 0 = true →
      Does (.tkSnapTake t w v) s fun s' =>
        s'.dev.regOf h 0x120028 = BitVec.ofNat 32 d.clockSec ∧ s'.dev.regOf h 0x120030 = BitVec.ofNat 32 d.clockNs ∧
        s'.dev.regOf h 0x120038 = low32 d.p ∧ s'.dev.regOf h 0x12003C = high32 d.p ∧
        flag (s'.dev.regOf h 0x120024) 31 = true ∧ s'.dev.tk = s.dev.tk)

/-- Time pulses and captures (R419 to R423): a single pulse armed stands ARMED, or MISSED where its time is past; its edge
starts the output's pulse, which ends after its width; a capture takes the clock and P of its edge and TC_POP gives the
oldest to its owner. -/
def Obligations.PulsesAndCaptures : Prop :=
  ∀ (t n k : Nat) (w : Writer) (v : Word) (falling : Bool) (e : Capture) (rest : List Capture) (s : State),
    let d := s.dev.at t
    let u := s.dev.tp n
    let reg := fun o => 0x120400 + 0x20 * n + o
    let cap := fun o => 0x120600 + 0x20 * k + o
    let c := s.dev.tc k
    let h := s.dev.window w
    s.dev.inReset = false → n < 8 → k < 4 →
    (s.dev.takes w (reg 0) = true → flag v 0 = true → flag v 1 = false → flag v 2 = false → s.dev.tpLegal n = true →
      Does (.tpArm t w n v) s fun s' => s'.dev.tpState n = (if d.tpPast (s.dev.tpStart n) then 2 else 1)) ∧
    (s.dev.takes w (reg 0) = true → flag v 0 = false → flag v 1 = true → u.active = false →
      Does (.tpDisarm t w n v) s fun s' => s'.dev.tpState n = 0 ∧ (s'.dev.tp n).m = 0 ∧ ∀ j, j ≠ n → s'.dev.tp j = s.dev.tp j) ∧
    (s.dev.tpState n = 1 → u.disarm = false → s.dev.tpTarget n u.m * 1099511627776 ≤ d.localNow →
      Does (.tpEdge t n) s fun s' =>
        (s'.dev.tp n).active = true ∧ (s'.dev.tp n).pulseEnd = d.now + 1000 * (s.dev.reg (reg 0x14)).toNat ∧
        s'.dev.reg (reg 0x1C) = s.dev.reg (reg 0x1C) + 1 ∧
        s'.dev.tpState n = if flag (s.dev.reg (reg 0)) 2 then 1 else 3) ∧
    (u.active = true → u.pulseEnd ≤ d.now → u.disarm = false →
      Does (.tpPulseEnd t n) s fun s' => s'.dev.tp n = { u with active := false } ∧ s'.dev.regs = s.dev.regs) ∧
    (flag (s.dev.reg (cap 0)) (b2n falling) = true → c.queue.length < 16 →
      Does (.tcEdge t k falling) s fun s' =>
        s'.dev.tc k = { c with queue := c.queue ++
          [{ sec := d.clockSec, ns := d.clockNs, epoch := s.dev.clock.epoch, falling := falling, p := d.p }] }) ∧
    (s.dev.owner 3 k ≠ none → s.dev.asHost w = s.dev.owner 3 k → c.queue = e :: rest →
      Does (.tcPop t w k) s fun s' =>
        s'.dev.tc k = { queue := rest, ovf := false } ∧ s'.dev.regOf h (cap 8) = BitVec.ofNat 32 e.sec ∧
        s'.dev.regOf h (cap 0x10) = BitVec.ofNat 32 e.ns ∧ s'.dev.regOf h (cap 0x14) = low32 e.p ∧
        .answer w (cap 4) (BitVec.ofNat 32 (b2n c.ovf * 0x40000000 + e.epoch * 65536 + b2n e.falling * 256 + rest.length))
          ∈ s'.dev.out)

/-! ### Slack, heat and housekeeping (R426 to R443, R470) -/

/-- A round reads the sensors and the supplies, trips at 125 °C and asks at 100 °C; an ask cause that outlasts GRACE makes the
device ENFORCED with the voltage rung taken; a governor tick under ENFORCED raises the set point by 20 mV within its
ceiling, and with no job running and no GOV_HOLD goes to the mode's floor by steps of 5 mV; a plumb sample keeps the least quotient. -/
def Obligations.HousekeepingAndHeat : Prop :=
  ∀ (t i sensor : Nat) (obs : HkObs) (counts : List Nat) (f : Forme) (hot : Int) (s : State),
    let d := s.dev.at t
    let temps := s.dev.readings obs.die
    let floor := govFloor s.dev.runCfg.powerMode
    let quotient := fun i => if s.dev.hk.oscFuses.getD i 0 = 0 then 0
      else counts.getD i 0 * 1024 / s.dev.hk.oscFuses.getD i 0
    s.dev.inReset = false →
    completes (.hkRound t obs) s ∧
    (s.dev.forme = none →
      Does (.hkRound t obs) s fun s' =>
        (i < 24 → s'.dev.reg (0x130040 + 4 * i) = BitVec.ofNat 32 (tempField (temps.getD i none))) ∧
        s'.dev.reg 0x130020 = s.dev.reg 0x130020 + 1 ∧ flag (s'.dev.reg 0x130004) 31 = true ∧ s'.dev.hk.roundAt = d.now ∧
        (hottest temps = some (sensor, hot) → 2000 ≤ hot → s'.dev.tripped = true) ∧
        (hottest temps = some (sensor, hot) → 1600 ≤ hot → flag (s'.dev.reg 0x130004) 1 = true) ∧
        s'.dev.job = s.dev.job) ∧
    (s.dev.thState = 1 → s.dev.thCauses ≠ 0 → d.graceCount.graceOver = true →
      Does (.graceExpire t) s fun s' =>
        s'.dev.thState = 2 ∧ s'.dev.thCauses = s.dev.thCauses ∧ s'.dev.hk.taken = [(1, true)] ∧ s'.dev.job = s.dev.job) ∧
    (s.dev.forme = some f → s.dev.vsetFault = false → s.dev.thState = 2 →
      Does (.govTick t) s fun s' => s'.dev.vset = min (s.dev.vset + 20) s.dev.ceiling ∧ s'.dev.ceiling = s.dev.ceiling) ∧
    (s.dev.forme = some f → s.dev.vsetFault = false → s.dev.thState ≠ 2 → s.dev.govHold = false → s.dev.printing = false →
      floor < s.dev.vset →
      Does (.govTick t) s fun s' =>
        s'.dev.vset = min (max floor (s.dev.vset - 5)) s.dev.ceiling ∧ s'.dev.ceiling = s.dev.ceiling) ∧
    Does (.plumbSample t counts) s (fun s' =>
      (∀ i < 8, (s'.dev.reg 0x130018).toNat ≤ quotient i) ∧
      ((∃ i < 8, quotient i ≤ 65535) → ∃ i < 8, (s'.dev.reg 0x130018).toNat = quotient i) ∧
      ∀ off, off ≠ 0x130018 → s'.dev.reg off = s.dev.reg off)

/-! ### Serial lanes (R444 to R459) -/

/-- Signal and lock of a receiver, and what a bar link does with them; electrical idle and the deep state of a
transmitter (R235, R448 to R453). What a lock on a lane that kept its own does is the model's reading (log entry 61).
-/
def Obligations.LanesFollowTheirSignal : Prop :=
  ∀ (t n t0 : Nat) (f : Forme) (s : State),
    let reg := fun o => 0x140000 + 0x40 * n + o
    let st := s.dev.blState n
    s.dev.inReset = false → n < 36 →
    (s.dev.laneLos n = false →
      Does (.lossOfSignal t n) s fun s' =>
        s'.dev.laneLos n = true ∧ s'.dev.laneLock n = false ∧ s'.dev.reg (reg 0x2C) = s.dev.reg (reg 0x2C) + 1 ∧
        (n < 32 → 1 ≤ st → st ≤ 5 → s'.dev.blState n = 0)) ∧
    (s.dev.laneLos n = true →
      Does (.signalRestored t n) s fun s' => s'.dev.laneLos n = false ∧ s'.dev.laneLock n = s.dev.laneLock n) ∧
    (s.dev.laneLos n = false → s.dev.laneLock n = false →
      Does (.blockLock t n) s fun s' =>
        s'.dev.laneLock n = true ∧ (n < 32 → st = 0 → s.dev.phy n = 2 → s'.dev.blState n = 1)) ∧
    (s.dev.laneLock n = true →
      Does (.lockLost t n) s fun s' =>
        s'.dev.laneLock n = false ∧ s'.dev.reg (reg 0x30) = s.dev.reg (reg 0x30) + 1 ∧
        s'.dev.reg (reg 0x28) = s.dev.reg (reg 0x28) + 16 ∧ (n < 32 → 1 ≤ st → st ≤ 5 → s'.dev.blState n = 0)) ∧
    (n < 32 → s.dev.forme = some f → (s.dev.at t).mayIdle f n = true →
      Does (.eidleEnter t n) s fun s' =>
        s'.dev.phy n = 1 ∧ .barFrame n (s.dev.testFrame n 1) ∈ s'.dev.out ∧ s'.dev.blState n = st) ∧
    (n < 32 → s.dev.phy n = 1 →
      Does (.eidleExit t n) s fun s' => s'.dev.phy n = 2 ∧ s'.dev.blState n = st ∧ s'.dev.lanes = s.dev.lanes) ∧
    ((s.dev.lane n).exitAt = some t0 → s.dev.phy n = 3 → t0 + 1500000000 ≤ (s.dev.at t).now →
      Does (.deepStateExitDone t n) s fun s' => s'.dev.phy n = 2 ∧ (s'.dev.lane n).exitAt = none)

/-- Lane tests (R455 to R459): a test begun takes the lane out of service for its length, and leaves its counts, PLOCK and
TDONE; TMODE 0 ends it early, with what was counted free (log entry 35); ERRINJ flips a bit; CLR clears the counters. -/
def Obligations.LaneTests : Prop :=
  ∀ (t n : Nat) (w : Writer) (v : Word) (obs : LaneObs) (x : LaneTest) (s : State),
    let d := s.dev.at t
    let reg := fun o => 0x140000 + 0x40 * n + o
    let y := s.dev.lane n
    let begins := fun (c : Instr) (mode : Nat) =>
      y.test = none → fld v 0 2 = mode → s.dev.testBarred w n = false →
        Does c s fun s' =>
          (∃ z, (s'.dev.lane n).test = some z ∧ z.mode = mode ∧
            z.endAt = d.now + fld (s.dev.reg (reg 0x18)) 0 16 * 10000000000) ∧
          s'.dev.phy n = (if mode = 3 then 0 else 4) ∧ s'.dev.laneLock n = false ∧
          flag (s'.dev.reg (reg 4)) 31 = false ∧ (n < 32 → s'.dev.blState n = 0)
    s.dev.inReset = false → n < 36 →
    (y.test = some x → x.endAt ≤ d.now →
      Does (.laneTestEnd t n obs) s fun s' =>
        (s'.dev.lane n).test = none ∧ (s'.dev.lane n).bits = (y.bits + obs.bits) % 281474976710656 ∧
        flag (s'.dev.reg (reg 4)) 6 = obs.plock ∧ flag (s'.dev.reg (reg 4)) 7 = true ∧ flag (s'.dev.reg (reg 4)) 31 = true) ∧
    (s.dev.takes w (reg 0) = true → fld v 4 3 ≤ 4 →
      begins (.laneTestPattern t w n v) 1 ∧ begins (.laneTestFarLoop t w n v) 2 ∧ begins (.laneTestNearLoop t w n v) 3 ∧
      (y.test = some x → x.mode ≠ 0 → fld v 0 2 = 0 →
        Does (.laneTestOff t w n v) s fun s' =>
          (s'.dev.lane n).test = none ∧ flag (s'.dev.reg (reg 4)) 7 = false ∧ flag (s'.dev.reg (reg 4)) 31 = true) ∧
      (y.test = none → fld v 0 2 = 0 → flag v 8 = false → flag v 9 = true → 2 ≤ s.dev.phy n →
        Does (.laneErrinj t w n v) s fun s' => s'.dev.out = .bitFlip n :: s.dev.out ∧ s'.dev.lanes = s.dev.lanes) ∧
      (y.test = none → fld v 0 2 = 0 → flag v 8 = true →
        Does (.laneClr t w n v) s fun s' =>
          (s'.dev.lane n).bits = 0 ∧ s'.dev.reg (reg 0x1C) = 0 ∧ s'.dev.reg (reg 0x28) = 0 ∧ s'.dev.reg (reg 0x2C) = 0 ∧
          s'.dev.reg (reg 0x30) = 0 ∧ s'.dev.links = s.dev.links))

/-! ### The twin (R379 to R405) -/

/-- Pairs form and come apart (R384, R386 to R388, R402 to R405): a matching HELLO pairs a waiting unit, a BEAT is noted,
links and heartbeats time out, waits end, and TW_CTRL's actions are taken. -/
def Obligations.PairsForm : Prop :=
  ∀ (t q : Nat) (w : Writer) (v : Word) (m : Hello) (b : Beat) (f : Forme) (td : Nat) (s : State),
    let d := s.dev.at t
    let st := s.dev.twState
    let bit' := fun n => flag (s.dev.reg 0x110004) n
    let mine := s.dev.takes w 0x110000 = true ∧ w ≠ .core 0
    let ready := st = 5 ∧ f.twin.rank = 0x80 ∧ bit' 10 = true ∧ bit' 12 = false ∧ s.dev.printing = true
    s.dev.inReset = false → q < 2 → s.dev.forme = some f → f.twin.twin = true →
    (st = 1 → m.twin = true → helloDiff (s.dev.helloMsg f) m = none →
      Does (.twHello t q m) s fun s' => s'.dev.twState = if m.claim = 0 ∧ f.twin.rank = 0x80 then 3 else 4) ∧
    Does (.twBeat t q b) s (fun s' => s'.dev.tw.lastBeat = d.now ∧ s'.dev.tw.beatHeard = true) ∧
    ((∀ k, (s.dev.bl k).lost = none) → st ≠ 9 → s.dev.tripped = false → s.dev.twLive q = true →
      Does (.twBeatSend t) s fun s' =>
        ∃ x : Beat, .twinFrame q none (.beat x) ∈ s'.dev.out ∧ x.k0 = s.dev.enc.e0.k ∧ x.pos = s.dev.fir.pos / 4294967296 ∧
          x.inc = s.dev.inc ∧ x.ready = bit' 10) ∧
    (s.dev.twUp q = true → (s.dev.twin q).last + 1000000000 ≤ d.now →
      Does (.twLinkTimeout t q) s fun s' => s'.dev.twUp q = false ∧ (s'.dev.twin q).heard = false ∧ s'.dev.twState = st) ∧
    (d.beatLost = true → s.dev.tw.fails = [] →
      Does (.heartbeatLoss t) s fun s' =>
        s'.dev.tw.beatHeard = false ∧ s'.dev.twState = if st = 3 then 2 else if st = 4 then 1 else if st = 5 then 6 else st) ∧
    (s.dev.tw.td = some td → td + 50000000000 ≤ d.now → st = 8 →
      Does (.takeoverTimeout t) s fun s' => s'.dev.twState = if s.dev.twPort.isSome then 3 else 2) ∧
    (st = 1 → f.twin.rank = 0x80 → s.dev.tw.peer = none →
      s.dev.cc.loadedAt + fld (s.dev.reg 0x110008) 16 16 * 1000000000 ≤ d.now →
      Does (.pairWaitExpire t) s fun s' => s'.dev.twState = 2 ∧ s'.dev.reg 0x110024 = 0xFF05) ∧
    (ready → d.holdoffOver f = true → flag (s.dev.reg 0x110000) 3 = false →
      Does (.holdoffExpire t) s fun s' => s'.dev.twState = 9 ∧ s'.dev.tw.claimed = []) ∧
    (mine → flag v 0 = false → flag v 1 = false → flag v 2 = true → flag v 3 = false → ready → s.dev.tw.readySince.isSome = true →
      Does (.revertNow t w v) s fun s' => s'.dev.twState = 9) ∧
    (mine → flag v 0 = false → flag v 1 = true → flag v 2 = false → st = 5 →
      Does (.twResync t w v) s fun s' => s'.dev.twState = 4 ∧ s'.dev.ups = []) ∧
    (mine → flag v 0 = true → flag v 1 = false → flag v 2 = false → st = 1 →
      Does (.twAlone t w v) s fun s' => s'.dev.twState = 2 ∧ s'.dev.reg 0x110024 = 0xFF04)

/-- Numbered frames and what a standby takes from them (R382, R391 to R396): the frame next in number is applied and
acknowledged; a checkpoint is sent and an acknowledgement takes frames off; unacknowledged frames are sent again; a probe is
answered. -/
def Obligations.TwinFramesAreApplied : Prop :=
  ∀ (t q off i : Nat) (seq word : Word) (b : List Byte) (dig : IntDigest) (f : Forme) (base : Nat) (s : State),
    let d := s.dev.at t
    let tw := s.dev.tw
    let next := s.dev.forme = some f ∧ f.twin.twin = true ∧ q < 2 ∧ lineDiff seq tw.applied = 1 ∧ tw.ahead = []
    let standby := s.dev.standby = true
    let told := fun s' : State => s'.dev.tw.applied = seq ∧ (s.dev.twLive q = true → .twinFrame q none (.ack seq) ∈ s'.dev.out)
    s.dev.inReset = false →
    (next → standby → frameGood 0x43 0x2A4 b = true →
      Does (.twCkpt t q seq b) s fun s' =>
        s'.dev.tw.applied = seq ∧ s'.dev.fir.pmax = ckptPmax b ∧ s'.dev.fir.gain = u32 b 0x1C) ∧
    (next → standby → f.mirrorBase = some base → (∀ k < 2, s.dev.dcState k ≠ 3) →
      Does (.twMirror t q seq off b false) s fun s' => told s' ∧ s'.dev.dramRead (base + off) b.length = b) ∧
    (next → standby → i < 0x100000 →
      Does (.twState t q seq (.word i word)) s fun s' =>
        told s' ∧ Sparse.get nzDefault s'.dev.nz.table i = word ∧
        ∀ k, k ≠ i → Sparse.get nzDefault s'.dev.nz.table k = Sparse.get nzDefault s.dev.nz.table k) ∧
    (next → standby → tw.echoes = [] →
      Does (.twIdig t q seq [dig]) s fun s' => told s' ∧ (d.now, dig) ∈ s'.dev.tw.idigs) ∧
    (s.dev.forme = some f → f.twin.twin = true → s.dev.mirroring = true → tw.unacked.length < 256 →
      Does (.twCkptSend t) s fun s' =>
        s'.dev.tw.nextSeq = tw.nextSeq + 1 ∧
        s'.dev.tw.unacked = tw.unacked ++ [{ seq := tw.nextSeq, frame := .ckpt (d.ckptBytes f tw.nextSeq), at_ := d.now }]) ∧
    (s.dev.forme = some f → f.twin.twin = true → q < 2 → tw.waiting = [] →
      (s.dev.twActive = false ∨ s.dev.job.phase = .idle) →
      Does (.twAck t q seq) s fun s' =>
        s'.dev.tw.unacked = tw.unacked.filter (fun u => decide (0 < lineDiff u.seq seq)) ∧ s'.dev.job = s.dev.job) ∧
    (s.dev.forme = some f → f.twin.twin = true → q < 2 → s.dev.twLive q = true →
      Does (.twProbe t q false seq 0 0) s fun s' => .twinFrame q none .probeEcho ∈ s'.dev.out ∧ (s'.dev.twin q).last = d.now) ∧
    (s.dev.forme = some f → f.twin.twin = true → s.dev.twPort = some q → ∀ u us, tw.unacked = u :: us →
      u.at_ + 50000000 ≤ d.now →
      Does (.twResendTimeout t) s fun s' =>
        s'.dev.tw.unacked = tw.unacked.map (fun u => { u with at_ := d.now }) ∧
        ∀ x ∈ tw.unacked, .twinFrame q (some x.seq) x.frame ∈ s'.dev.out)

/-- Echoes watched and places handed back (R396, R397, R403): a block overdue at a head is counted and fails it; the active
unit answers a request with the hand-over seam, the primary takes it, and an abort or a link that is not ready ends it. -/
def Obligations.EchoesAndReversion : Prop :=
  ∀ (t q k p block : Nat) (seam : Int) (f : Forme) (h : HeadCfg) (s : State),
    let d := s.dev.at t
    let st := s.dev.twState
    let tw := s.dev.tw
    s.dev.inReset = false → q < 2 → k < 32 → s.dev.forme = some f → f.twin.twin = true →
    (st = 5 → d.beatLost = false → s.dev.printing = true → (f.linkHeads k).find? (fun h => h.port == p) = some h →
      tw.overdue.find? (fun x => x.1 == k && x.2.1 == p) = none → Sparse.get (fun _ => 0) tw.blocks (8 * k + p) ≤ block →
      d.firePos f h (f.rowLine h.row (256 * block + 256) - f.rowStep h.row) ≤ d.p →
      Does (.echoOverdue t k p block) s fun s' =>
        s'.dev.reg 0x110034 = s.dev.reg 0x110034 + 1 ∧ (k, p, block, 1) ∈ s'.dev.tw.overdue ∧ 8 * k + p ∈ s'.dev.tw.fails ∧
        s'.dev.twState = 5) ∧
    (st = 2 ∨ st = 3 ∨ st = 8 → d.handoverLine f = some seam →
      Does (.revertRequest t q) s fun s' =>
        s'.dev.tw.seam = some seam ∧ s'.dev.reg 0x110020 = low32 seam ∧ s'.dev.ups.length = s.dev.ups.length + 1 ∧
        (s.dev.twLive q = true → .twinFrame q none (.revert 1 seam) ∈ s'.dev.out)) ∧
    (st = 9 → s.dev.printing = false →
      Does (.revertAck t q seam) s fun s' =>
        s'.dev.tw.seam = some seam ∧ s'.dev.reg 0x110020 = low32 seam ∧ s'.dev.tw.claimed = [] ∧ s'.dev.twState = 9) ∧
    (Does (.revertAbort t q) s fun s' => s'.dev.tw.seam = none ∧ (st = 9 → s'.dev.twState = 5)) ∧
    (st = 9 → (f.link k).inUse = true → s.dev.blUp k = false →
      Does (.revertReadyCheck t) s fun s' => s'.dev.twState = 5 ∧ s'.dev.tw.seam = none)
end

