-- ==== Sys2Proof/Laws/Sparse.lean ====
section
/-!
SUPPORT. The laws of the sparse store: a read after a write gives the value written, a write leaves every other index
alone, and every operation keeps the canonical form.
-/
namespace Sys2Proof.Machine

variable {α : Type}

theorem Sparse.get_put_self (dflt : Nat → α) (m : Sparse α) (k : Nat) (v : α) : Sparse.get dflt (Sparse.put m k v) k = v := by
  induction m with
  | nil => simp [Sparse.put, Sparse.get]
  | cons e m ih =>
    obtain ⟨i, w⟩ := e
    by_cases h1 : k < i
    · simp [Sparse.put, Sparse.get, h1]
    · by_cases h2 : i = k
      · simp [Sparse.put, Sparse.get, h2]
      · simp [Sparse.put, Sparse.get, h1, h2, ih]

theorem Sparse.get_put_of_ne (dflt : Nat → α) (m : Sparse α) {j k : Nat} (v : α) (h : j ≠ k) :
    Sparse.get dflt (Sparse.put m k v) j = Sparse.get dflt m j := by
  induction m with
  | nil => simp [Sparse.put, Sparse.get, h.symm]
  | cons e m ih =>
    obtain ⟨i, w⟩ := e
    by_cases h1 : k < i
    · simp [Sparse.put, Sparse.get, h1, h.symm]
    · by_cases h2 : i = k
      · subst h2; simp [Sparse.put, Sparse.get, h.symm]
      · simp [Sparse.put, Sparse.get, h1, h2, ih]

theorem Sparse.get_erase_self (dflt : Nat → α) (m : Sparse α) (k : Nat) : Sparse.get dflt (Sparse.erase m k) k = dflt k := by
  induction m with
  | nil => rfl
  | cons e m ih =>
    obtain ⟨i, w⟩ := e
    by_cases h : i = k <;> simp [Sparse.erase, Sparse.get, h, ih]

theorem Sparse.get_erase_of_ne (dflt : Nat → α) (m : Sparse α) {j k : Nat} (h : j ≠ k) :
    Sparse.get dflt (Sparse.erase m k) j = Sparse.get dflt m j := by
  induction m with
  | nil => rfl
  | cons e m ih =>
    obtain ⟨i, w⟩ := e
    by_cases h2 : i = k
    · subst h2; simp [Sparse.erase, Sparse.get, h.symm, ih]
    · simp [Sparse.erase, Sparse.get, h2, ih]

/-- A read after a write. -/
theorem Sparse.get_set [DecidableEq α] (dflt : Nat → α) (m : Sparse α) (j k : Nat) (v : α) :
    Sparse.get dflt (Sparse.set dflt m k v) j = if j = k then v else Sparse.get dflt m j := by
  unfold Sparse.set
  split
  · rename_i hv
    split
    · rename_i h; subst h; rw [Sparse.get_erase_self, hv]
    · rename_i h; exact Sparse.get_erase_of_ne dflt m h
  · split
    · rename_i h; subst h; exact Sparse.get_put_self dflt m _ v
    · rename_i h; exact Sparse.get_put_of_ne dflt m v h

@[simp] theorem Sparse.get_set_self [DecidableEq α] (dflt : Nat → α) (m : Sparse α) (k : Nat) (v : α) :
    Sparse.get dflt (Sparse.set dflt m k v) k = v := by simp [Sparse.get_set]

theorem Sparse.get_set_of_ne [DecidableEq α] (dflt : Nat → α) (m : Sparse α) {j k : Nat} (v : α) (h : j ≠ k) :
    Sparse.get dflt (Sparse.set dflt m k v) j = Sparse.get dflt m j := by simp [Sparse.get_set, h]

/-- A read after consecutive writes. -/
theorem Sparse.get_setList [DecidableEq α] (dflt : Nat → α) (vs : List α) (m : Sparse α) (j k : Nat) :
    Sparse.get dflt (Sparse.setList dflt m k vs) j =
      if h : k ≤ j ∧ j < k + vs.length then vs[j - k]'(by omega) else Sparse.get dflt m j := by
  induction vs generalizing m k with
  | nil => simp only [Sparse.setList]; rw [dif_neg (by simp)]
  | cons v vs ih =>
    rw [Sparse.setList, ih, Sparse.get_set]
    by_cases h1 : k + 1 ≤ j ∧ j < k + 1 + vs.length
    · have h2 : k ≤ j ∧ j < k + (v :: vs).length := by simp; omega
      rw [dif_pos h1, dif_pos h2]
      rw [List.getElem_cons, dif_neg (by omega)]
      congr 1
    · rw [dif_neg h1]
      by_cases h3 : j = k
      · subst h3; simp
      · rw [if_neg h3, dif_neg (by simp; omega)]

theorem Sparse.getList_length (dflt : Nat → α) (m : Sparse α) (k n : Nat) : (Sparse.getList dflt m k n).length = n := by
  induction n generalizing k with
  | zero => rfl
  | succ n ih => simp [Sparse.getList, ih]

/-- Consecutive values read back after they are written. -/
theorem Sparse.getList_setList [DecidableEq α] (dflt : Nat → α) (m : Sparse α) (k : Nat) (vs : List α) :
    Sparse.getList dflt (Sparse.setList dflt m k vs) k vs.length = vs := by
  induction vs generalizing m k with
  | nil => rfl
  | cons v vs ih =>
    simp only [List.length_cons, Sparse.getList, Sparse.setList]
    rw [Sparse.get_setList, dif_neg (by omega), Sparse.get_set_self, ih]

/-! ### The canonical form -/

variable [DecidableEq α]

theorem Sparse.wfFrom_weaken (dflt : Nat → α) {a b : Nat} (h : a ≤ b) (m : Sparse α) (hw : Sparse.wfFrom dflt b m = true) :
    Sparse.wfFrom dflt a m = true := by
  cases m with
  | nil => rfl
  | cons e m =>
    obtain ⟨i, w⟩ := e
    simp only [Sparse.wfFrom, Bool.and_eq_true, decide_eq_true_eq] at hw ⊢
    exact ⟨⟨Nat.le_trans h hw.1.1, hw.1.2⟩, hw.2⟩

theorem Sparse.wfFrom_erase (dflt : Nat → α) (m : Sparse α) (lo k : Nat) (hw : Sparse.wfFrom dflt lo m = true) :
    Sparse.wfFrom dflt lo (Sparse.erase m k) = true := by
  induction m generalizing lo with
  | nil => rfl
  | cons e m ih =>
    obtain ⟨i, w⟩ := e
    simp only [Sparse.wfFrom, Bool.and_eq_true, decide_eq_true_eq] at hw
    by_cases h : i = k
    · simp only [Sparse.erase, h, if_true]
      exact ih lo (Sparse.wfFrom_weaken dflt (by omega) m hw.2)
    · simp only [Sparse.erase, h, if_false, Sparse.wfFrom, Bool.and_eq_true, decide_eq_true_eq]
      exact ⟨hw.1, ih (i + 1) hw.2⟩

theorem Sparse.wfFrom_put (dflt : Nat → α) (m : Sparse α) (lo k : Nat) (v : α) (hv : v ≠ dflt k) (hk : lo ≤ k)
    (hw : Sparse.wfFrom dflt lo m = true) : Sparse.wfFrom dflt lo (Sparse.put m k v) = true := by
  induction m generalizing lo with
  | nil => simp [Sparse.put, Sparse.wfFrom, hv, hk]
  | cons e m ih =>
    obtain ⟨i, w⟩ := e
    simp only [Sparse.wfFrom, Bool.and_eq_true, decide_eq_true_eq] at hw
    by_cases h1 : k < i
    · simp only [Sparse.put, h1, if_true, Sparse.wfFrom, Bool.and_eq_true, decide_eq_true_eq]
      exact ⟨⟨hk, hv⟩, ⟨h1, hw.1.2⟩, hw.2⟩
    · by_cases h2 : i = k
      · subst h2
        simp only [Sparse.put, Nat.lt_irrefl, if_false, if_true, Sparse.wfFrom, Bool.and_eq_true, decide_eq_true_eq]
        exact ⟨⟨hk, hv⟩, hw.2⟩
      · simp only [Sparse.put, h1, h2, if_false, Sparse.wfFrom, Bool.and_eq_true, decide_eq_true_eq]
        exact ⟨hw.1, ih (i + 1) (by omega) hw.2⟩

/-- A write keeps the canonical form. -/
theorem Sparse.wf_set (dflt : Nat → α) (m : Sparse α) (k : Nat) (v : α) (hw : Sparse.wf dflt m = true) :
    Sparse.wf dflt (Sparse.set dflt m k v) = true := by
  unfold Sparse.set Sparse.wf at *
  split
  · exact Sparse.wfFrom_erase dflt m 0 k hw
  · rename_i h; exact Sparse.wfFrom_put dflt m 0 k v h (Nat.zero_le k) hw

/-- Consecutive writes keep it. -/
theorem Sparse.wf_setList (dflt : Nat → α) (vs : List α) (m : Sparse α) (k : Nat) (hw : Sparse.wf dflt m = true) :
    Sparse.wf dflt (Sparse.setList dflt m k vs) = true := by
  induction vs generalizing m k with
  | nil => exact hw
  | cons v vs ih => exact ih _ _ (Sparse.wf_set dflt m k v hw)

theorem Sparse.wfFrom_filter (dflt : Nat → α) (p : Nat × α → Bool) (m : Sparse α) (lo : Nat)
    (hw : Sparse.wfFrom dflt lo m = true) : Sparse.wfFrom dflt lo (m.filter p) = true := by
  induction m generalizing lo with
  | nil => rfl
  | cons e m ih =>
    obtain ⟨i, w⟩ := e
    simp only [Sparse.wfFrom, Bool.and_eq_true, decide_eq_true_eq] at hw
    by_cases h : p (i, w) = true
    · simp only [List.filter_cons, h, if_true, Sparse.wfFrom, Bool.and_eq_true, decide_eq_true_eq]
      exact ⟨hw.1, ih (i + 1) hw.2⟩
    · simp only [List.filter_cons, h]
      exact Sparse.wfFrom_weaken dflt (by omega) _ (ih (i + 1) hw.2)

/-- Clearing a range keeps it. -/
theorem Sparse.wf_clear (dflt : Nat → α) (m : Sparse α) (lo hi : Nat) (hw : Sparse.wf dflt m = true) :
    Sparse.wf dflt (Sparse.clear m lo hi) = true :=
  Sparse.wfFrom_filter dflt _ m 0 hw

/-- A store in canonical form with nothing but defaults is empty. -/
theorem Sparse.wf_nil (dflt : Nat → α) : Sparse.wf dflt ([] : Sparse α) = true := rfl

end Sys2Proof.Machine
end

