-- ==== Sys2Proof/Laws/State.lean ====
section
/-!
SUPPORT. What each named update of the device leaves alone, field by field, and what a read gives after it.
-/
namespace Sys2Proof.Machine

/-! ### emit -/
@[simp] theorem Dev.emit_now (d : Dev) (o : Out) : (d.emit o).now = d.now := rfl
@[simp] theorem Dev.emit_inReset (d : Dev) (o : Out) : (d.emit o).inReset = d.inReset := rfl
@[simp] theorem Dev.emit_free (d : Dev) (o : Out) : (d.emit o).free = d.free := rfl
@[simp] theorem Dev.emit_regs (d : Dev) (o : Out) : (d.emit o).regs = d.regs := rfl
@[simp] theorem Dev.emit_latch (d : Dev) (o : Out) : (d.emit o).latch = d.latch := rfl
@[simp] theorem Dev.emit_dram (d : Dev) (o : Out) : (d.emit o).dram = d.dram := rfl
@[simp] theorem Dev.emit_poison (d : Dev) (o : Out) : (d.emit o).poison = d.poison := rfl
@[simp] theorem Dev.emit_clock (d : Dev) (o : Out) : (d.emit o).clock = d.clock := rfl
@[simp] theorem Dev.emit_fm (d : Dev) (o : Out) : (d.emit o).fm = d.fm := rfl
@[simp] theorem Dev.emit_ups (d : Dev) (o : Out) : (d.emit o).ups = d.ups := rfl
@[simp] theorem Dev.emit_job (d : Dev) (o : Out) : (d.emit o).job = d.job := rfl
@[simp] theorem Dev.emit_stores (d : Dev) (o : Out) : (d.emit o).stores = d.stores := rfl
@[simp] theorem Dev.emit_swath (d : Dev) (o : Out) : (d.emit o).swath = d.swath := rfl
@[simp] theorem Dev.emit_scr (d : Dev) (o : Out) : (d.emit o).scr = d.scr := rfl
@[simp] theorem Dev.emit_nz (d : Dev) (o : Out) : (d.emit o).nz = d.nz := rfl
@[simp] theorem Dev.emit_enc (d : Dev) (o : Out) : (d.emit o).enc = d.enc := rfl
@[simp] theorem Dev.emit_fir (d : Dev) (o : Out) : (d.emit o).fir = d.fir := rfl
@[simp] theorem Dev.emit_host (d : Dev) (o : Out) : (d.emit o).host = d.host := rfl
@[simp] theorem Dev.emit_cc (d : Dev) (o : Out) : (d.emit o).cc = d.cc := rfl
@[simp] theorem Dev.emit_perf (d : Dev) (o : Out) : (d.emit o).perf = d.perf := rfl
@[simp] theorem Dev.emit_dref (d : Dev) (o : Out) : (d.emit o).dref = d.dref := rfl
@[simp] theorem Dev.emit_dc (d : Dev) (o : Out) : (d.emit o).dc = d.dc := rfl
@[simp] theorem Dev.emit_tw (d : Dev) (o : Out) : (d.emit o).tw = d.tw := rfl
@[simp] theorem Dev.emit_links (d : Dev) (o : Out) : (d.emit o).links = d.links := rfl
@[simp] theorem Dev.emit_lanes (d : Dev) (o : Out) : (d.emit o).lanes = d.lanes := rfl
@[simp] theorem Dev.emit_hk (d : Dev) (o : Out) : (d.emit o).hk = d.hk := rfl
@[simp] theorem Dev.emit_tk (d : Dev) (o : Out) : (d.emit o).tk = d.tk := rfl
@[simp] theorem Dev.emit_cam (d : Dev) (o : Out) : (d.emit o).cam = d.cam := rfl

/-! ### at -/
@[simp] theorem Dev.at_inReset (d : Dev) (t : Nat) : (d.at t).inReset = d.inReset := rfl
@[simp] theorem Dev.at_free (d : Dev) (t : Nat) : (d.at t).free = d.free := rfl
@[simp] theorem Dev.at_out (d : Dev) (t : Nat) : (d.at t).out = d.out := rfl
@[simp] theorem Dev.at_regs (d : Dev) (t : Nat) : (d.at t).regs = d.regs := rfl
@[simp] theorem Dev.at_latch (d : Dev) (t : Nat) : (d.at t).latch = d.latch := rfl
@[simp] theorem Dev.at_dram (d : Dev) (t : Nat) : (d.at t).dram = d.dram := rfl
@[simp] theorem Dev.at_poison (d : Dev) (t : Nat) : (d.at t).poison = d.poison := rfl
@[simp] theorem Dev.at_clock (d : Dev) (t : Nat) : (d.at t).clock = d.clock := rfl
@[simp] theorem Dev.at_fm (d : Dev) (t : Nat) : (d.at t).fm = d.fm := rfl
@[simp] theorem Dev.at_ups (d : Dev) (t : Nat) : (d.at t).ups = d.ups := rfl
@[simp] theorem Dev.at_job (d : Dev) (t : Nat) : (d.at t).job = d.job := rfl
@[simp] theorem Dev.at_stores (d : Dev) (t : Nat) : (d.at t).stores = d.stores := rfl
@[simp] theorem Dev.at_swath (d : Dev) (t : Nat) : (d.at t).swath = d.swath := rfl
@[simp] theorem Dev.at_scr (d : Dev) (t : Nat) : (d.at t).scr = d.scr := rfl
@[simp] theorem Dev.at_nz (d : Dev) (t : Nat) : (d.at t).nz = d.nz := rfl
@[simp] theorem Dev.at_enc (d : Dev) (t : Nat) : (d.at t).enc = d.enc := rfl
@[simp] theorem Dev.at_fir (d : Dev) (t : Nat) : (d.at t).fir = d.fir := rfl
@[simp] theorem Dev.at_host (d : Dev) (t : Nat) : (d.at t).host = d.host := rfl
@[simp] theorem Dev.at_cc (d : Dev) (t : Nat) : (d.at t).cc = d.cc := rfl
@[simp] theorem Dev.at_perf (d : Dev) (t : Nat) : (d.at t).perf = d.perf := rfl
@[simp] theorem Dev.at_dref (d : Dev) (t : Nat) : (d.at t).dref = d.dref := rfl
@[simp] theorem Dev.at_dc (d : Dev) (t : Nat) : (d.at t).dc = d.dc := rfl
@[simp] theorem Dev.at_tw (d : Dev) (t : Nat) : (d.at t).tw = d.tw := rfl
@[simp] theorem Dev.at_links (d : Dev) (t : Nat) : (d.at t).links = d.links := rfl
@[simp] theorem Dev.at_lanes (d : Dev) (t : Nat) : (d.at t).lanes = d.lanes := rfl
@[simp] theorem Dev.at_hk (d : Dev) (t : Nat) : (d.at t).hk = d.hk := rfl
@[simp] theorem Dev.at_tk (d : Dev) (t : Nat) : (d.at t).tk = d.tk := rfl
@[simp] theorem Dev.at_cam (d : Dev) (t : Nat) : (d.at t).cam = d.cam := rfl

/-! ### setReg -/
@[simp] theorem Dev.setReg_now (d : Dev) (k : Nat) (v : Word) : (d.setReg k v).now = d.now := rfl
@[simp] theorem Dev.setReg_inReset (d : Dev) (k : Nat) (v : Word) : (d.setReg k v).inReset = d.inReset := rfl
@[simp] theorem Dev.setReg_free (d : Dev) (k : Nat) (v : Word) : (d.setReg k v).free = d.free := rfl
@[simp] theorem Dev.setReg_out (d : Dev) (k : Nat) (v : Word) : (d.setReg k v).out = d.out := rfl
@[simp] theorem Dev.setReg_latch (d : Dev) (k : Nat) (v : Word) : (d.setReg k v).latch = d.latch := rfl
@[simp] theorem Dev.setReg_dram (d : Dev) (k : Nat) (v : Word) : (d.setReg k v).dram = d.dram := rfl
@[simp] theorem Dev.setReg_poison (d : Dev) (k : Nat) (v : Word) : (d.setReg k v).poison = d.poison := rfl
@[simp] theorem Dev.setReg_clock (d : Dev) (k : Nat) (v : Word) : (d.setReg k v).clock = d.clock := rfl
@[simp] theorem Dev.setReg_fm (d : Dev) (k : Nat) (v : Word) : (d.setReg k v).fm = d.fm := rfl
@[simp] theorem Dev.setReg_ups (d : Dev) (k : Nat) (v : Word) : (d.setReg k v).ups = d.ups := rfl
@[simp] theorem Dev.setReg_job (d : Dev) (k : Nat) (v : Word) : (d.setReg k v).job = d.job := rfl
@[simp] theorem Dev.setReg_stores (d : Dev) (k : Nat) (v : Word) : (d.setReg k v).stores = d.stores := rfl
@[simp] theorem Dev.setReg_swath (d : Dev) (k : Nat) (v : Word) : (d.setReg k v).swath = d.swath := rfl
@[simp] theorem Dev.setReg_scr (d : Dev) (k : Nat) (v : Word) : (d.setReg k v).scr = d.scr := rfl
@[simp] theorem Dev.setReg_nz (d : Dev) (k : Nat) (v : Word) : (d.setReg k v).nz = d.nz := rfl
@[simp] theorem Dev.setReg_enc (d : Dev) (k : Nat) (v : Word) : (d.setReg k v).enc = d.enc := rfl
@[simp] theorem Dev.setReg_fir (d : Dev) (k : Nat) (v : Word) : (d.setReg k v).fir = d.fir := rfl
@[simp] theorem Dev.setReg_host (d : Dev) (k : Nat) (v : Word) : (d.setReg k v).host = d.host := rfl
@[simp] theorem Dev.setReg_cc (d : Dev) (k : Nat) (v : Word) : (d.setReg k v).cc = d.cc := rfl
@[simp] theorem Dev.setReg_perf (d : Dev) (k : Nat) (v : Word) : (d.setReg k v).perf = d.perf := rfl
@[simp] theorem Dev.setReg_dref (d : Dev) (k : Nat) (v : Word) : (d.setReg k v).dref = d.dref := rfl
@[simp] theorem Dev.setReg_dc (d : Dev) (k : Nat) (v : Word) : (d.setReg k v).dc = d.dc := rfl
@[simp] theorem Dev.setReg_tw (d : Dev) (k : Nat) (v : Word) : (d.setReg k v).tw = d.tw := rfl
@[simp] theorem Dev.setReg_links (d : Dev) (k : Nat) (v : Word) : (d.setReg k v).links = d.links := rfl
@[simp] theorem Dev.setReg_lanes (d : Dev) (k : Nat) (v : Word) : (d.setReg k v).lanes = d.lanes := rfl
@[simp] theorem Dev.setReg_hk (d : Dev) (k : Nat) (v : Word) : (d.setReg k v).hk = d.hk := rfl
@[simp] theorem Dev.setReg_tk (d : Dev) (k : Nat) (v : Word) : (d.setReg k v).tk = d.tk := rfl
@[simp] theorem Dev.setReg_cam (d : Dev) (k : Nat) (v : Word) : (d.setReg k v).cam = d.cam := rfl
theorem Dev.reg_setReg (d : Dev) (k : Nat) (v : Word) (j : Nat) : (d.setReg k v).reg j = if j = k then v else d.reg j := by
  simp [Dev.reg, Dev.setReg, Sparse.get_set]
@[simp] theorem Dev.reg_setReg_self (d : Dev) (k : Nat) (v : Word) : (d.setReg k v).reg k = v := by simp [Dev.reg_setReg]

/-! ### setQueue -/
@[simp] theorem Dev.setQueue_now (d : Dev) (k : Nat) (v : JobQueue) : (d.setQueue k v).now = d.now := rfl
@[simp] theorem Dev.setQueue_inReset (d : Dev) (k : Nat) (v : JobQueue) : (d.setQueue k v).inReset = d.inReset := rfl
@[simp] theorem Dev.setQueue_free (d : Dev) (k : Nat) (v : JobQueue) : (d.setQueue k v).free = d.free := rfl
@[simp] theorem Dev.setQueue_out (d : Dev) (k : Nat) (v : JobQueue) : (d.setQueue k v).out = d.out := rfl
@[simp] theorem Dev.setQueue_regs (d : Dev) (k : Nat) (v : JobQueue) : (d.setQueue k v).regs = d.regs := rfl
@[simp] theorem Dev.setQueue_latch (d : Dev) (k : Nat) (v : JobQueue) : (d.setQueue k v).latch = d.latch := rfl
@[simp] theorem Dev.setQueue_dram (d : Dev) (k : Nat) (v : JobQueue) : (d.setQueue k v).dram = d.dram := rfl
@[simp] theorem Dev.setQueue_poison (d : Dev) (k : Nat) (v : JobQueue) : (d.setQueue k v).poison = d.poison := rfl
@[simp] theorem Dev.setQueue_clock (d : Dev) (k : Nat) (v : JobQueue) : (d.setQueue k v).clock = d.clock := rfl
@[simp] theorem Dev.setQueue_fm (d : Dev) (k : Nat) (v : JobQueue) : (d.setQueue k v).fm = d.fm := rfl
@[simp] theorem Dev.setQueue_ups (d : Dev) (k : Nat) (v : JobQueue) : (d.setQueue k v).ups = d.ups := rfl
@[simp] theorem Dev.setQueue_stores (d : Dev) (k : Nat) (v : JobQueue) : (d.setQueue k v).stores = d.stores := rfl
@[simp] theorem Dev.setQueue_swath (d : Dev) (k : Nat) (v : JobQueue) : (d.setQueue k v).swath = d.swath := rfl
@[simp] theorem Dev.setQueue_scr (d : Dev) (k : Nat) (v : JobQueue) : (d.setQueue k v).scr = d.scr := rfl
@[simp] theorem Dev.setQueue_nz (d : Dev) (k : Nat) (v : JobQueue) : (d.setQueue k v).nz = d.nz := rfl
@[simp] theorem Dev.setQueue_enc (d : Dev) (k : Nat) (v : JobQueue) : (d.setQueue k v).enc = d.enc := rfl
@[simp] theorem Dev.setQueue_fir (d : Dev) (k : Nat) (v : JobQueue) : (d.setQueue k v).fir = d.fir := rfl
@[simp] theorem Dev.setQueue_host (d : Dev) (k : Nat) (v : JobQueue) : (d.setQueue k v).host = d.host := rfl
@[simp] theorem Dev.setQueue_cc (d : Dev) (k : Nat) (v : JobQueue) : (d.setQueue k v).cc = d.cc := rfl
@[simp] theorem Dev.setQueue_perf (d : Dev) (k : Nat) (v : JobQueue) : (d.setQueue k v).perf = d.perf := rfl
@[simp] theorem Dev.setQueue_dref (d : Dev) (k : Nat) (v : JobQueue) : (d.setQueue k v).dref = d.dref := rfl
@[simp] theorem Dev.setQueue_dc (d : Dev) (k : Nat) (v : JobQueue) : (d.setQueue k v).dc = d.dc := rfl
@[simp] theorem Dev.setQueue_tw (d : Dev) (k : Nat) (v : JobQueue) : (d.setQueue k v).tw = d.tw := rfl
@[simp] theorem Dev.setQueue_links (d : Dev) (k : Nat) (v : JobQueue) : (d.setQueue k v).links = d.links := rfl
@[simp] theorem Dev.setQueue_lanes (d : Dev) (k : Nat) (v : JobQueue) : (d.setQueue k v).lanes = d.lanes := rfl
@[simp] theorem Dev.setQueue_hk (d : Dev) (k : Nat) (v : JobQueue) : (d.setQueue k v).hk = d.hk := rfl
@[simp] theorem Dev.setQueue_tk (d : Dev) (k : Nat) (v : JobQueue) : (d.setQueue k v).tk = d.tk := rfl
@[simp] theorem Dev.setQueue_cam (d : Dev) (k : Nat) (v : JobQueue) : (d.setQueue k v).cam = d.cam := rfl
theorem Dev.queue_setQueue (d : Dev) (k : Nat) (v : JobQueue) (j : Nat) : (d.setQueue k v).queue j = if j = k then v else d.queue j := by
  simp [Dev.queue, Dev.setQueue, Sparse.get_set]
@[simp] theorem Dev.queue_setQueue_self (d : Dev) (k : Nat) (v : JobQueue) : (d.setQueue k v).queue k = v := by simp [Dev.queue_setQueue]

/-! ### setStore -/
@[simp] theorem Dev.setStore_now (d : Dev) (k : Nat) (v : Option StoreSlot) : (d.setStore k v).now = d.now := rfl
@[simp] theorem Dev.setStore_inReset (d : Dev) (k : Nat) (v : Option StoreSlot) : (d.setStore k v).inReset = d.inReset := rfl
@[simp] theorem Dev.setStore_free (d : Dev) (k : Nat) (v : Option StoreSlot) : (d.setStore k v).free = d.free := rfl
@[simp] theorem Dev.setStore_out (d : Dev) (k : Nat) (v : Option StoreSlot) : (d.setStore k v).out = d.out := rfl
@[simp] theorem Dev.setStore_regs (d : Dev) (k : Nat) (v : Option StoreSlot) : (d.setStore k v).regs = d.regs := rfl
@[simp] theorem Dev.setStore_latch (d : Dev) (k : Nat) (v : Option StoreSlot) : (d.setStore k v).latch = d.latch := rfl
@[simp] theorem Dev.setStore_dram (d : Dev) (k : Nat) (v : Option StoreSlot) : (d.setStore k v).dram = d.dram := rfl
@[simp] theorem Dev.setStore_poison (d : Dev) (k : Nat) (v : Option StoreSlot) : (d.setStore k v).poison = d.poison := rfl
@[simp] theorem Dev.setStore_clock (d : Dev) (k : Nat) (v : Option StoreSlot) : (d.setStore k v).clock = d.clock := rfl
@[simp] theorem Dev.setStore_fm (d : Dev) (k : Nat) (v : Option StoreSlot) : (d.setStore k v).fm = d.fm := rfl
@[simp] theorem Dev.setStore_ups (d : Dev) (k : Nat) (v : Option StoreSlot) : (d.setStore k v).ups = d.ups := rfl
@[simp] theorem Dev.setStore_job (d : Dev) (k : Nat) (v : Option StoreSlot) : (d.setStore k v).job = d.job := rfl
@[simp] theorem Dev.setStore_swath (d : Dev) (k : Nat) (v : Option StoreSlot) : (d.setStore k v).swath = d.swath := rfl
@[simp] theorem Dev.setStore_scr (d : Dev) (k : Nat) (v : Option StoreSlot) : (d.setStore k v).scr = d.scr := rfl
@[simp] theorem Dev.setStore_nz (d : Dev) (k : Nat) (v : Option StoreSlot) : (d.setStore k v).nz = d.nz := rfl
@[simp] theorem Dev.setStore_enc (d : Dev) (k : Nat) (v : Option StoreSlot) : (d.setStore k v).enc = d.enc := rfl
@[simp] theorem Dev.setStore_fir (d : Dev) (k : Nat) (v : Option StoreSlot) : (d.setStore k v).fir = d.fir := rfl
@[simp] theorem Dev.setStore_host (d : Dev) (k : Nat) (v : Option StoreSlot) : (d.setStore k v).host = d.host := rfl
@[simp] theorem Dev.setStore_cc (d : Dev) (k : Nat) (v : Option StoreSlot) : (d.setStore k v).cc = d.cc := rfl
@[simp] theorem Dev.setStore_perf (d : Dev) (k : Nat) (v : Option StoreSlot) : (d.setStore k v).perf = d.perf := rfl
@[simp] theorem Dev.setStore_dref (d : Dev) (k : Nat) (v : Option StoreSlot) : (d.setStore k v).dref = d.dref := rfl
@[simp] theorem Dev.setStore_dc (d : Dev) (k : Nat) (v : Option StoreSlot) : (d.setStore k v).dc = d.dc := rfl
@[simp] theorem Dev.setStore_tw (d : Dev) (k : Nat) (v : Option StoreSlot) : (d.setStore k v).tw = d.tw := rfl
@[simp] theorem Dev.setStore_links (d : Dev) (k : Nat) (v : Option StoreSlot) : (d.setStore k v).links = d.links := rfl
@[simp] theorem Dev.setStore_lanes (d : Dev) (k : Nat) (v : Option StoreSlot) : (d.setStore k v).lanes = d.lanes := rfl
@[simp] theorem Dev.setStore_hk (d : Dev) (k : Nat) (v : Option StoreSlot) : (d.setStore k v).hk = d.hk := rfl
@[simp] theorem Dev.setStore_tk (d : Dev) (k : Nat) (v : Option StoreSlot) : (d.setStore k v).tk = d.tk := rfl
@[simp] theorem Dev.setStore_cam (d : Dev) (k : Nat) (v : Option StoreSlot) : (d.setStore k v).cam = d.cam := rfl
theorem Dev.store_setStore (d : Dev) (k : Nat) (v : Option StoreSlot) (j : Nat) : (d.setStore k v).store j = if j = k then v else d.store j := by
  simp [Dev.store, Dev.setStore, Sparse.get_set]
@[simp] theorem Dev.store_setStore_self (d : Dev) (k : Nat) (v : Option StoreSlot) : (d.setStore k v).store k = v := by simp [Dev.store_setStore]

/-! ### setPort -/
@[simp] theorem Dev.setPort_now (d : Dev) (k : Nat) (v : Swath) : (d.setPort k v).now = d.now := rfl
@[simp] theorem Dev.setPort_inReset (d : Dev) (k : Nat) (v : Swath) : (d.setPort k v).inReset = d.inReset := rfl
@[simp] theorem Dev.setPort_free (d : Dev) (k : Nat) (v : Swath) : (d.setPort k v).free = d.free := rfl
@[simp] theorem Dev.setPort_out (d : Dev) (k : Nat) (v : Swath) : (d.setPort k v).out = d.out := rfl
@[simp] theorem Dev.setPort_regs (d : Dev) (k : Nat) (v : Swath) : (d.setPort k v).regs = d.regs := rfl
@[simp] theorem Dev.setPort_latch (d : Dev) (k : Nat) (v : Swath) : (d.setPort k v).latch = d.latch := rfl
@[simp] theorem Dev.setPort_dram (d : Dev) (k : Nat) (v : Swath) : (d.setPort k v).dram = d.dram := rfl
@[simp] theorem Dev.setPort_poison (d : Dev) (k : Nat) (v : Swath) : (d.setPort k v).poison = d.poison := rfl
@[simp] theorem Dev.setPort_clock (d : Dev) (k : Nat) (v : Swath) : (d.setPort k v).clock = d.clock := rfl
@[simp] theorem Dev.setPort_fm (d : Dev) (k : Nat) (v : Swath) : (d.setPort k v).fm = d.fm := rfl
@[simp] theorem Dev.setPort_ups (d : Dev) (k : Nat) (v : Swath) : (d.setPort k v).ups = d.ups := rfl
@[simp] theorem Dev.setPort_job (d : Dev) (k : Nat) (v : Swath) : (d.setPort k v).job = d.job := rfl
@[simp] theorem Dev.setPort_stores (d : Dev) (k : Nat) (v : Swath) : (d.setPort k v).stores = d.stores := rfl
@[simp] theorem Dev.setPort_scr (d : Dev) (k : Nat) (v : Swath) : (d.setPort k v).scr = d.scr := rfl
@[simp] theorem Dev.setPort_nz (d : Dev) (k : Nat) (v : Swath) : (d.setPort k v).nz = d.nz := rfl
@[simp] theorem Dev.setPort_enc (d : Dev) (k : Nat) (v : Swath) : (d.setPort k v).enc = d.enc := rfl
@[simp] theorem Dev.setPort_fir (d : Dev) (k : Nat) (v : Swath) : (d.setPort k v).fir = d.fir := rfl
@[simp] theorem Dev.setPort_host (d : Dev) (k : Nat) (v : Swath) : (d.setPort k v).host = d.host := rfl
@[simp] theorem Dev.setPort_cc (d : Dev) (k : Nat) (v : Swath) : (d.setPort k v).cc = d.cc := rfl
@[simp] theorem Dev.setPort_perf (d : Dev) (k : Nat) (v : Swath) : (d.setPort k v).perf = d.perf := rfl
@[simp] theorem Dev.setPort_dref (d : Dev) (k : Nat) (v : Swath) : (d.setPort k v).dref = d.dref := rfl
@[simp] theorem Dev.setPort_dc (d : Dev) (k : Nat) (v : Swath) : (d.setPort k v).dc = d.dc := rfl
@[simp] theorem Dev.setPort_tw (d : Dev) (k : Nat) (v : Swath) : (d.setPort k v).tw = d.tw := rfl
@[simp] theorem Dev.setPort_links (d : Dev) (k : Nat) (v : Swath) : (d.setPort k v).links = d.links := rfl
@[simp] theorem Dev.setPort_lanes (d : Dev) (k : Nat) (v : Swath) : (d.setPort k v).lanes = d.lanes := rfl
@[simp] theorem Dev.setPort_hk (d : Dev) (k : Nat) (v : Swath) : (d.setPort k v).hk = d.hk := rfl
@[simp] theorem Dev.setPort_tk (d : Dev) (k : Nat) (v : Swath) : (d.setPort k v).tk = d.tk := rfl
@[simp] theorem Dev.setPort_cam (d : Dev) (k : Nat) (v : Swath) : (d.setPort k v).cam = d.cam := rfl
theorem Dev.port_setPort (d : Dev) (k : Nat) (v : Swath) (j : Nat) : (d.setPort k v).port j = if j = k then v else d.port j := by
  simp [Dev.port, Dev.setPort, Sparse.get_set]
@[simp] theorem Dev.port_setPort_self (d : Dev) (k : Nat) (v : Swath) : (d.setPort k v).port k = v := by simp [Dev.port_setPort]

/-! ### setPlane -/
@[simp] theorem Dev.setPlane_now (d : Dev) (k : Nat) (v : ScrPlane) : (d.setPlane k v).now = d.now := rfl
@[simp] theorem Dev.setPlane_inReset (d : Dev) (k : Nat) (v : ScrPlane) : (d.setPlane k v).inReset = d.inReset := rfl
@[simp] theorem Dev.setPlane_free (d : Dev) (k : Nat) (v : ScrPlane) : (d.setPlane k v).free = d.free := rfl
@[simp] theorem Dev.setPlane_out (d : Dev) (k : Nat) (v : ScrPlane) : (d.setPlane k v).out = d.out := rfl
@[simp] theorem Dev.setPlane_regs (d : Dev) (k : Nat) (v : ScrPlane) : (d.setPlane k v).regs = d.regs := rfl
@[simp] theorem Dev.setPlane_latch (d : Dev) (k : Nat) (v : ScrPlane) : (d.setPlane k v).latch = d.latch := rfl
@[simp] theorem Dev.setPlane_dram (d : Dev) (k : Nat) (v : ScrPlane) : (d.setPlane k v).dram = d.dram := rfl
@[simp] theorem Dev.setPlane_poison (d : Dev) (k : Nat) (v : ScrPlane) : (d.setPlane k v).poison = d.poison := rfl
@[simp] theorem Dev.setPlane_clock (d : Dev) (k : Nat) (v : ScrPlane) : (d.setPlane k v).clock = d.clock := rfl
@[simp] theorem Dev.setPlane_fm (d : Dev) (k : Nat) (v : ScrPlane) : (d.setPlane k v).fm = d.fm := rfl
@[simp] theorem Dev.setPlane_ups (d : Dev) (k : Nat) (v : ScrPlane) : (d.setPlane k v).ups = d.ups := rfl
@[simp] theorem Dev.setPlane_job (d : Dev) (k : Nat) (v : ScrPlane) : (d.setPlane k v).job = d.job := rfl
@[simp] theorem Dev.setPlane_stores (d : Dev) (k : Nat) (v : ScrPlane) : (d.setPlane k v).stores = d.stores := rfl
@[simp] theorem Dev.setPlane_swath (d : Dev) (k : Nat) (v : ScrPlane) : (d.setPlane k v).swath = d.swath := rfl
@[simp] theorem Dev.setPlane_nz (d : Dev) (k : Nat) (v : ScrPlane) : (d.setPlane k v).nz = d.nz := rfl
@[simp] theorem Dev.setPlane_enc (d : Dev) (k : Nat) (v : ScrPlane) : (d.setPlane k v).enc = d.enc := rfl
@[simp] theorem Dev.setPlane_fir (d : Dev) (k : Nat) (v : ScrPlane) : (d.setPlane k v).fir = d.fir := rfl
@[simp] theorem Dev.setPlane_host (d : Dev) (k : Nat) (v : ScrPlane) : (d.setPlane k v).host = d.host := rfl
@[simp] theorem Dev.setPlane_cc (d : Dev) (k : Nat) (v : ScrPlane) : (d.setPlane k v).cc = d.cc := rfl
@[simp] theorem Dev.setPlane_perf (d : Dev) (k : Nat) (v : ScrPlane) : (d.setPlane k v).perf = d.perf := rfl
@[simp] theorem Dev.setPlane_dref (d : Dev) (k : Nat) (v : ScrPlane) : (d.setPlane k v).dref = d.dref := rfl
@[simp] theorem Dev.setPlane_dc (d : Dev) (k : Nat) (v : ScrPlane) : (d.setPlane k v).dc = d.dc := rfl
@[simp] theorem Dev.setPlane_tw (d : Dev) (k : Nat) (v : ScrPlane) : (d.setPlane k v).tw = d.tw := rfl
@[simp] theorem Dev.setPlane_links (d : Dev) (k : Nat) (v : ScrPlane) : (d.setPlane k v).links = d.links := rfl
@[simp] theorem Dev.setPlane_lanes (d : Dev) (k : Nat) (v : ScrPlane) : (d.setPlane k v).lanes = d.lanes := rfl
@[simp] theorem Dev.setPlane_hk (d : Dev) (k : Nat) (v : ScrPlane) : (d.setPlane k v).hk = d.hk := rfl
@[simp] theorem Dev.setPlane_tk (d : Dev) (k : Nat) (v : ScrPlane) : (d.setPlane k v).tk = d.tk := rfl
@[simp] theorem Dev.setPlane_cam (d : Dev) (k : Nat) (v : ScrPlane) : (d.setPlane k v).cam = d.cam := rfl
theorem Dev.plane_setPlane (d : Dev) (k : Nat) (v : ScrPlane) (j : Nat) : (d.setPlane k v).plane j = if j = k then v else d.plane j := by
  simp [Dev.plane, Dev.setPlane, Sparse.get_set]
@[simp] theorem Dev.plane_setPlane_self (d : Dev) (k : Nat) (v : ScrPlane) : (d.setPlane k v).plane k = v := by simp [Dev.plane_setPlane]

/-! ### setHeadFire -/
@[simp] theorem Dev.setHeadFire_now (d : Dev) (k : Nat) (v : HeadFire) : (d.setHeadFire k v).now = d.now := rfl
@[simp] theorem Dev.setHeadFire_inReset (d : Dev) (k : Nat) (v : HeadFire) : (d.setHeadFire k v).inReset = d.inReset := rfl
@[simp] theorem Dev.setHeadFire_free (d : Dev) (k : Nat) (v : HeadFire) : (d.setHeadFire k v).free = d.free := rfl
@[simp] theorem Dev.setHeadFire_out (d : Dev) (k : Nat) (v : HeadFire) : (d.setHeadFire k v).out = d.out := rfl
@[simp] theorem Dev.setHeadFire_regs (d : Dev) (k : Nat) (v : HeadFire) : (d.setHeadFire k v).regs = d.regs := rfl
@[simp] theorem Dev.setHeadFire_latch (d : Dev) (k : Nat) (v : HeadFire) : (d.setHeadFire k v).latch = d.latch := rfl
@[simp] theorem Dev.setHeadFire_dram (d : Dev) (k : Nat) (v : HeadFire) : (d.setHeadFire k v).dram = d.dram := rfl
@[simp] theorem Dev.setHeadFire_poison (d : Dev) (k : Nat) (v : HeadFire) : (d.setHeadFire k v).poison = d.poison := rfl
@[simp] theorem Dev.setHeadFire_clock (d : Dev) (k : Nat) (v : HeadFire) : (d.setHeadFire k v).clock = d.clock := rfl
@[simp] theorem Dev.setHeadFire_fm (d : Dev) (k : Nat) (v : HeadFire) : (d.setHeadFire k v).fm = d.fm := rfl
@[simp] theorem Dev.setHeadFire_ups (d : Dev) (k : Nat) (v : HeadFire) : (d.setHeadFire k v).ups = d.ups := rfl
@[simp] theorem Dev.setHeadFire_job (d : Dev) (k : Nat) (v : HeadFire) : (d.setHeadFire k v).job = d.job := rfl
@[simp] theorem Dev.setHeadFire_stores (d : Dev) (k : Nat) (v : HeadFire) : (d.setHeadFire k v).stores = d.stores := rfl
@[simp] theorem Dev.setHeadFire_swath (d : Dev) (k : Nat) (v : HeadFire) : (d.setHeadFire k v).swath = d.swath := rfl
@[simp] theorem Dev.setHeadFire_scr (d : Dev) (k : Nat) (v : HeadFire) : (d.setHeadFire k v).scr = d.scr := rfl
@[simp] theorem Dev.setHeadFire_nz (d : Dev) (k : Nat) (v : HeadFire) : (d.setHeadFire k v).nz = d.nz := rfl
@[simp] theorem Dev.setHeadFire_enc (d : Dev) (k : Nat) (v : HeadFire) : (d.setHeadFire k v).enc = d.enc := rfl
@[simp] theorem Dev.setHeadFire_host (d : Dev) (k : Nat) (v : HeadFire) : (d.setHeadFire k v).host = d.host := rfl
@[simp] theorem Dev.setHeadFire_cc (d : Dev) (k : Nat) (v : HeadFire) : (d.setHeadFire k v).cc = d.cc := rfl
@[simp] theorem Dev.setHeadFire_perf (d : Dev) (k : Nat) (v : HeadFire) : (d.setHeadFire k v).perf = d.perf := rfl
@[simp] theorem Dev.setHeadFire_dref (d : Dev) (k : Nat) (v : HeadFire) : (d.setHeadFire k v).dref = d.dref := rfl
@[simp] theorem Dev.setHeadFire_dc (d : Dev) (k : Nat) (v : HeadFire) : (d.setHeadFire k v).dc = d.dc := rfl
@[simp] theorem Dev.setHeadFire_tw (d : Dev) (k : Nat) (v : HeadFire) : (d.setHeadFire k v).tw = d.tw := rfl
@[simp] theorem Dev.setHeadFire_links (d : Dev) (k : Nat) (v : HeadFire) : (d.setHeadFire k v).links = d.links := rfl
@[simp] theorem Dev.setHeadFire_lanes (d : Dev) (k : Nat) (v : HeadFire) : (d.setHeadFire k v).lanes = d.lanes := rfl
@[simp] theorem Dev.setHeadFire_hk (d : Dev) (k : Nat) (v : HeadFire) : (d.setHeadFire k v).hk = d.hk := rfl
@[simp] theorem Dev.setHeadFire_tk (d : Dev) (k : Nat) (v : HeadFire) : (d.setHeadFire k v).tk = d.tk := rfl
@[simp] theorem Dev.setHeadFire_cam (d : Dev) (k : Nat) (v : HeadFire) : (d.setHeadFire k v).cam = d.cam := rfl
theorem Dev.headFire_setHeadFire (d : Dev) (k : Nat) (v : HeadFire) (j : Nat) : (d.setHeadFire k v).headFire j = if j = k then v else d.headFire j := by
  simp [Dev.headFire, Dev.setHeadFire, Sparse.get_set]
@[simp] theorem Dev.headFire_setHeadFire_self (d : Dev) (k : Nat) (v : HeadFire) : (d.setHeadFire k v).headFire k = v := by simp [Dev.headFire_setHeadFire]

/-! ### setRowFire -/
@[simp] theorem Dev.setRowFire_now (d : Dev) (k : Nat) (v : RowFire) : (d.setRowFire k v).now = d.now := rfl
@[simp] theorem Dev.setRowFire_inReset (d : Dev) (k : Nat) (v : RowFire) : (d.setRowFire k v).inReset = d.inReset := rfl
@[simp] theorem Dev.setRowFire_free (d : Dev) (k : Nat) (v : RowFire) : (d.setRowFire k v).free = d.free := rfl
@[simp] theorem Dev.setRowFire_out (d : Dev) (k : Nat) (v : RowFire) : (d.setRowFire k v).out = d.out := rfl
@[simp] theorem Dev.setRowFire_regs (d : Dev) (k : Nat) (v : RowFire) : (d.setRowFire k v).regs = d.regs := rfl
@[simp] theorem Dev.setRowFire_latch (d : Dev) (k : Nat) (v : RowFire) : (d.setRowFire k v).latch = d.latch := rfl
@[simp] theorem Dev.setRowFire_dram (d : Dev) (k : Nat) (v : RowFire) : (d.setRowFire k v).dram = d.dram := rfl
@[simp] theorem Dev.setRowFire_poison (d : Dev) (k : Nat) (v : RowFire) : (d.setRowFire k v).poison = d.poison := rfl
@[simp] theorem Dev.setRowFire_clock (d : Dev) (k : Nat) (v : RowFire) : (d.setRowFire k v).clock = d.clock := rfl
@[simp] theorem Dev.setRowFire_fm (d : Dev) (k : Nat) (v : RowFire) : (d.setRowFire k v).fm = d.fm := rfl
@[simp] theorem Dev.setRowFire_ups (d : Dev) (k : Nat) (v : RowFire) : (d.setRowFire k v).ups = d.ups := rfl
@[simp] theorem Dev.setRowFire_job (d : Dev) (k : Nat) (v : RowFire) : (d.setRowFire k v).job = d.job := rfl
@[simp] theorem Dev.setRowFire_stores (d : Dev) (k : Nat) (v : RowFire) : (d.setRowFire k v).stores = d.stores := rfl
@[simp] theorem Dev.setRowFire_swath (d : Dev) (k : Nat) (v : RowFire) : (d.setRowFire k v).swath = d.swath := rfl
@[simp] theorem Dev.setRowFire_scr (d : Dev) (k : Nat) (v : RowFire) : (d.setRowFire k v).scr = d.scr := rfl
@[simp] theorem Dev.setRowFire_nz (d : Dev) (k : Nat) (v : RowFire) : (d.setRowFire k v).nz = d.nz := rfl
@[simp] theorem Dev.setRowFire_enc (d : Dev) (k : Nat) (v : RowFire) : (d.setRowFire k v).enc = d.enc := rfl
@[simp] theorem Dev.setRowFire_host (d : Dev) (k : Nat) (v : RowFire) : (d.setRowFire k v).host = d.host := rfl
@[simp] theorem Dev.setRowFire_cc (d : Dev) (k : Nat) (v : RowFire) : (d.setRowFire k v).cc = d.cc := rfl
@[simp] theorem Dev.setRowFire_perf (d : Dev) (k : Nat) (v : RowFire) : (d.setRowFire k v).perf = d.perf := rfl
@[simp] theorem Dev.setRowFire_dref (d : Dev) (k : Nat) (v : RowFire) : (d.setRowFire k v).dref = d.dref := rfl
@[simp] theorem Dev.setRowFire_dc (d : Dev) (k : Nat) (v : RowFire) : (d.setRowFire k v).dc = d.dc := rfl
@[simp] theorem Dev.setRowFire_tw (d : Dev) (k : Nat) (v : RowFire) : (d.setRowFire k v).tw = d.tw := rfl
@[simp] theorem Dev.setRowFire_links (d : Dev) (k : Nat) (v : RowFire) : (d.setRowFire k v).links = d.links := rfl
@[simp] theorem Dev.setRowFire_lanes (d : Dev) (k : Nat) (v : RowFire) : (d.setRowFire k v).lanes = d.lanes := rfl
@[simp] theorem Dev.setRowFire_hk (d : Dev) (k : Nat) (v : RowFire) : (d.setRowFire k v).hk = d.hk := rfl
@[simp] theorem Dev.setRowFire_tk (d : Dev) (k : Nat) (v : RowFire) : (d.setRowFire k v).tk = d.tk := rfl
@[simp] theorem Dev.setRowFire_cam (d : Dev) (k : Nat) (v : RowFire) : (d.setRowFire k v).cam = d.cam := rfl
theorem Dev.rowFire_setRowFire (d : Dev) (k : Nat) (v : RowFire) (j : Nat) : (d.setRowFire k v).rowFire j = if j = k then v else d.rowFire j := by
  simp [Dev.rowFire, Dev.setRowFire, Sparse.get_set]
@[simp] theorem Dev.rowFire_setRowFire_self (d : Dev) (k : Nat) (v : RowFire) : (d.setRowFire k v).rowFire k = v := by simp [Dev.rowFire_setRowFire]

/-! ### setPc -/
@[simp] theorem Dev.setPc_now (d : Dev) (k : Nat) (v : Compare) : (d.setPc k v).now = d.now := rfl
@[simp] theorem Dev.setPc_inReset (d : Dev) (k : Nat) (v : Compare) : (d.setPc k v).inReset = d.inReset := rfl
@[simp] theorem Dev.setPc_free (d : Dev) (k : Nat) (v : Compare) : (d.setPc k v).free = d.free := rfl
@[simp] theorem Dev.setPc_out (d : Dev) (k : Nat) (v : Compare) : (d.setPc k v).out = d.out := rfl
@[simp] theorem Dev.setPc_regs (d : Dev) (k : Nat) (v : Compare) : (d.setPc k v).regs = d.regs := rfl
@[simp] theorem Dev.setPc_latch (d : Dev) (k : Nat) (v : Compare) : (d.setPc k v).latch = d.latch := rfl
@[simp] theorem Dev.setPc_dram (d : Dev) (k : Nat) (v : Compare) : (d.setPc k v).dram = d.dram := rfl
@[simp] theorem Dev.setPc_poison (d : Dev) (k : Nat) (v : Compare) : (d.setPc k v).poison = d.poison := rfl
@[simp] theorem Dev.setPc_clock (d : Dev) (k : Nat) (v : Compare) : (d.setPc k v).clock = d.clock := rfl
@[simp] theorem Dev.setPc_fm (d : Dev) (k : Nat) (v : Compare) : (d.setPc k v).fm = d.fm := rfl
@[simp] theorem Dev.setPc_ups (d : Dev) (k : Nat) (v : Compare) : (d.setPc k v).ups = d.ups := rfl
@[simp] theorem Dev.setPc_job (d : Dev) (k : Nat) (v : Compare) : (d.setPc k v).job = d.job := rfl
@[simp] theorem Dev.setPc_stores (d : Dev) (k : Nat) (v : Compare) : (d.setPc k v).stores = d.stores := rfl
@[simp] theorem Dev.setPc_swath (d : Dev) (k : Nat) (v : Compare) : (d.setPc k v).swath = d.swath := rfl
@[simp] theorem Dev.setPc_scr (d : Dev) (k : Nat) (v : Compare) : (d.setPc k v).scr = d.scr := rfl
@[simp] theorem Dev.setPc_nz (d : Dev) (k : Nat) (v : Compare) : (d.setPc k v).nz = d.nz := rfl
@[simp] theorem Dev.setPc_enc (d : Dev) (k : Nat) (v : Compare) : (d.setPc k v).enc = d.enc := rfl
@[simp] theorem Dev.setPc_host (d : Dev) (k : Nat) (v : Compare) : (d.setPc k v).host = d.host := rfl
@[simp] theorem Dev.setPc_cc (d : Dev) (k : Nat) (v : Compare) : (d.setPc k v).cc = d.cc := rfl
@[simp] theorem Dev.setPc_perf (d : Dev) (k : Nat) (v : Compare) : (d.setPc k v).perf = d.perf := rfl
@[simp] theorem Dev.setPc_dref (d : Dev) (k : Nat) (v : Compare) : (d.setPc k v).dref = d.dref := rfl
@[simp] theorem Dev.setPc_dc (d : Dev) (k : Nat) (v : Compare) : (d.setPc k v).dc = d.dc := rfl
@[simp] theorem Dev.setPc_tw (d : Dev) (k : Nat) (v : Compare) : (d.setPc k v).tw = d.tw := rfl
@[simp] theorem Dev.setPc_links (d : Dev) (k : Nat) (v : Compare) : (d.setPc k v).links = d.links := rfl
@[simp] theorem Dev.setPc_lanes (d : Dev) (k : Nat) (v : Compare) : (d.setPc k v).lanes = d.lanes := rfl
@[simp] theorem Dev.setPc_hk (d : Dev) (k : Nat) (v : Compare) : (d.setPc k v).hk = d.hk := rfl
@[simp] theorem Dev.setPc_tk (d : Dev) (k : Nat) (v : Compare) : (d.setPc k v).tk = d.tk := rfl
@[simp] theorem Dev.setPc_cam (d : Dev) (k : Nat) (v : Compare) : (d.setPc k v).cam = d.cam := rfl
theorem Dev.pc_setPc (d : Dev) (k : Nat) (v : Compare) (j : Nat) : (d.setPc k v).pc j = if j = k then v else d.pc j := by
  simp [Dev.pc, Dev.setPc, Sparse.get_set]
@[simp] theorem Dev.pc_setPc_self (d : Dev) (k : Nat) (v : Compare) : (d.setPc k v).pc k = v := by simp [Dev.pc_setPc]

/-! ### setCtx -/
@[simp] theorem Dev.setCtx_now (d : Dev) (k : Nat) (v : HostCtx) : (d.setCtx k v).now = d.now := rfl
@[simp] theorem Dev.setCtx_inReset (d : Dev) (k : Nat) (v : HostCtx) : (d.setCtx k v).inReset = d.inReset := rfl
@[simp] theorem Dev.setCtx_free (d : Dev) (k : Nat) (v : HostCtx) : (d.setCtx k v).free = d.free := rfl
@[simp] theorem Dev.setCtx_out (d : Dev) (k : Nat) (v : HostCtx) : (d.setCtx k v).out = d.out := rfl
@[simp] theorem Dev.setCtx_regs (d : Dev) (k : Nat) (v : HostCtx) : (d.setCtx k v).regs = d.regs := rfl
@[simp] theorem Dev.setCtx_latch (d : Dev) (k : Nat) (v : HostCtx) : (d.setCtx k v).latch = d.latch := rfl
@[simp] theorem Dev.setCtx_dram (d : Dev) (k : Nat) (v : HostCtx) : (d.setCtx k v).dram = d.dram := rfl
@[simp] theorem Dev.setCtx_poison (d : Dev) (k : Nat) (v : HostCtx) : (d.setCtx k v).poison = d.poison := rfl
@[simp] theorem Dev.setCtx_clock (d : Dev) (k : Nat) (v : HostCtx) : (d.setCtx k v).clock = d.clock := rfl
@[simp] theorem Dev.setCtx_fm (d : Dev) (k : Nat) (v : HostCtx) : (d.setCtx k v).fm = d.fm := rfl
@[simp] theorem Dev.setCtx_ups (d : Dev) (k : Nat) (v : HostCtx) : (d.setCtx k v).ups = d.ups := rfl
@[simp] theorem Dev.setCtx_job (d : Dev) (k : Nat) (v : HostCtx) : (d.setCtx k v).job = d.job := rfl
@[simp] theorem Dev.setCtx_stores (d : Dev) (k : Nat) (v : HostCtx) : (d.setCtx k v).stores = d.stores := rfl
@[simp] theorem Dev.setCtx_swath (d : Dev) (k : Nat) (v : HostCtx) : (d.setCtx k v).swath = d.swath := rfl
@[simp] theorem Dev.setCtx_scr (d : Dev) (k : Nat) (v : HostCtx) : (d.setCtx k v).scr = d.scr := rfl
@[simp] theorem Dev.setCtx_nz (d : Dev) (k : Nat) (v : HostCtx) : (d.setCtx k v).nz = d.nz := rfl
@[simp] theorem Dev.setCtx_enc (d : Dev) (k : Nat) (v : HostCtx) : (d.setCtx k v).enc = d.enc := rfl
@[simp] theorem Dev.setCtx_fir (d : Dev) (k : Nat) (v : HostCtx) : (d.setCtx k v).fir = d.fir := rfl
@[simp] theorem Dev.setCtx_cc (d : Dev) (k : Nat) (v : HostCtx) : (d.setCtx k v).cc = d.cc := rfl
@[simp] theorem Dev.setCtx_perf (d : Dev) (k : Nat) (v : HostCtx) : (d.setCtx k v).perf = d.perf := rfl
@[simp] theorem Dev.setCtx_dref (d : Dev) (k : Nat) (v : HostCtx) : (d.setCtx k v).dref = d.dref := rfl
@[simp] theorem Dev.setCtx_dc (d : Dev) (k : Nat) (v : HostCtx) : (d.setCtx k v).dc = d.dc := rfl
@[simp] theorem Dev.setCtx_tw (d : Dev) (k : Nat) (v : HostCtx) : (d.setCtx k v).tw = d.tw := rfl
@[simp] theorem Dev.setCtx_links (d : Dev) (k : Nat) (v : HostCtx) : (d.setCtx k v).links = d.links := rfl
@[simp] theorem Dev.setCtx_lanes (d : Dev) (k : Nat) (v : HostCtx) : (d.setCtx k v).lanes = d.lanes := rfl
@[simp] theorem Dev.setCtx_hk (d : Dev) (k : Nat) (v : HostCtx) : (d.setCtx k v).hk = d.hk := rfl
@[simp] theorem Dev.setCtx_tk (d : Dev) (k : Nat) (v : HostCtx) : (d.setCtx k v).tk = d.tk := rfl
@[simp] theorem Dev.setCtx_cam (d : Dev) (k : Nat) (v : HostCtx) : (d.setCtx k v).cam = d.cam := rfl
theorem Dev.ctx_setCtx (d : Dev) (k : Nat) (v : HostCtx) (j : Nat) : (d.setCtx k v).ctx j = if j = k then v else d.ctx j := by
  simp [Dev.ctx, Dev.setCtx, Sparse.get_set]
@[simp] theorem Dev.ctx_setCtx_self (d : Dev) (k : Nat) (v : HostCtx) : (d.setCtx k v).ctx k = v := by simp [Dev.ctx_setCtx]

/-! ### setChan -/
@[simp] theorem Dev.setChan_now (d : Dev) (k : Nat) (v : DmaCh) : (d.setChan k v).now = d.now := rfl
@[simp] theorem Dev.setChan_inReset (d : Dev) (k : Nat) (v : DmaCh) : (d.setChan k v).inReset = d.inReset := rfl
@[simp] theorem Dev.setChan_free (d : Dev) (k : Nat) (v : DmaCh) : (d.setChan k v).free = d.free := rfl
@[simp] theorem Dev.setChan_out (d : Dev) (k : Nat) (v : DmaCh) : (d.setChan k v).out = d.out := rfl
@[simp] theorem Dev.setChan_regs (d : Dev) (k : Nat) (v : DmaCh) : (d.setChan k v).regs = d.regs := rfl
@[simp] theorem Dev.setChan_latch (d : Dev) (k : Nat) (v : DmaCh) : (d.setChan k v).latch = d.latch := rfl
@[simp] theorem Dev.setChan_dram (d : Dev) (k : Nat) (v : DmaCh) : (d.setChan k v).dram = d.dram := rfl
@[simp] theorem Dev.setChan_poison (d : Dev) (k : Nat) (v : DmaCh) : (d.setChan k v).poison = d.poison := rfl
@[simp] theorem Dev.setChan_clock (d : Dev) (k : Nat) (v : DmaCh) : (d.setChan k v).clock = d.clock := rfl
@[simp] theorem Dev.setChan_fm (d : Dev) (k : Nat) (v : DmaCh) : (d.setChan k v).fm = d.fm := rfl
@[simp] theorem Dev.setChan_ups (d : Dev) (k : Nat) (v : DmaCh) : (d.setChan k v).ups = d.ups := rfl
@[simp] theorem Dev.setChan_job (d : Dev) (k : Nat) (v : DmaCh) : (d.setChan k v).job = d.job := rfl
@[simp] theorem Dev.setChan_stores (d : Dev) (k : Nat) (v : DmaCh) : (d.setChan k v).stores = d.stores := rfl
@[simp] theorem Dev.setChan_swath (d : Dev) (k : Nat) (v : DmaCh) : (d.setChan k v).swath = d.swath := rfl
@[simp] theorem Dev.setChan_scr (d : Dev) (k : Nat) (v : DmaCh) : (d.setChan k v).scr = d.scr := rfl
@[simp] theorem Dev.setChan_nz (d : Dev) (k : Nat) (v : DmaCh) : (d.setChan k v).nz = d.nz := rfl
@[simp] theorem Dev.setChan_enc (d : Dev) (k : Nat) (v : DmaCh) : (d.setChan k v).enc = d.enc := rfl
@[simp] theorem Dev.setChan_fir (d : Dev) (k : Nat) (v : DmaCh) : (d.setChan k v).fir = d.fir := rfl
@[simp] theorem Dev.setChan_cc (d : Dev) (k : Nat) (v : DmaCh) : (d.setChan k v).cc = d.cc := rfl
@[simp] theorem Dev.setChan_perf (d : Dev) (k : Nat) (v : DmaCh) : (d.setChan k v).perf = d.perf := rfl
@[simp] theorem Dev.setChan_dref (d : Dev) (k : Nat) (v : DmaCh) : (d.setChan k v).dref = d.dref := rfl
@[simp] theorem Dev.setChan_dc (d : Dev) (k : Nat) (v : DmaCh) : (d.setChan k v).dc = d.dc := rfl
@[simp] theorem Dev.setChan_tw (d : Dev) (k : Nat) (v : DmaCh) : (d.setChan k v).tw = d.tw := rfl
@[simp] theorem Dev.setChan_links (d : Dev) (k : Nat) (v : DmaCh) : (d.setChan k v).links = d.links := rfl
@[simp] theorem Dev.setChan_lanes (d : Dev) (k : Nat) (v : DmaCh) : (d.setChan k v).lanes = d.lanes := rfl
@[simp] theorem Dev.setChan_hk (d : Dev) (k : Nat) (v : DmaCh) : (d.setChan k v).hk = d.hk := rfl
@[simp] theorem Dev.setChan_tk (d : Dev) (k : Nat) (v : DmaCh) : (d.setChan k v).tk = d.tk := rfl
@[simp] theorem Dev.setChan_cam (d : Dev) (k : Nat) (v : DmaCh) : (d.setChan k v).cam = d.cam := rfl
theorem Dev.chan_setChan (d : Dev) (k : Nat) (v : DmaCh) (j : Nat) : (d.setChan k v).chan j = if j = k then v else d.chan j := by
  simp [Dev.chan, Dev.setChan, Sparse.get_set]
@[simp] theorem Dev.chan_setChan_self (d : Dev) (k : Nat) (v : DmaCh) : (d.setChan k v).chan k = v := by simp [Dev.chan_setChan]

/-! ### setCamPort -/
@[simp] theorem Dev.setCamPort_now (d : Dev) (k : Nat) (v : CamPort) : (d.setCamPort k v).now = d.now := rfl
@[simp] theorem Dev.setCamPort_inReset (d : Dev) (k : Nat) (v : CamPort) : (d.setCamPort k v).inReset = d.inReset := rfl
@[simp] theorem Dev.setCamPort_free (d : Dev) (k : Nat) (v : CamPort) : (d.setCamPort k v).free = d.free := rfl
@[simp] theorem Dev.setCamPort_out (d : Dev) (k : Nat) (v : CamPort) : (d.setCamPort k v).out = d.out := rfl
@[simp] theorem Dev.setCamPort_regs (d : Dev) (k : Nat) (v : CamPort) : (d.setCamPort k v).regs = d.regs := rfl
@[simp] theorem Dev.setCamPort_latch (d : Dev) (k : Nat) (v : CamPort) : (d.setCamPort k v).latch = d.latch := rfl
@[simp] theorem Dev.setCamPort_dram (d : Dev) (k : Nat) (v : CamPort) : (d.setCamPort k v).dram = d.dram := rfl
@[simp] theorem Dev.setCamPort_poison (d : Dev) (k : Nat) (v : CamPort) : (d.setCamPort k v).poison = d.poison := rfl
@[simp] theorem Dev.setCamPort_clock (d : Dev) (k : Nat) (v : CamPort) : (d.setCamPort k v).clock = d.clock := rfl
@[simp] theorem Dev.setCamPort_fm (d : Dev) (k : Nat) (v : CamPort) : (d.setCamPort k v).fm = d.fm := rfl
@[simp] theorem Dev.setCamPort_ups (d : Dev) (k : Nat) (v : CamPort) : (d.setCamPort k v).ups = d.ups := rfl
@[simp] theorem Dev.setCamPort_job (d : Dev) (k : Nat) (v : CamPort) : (d.setCamPort k v).job = d.job := rfl
@[simp] theorem Dev.setCamPort_stores (d : Dev) (k : Nat) (v : CamPort) : (d.setCamPort k v).stores = d.stores := rfl
@[simp] theorem Dev.setCamPort_swath (d : Dev) (k : Nat) (v : CamPort) : (d.setCamPort k v).swath = d.swath := rfl
@[simp] theorem Dev.setCamPort_scr (d : Dev) (k : Nat) (v : CamPort) : (d.setCamPort k v).scr = d.scr := rfl
@[simp] theorem Dev.setCamPort_nz (d : Dev) (k : Nat) (v : CamPort) : (d.setCamPort k v).nz = d.nz := rfl
@[simp] theorem Dev.setCamPort_enc (d : Dev) (k : Nat) (v : CamPort) : (d.setCamPort k v).enc = d.enc := rfl
@[simp] theorem Dev.setCamPort_fir (d : Dev) (k : Nat) (v : CamPort) : (d.setCamPort k v).fir = d.fir := rfl
@[simp] theorem Dev.setCamPort_host (d : Dev) (k : Nat) (v : CamPort) : (d.setCamPort k v).host = d.host := rfl
@[simp] theorem Dev.setCamPort_cc (d : Dev) (k : Nat) (v : CamPort) : (d.setCamPort k v).cc = d.cc := rfl
@[simp] theorem Dev.setCamPort_perf (d : Dev) (k : Nat) (v : CamPort) : (d.setCamPort k v).perf = d.perf := rfl
@[simp] theorem Dev.setCamPort_dref (d : Dev) (k : Nat) (v : CamPort) : (d.setCamPort k v).dref = d.dref := rfl
@[simp] theorem Dev.setCamPort_dc (d : Dev) (k : Nat) (v : CamPort) : (d.setCamPort k v).dc = d.dc := rfl
@[simp] theorem Dev.setCamPort_tw (d : Dev) (k : Nat) (v : CamPort) : (d.setCamPort k v).tw = d.tw := rfl
@[simp] theorem Dev.setCamPort_links (d : Dev) (k : Nat) (v : CamPort) : (d.setCamPort k v).links = d.links := rfl
@[simp] theorem Dev.setCamPort_lanes (d : Dev) (k : Nat) (v : CamPort) : (d.setCamPort k v).lanes = d.lanes := rfl
@[simp] theorem Dev.setCamPort_hk (d : Dev) (k : Nat) (v : CamPort) : (d.setCamPort k v).hk = d.hk := rfl
@[simp] theorem Dev.setCamPort_tk (d : Dev) (k : Nat) (v : CamPort) : (d.setCamPort k v).tk = d.tk := rfl
theorem Dev.camPort_setCamPort (d : Dev) (k : Nat) (v : CamPort) (j : Nat) : (d.setCamPort k v).camPort j = if j = k then v else d.camPort j := by
  simp [Dev.camPort, Dev.setCamPort, Sparse.get_set]
@[simp] theorem Dev.camPort_setCamPort_self (d : Dev) (k : Nat) (v : CamPort) : (d.setCamPort k v).camPort k = v := by simp [Dev.camPort_setCamPort]

/-! ### setCamChan -/
@[simp] theorem Dev.setCamChan_now (d : Dev) (k j : Nat) (v : CamChan) : (d.setCamChan k j v).now = d.now := rfl
@[simp] theorem Dev.setCamChan_inReset (d : Dev) (k j : Nat) (v : CamChan) : (d.setCamChan k j v).inReset = d.inReset := rfl
@[simp] theorem Dev.setCamChan_free (d : Dev) (k j : Nat) (v : CamChan) : (d.setCamChan k j v).free = d.free := rfl
@[simp] theorem Dev.setCamChan_out (d : Dev) (k j : Nat) (v : CamChan) : (d.setCamChan k j v).out = d.out := rfl
@[simp] theorem Dev.setCamChan_regs (d : Dev) (k j : Nat) (v : CamChan) : (d.setCamChan k j v).regs = d.regs := rfl
@[simp] theorem Dev.setCamChan_latch (d : Dev) (k j : Nat) (v : CamChan) : (d.setCamChan k j v).latch = d.latch := rfl
@[simp] theorem Dev.setCamChan_dram (d : Dev) (k j : Nat) (v : CamChan) : (d.setCamChan k j v).dram = d.dram := rfl
@[simp] theorem Dev.setCamChan_poison (d : Dev) (k j : Nat) (v : CamChan) : (d.setCamChan k j v).poison = d.poison := rfl
@[simp] theorem Dev.setCamChan_clock (d : Dev) (k j : Nat) (v : CamChan) : (d.setCamChan k j v).clock = d.clock := rfl
@[simp] theorem Dev.setCamChan_fm (d : Dev) (k j : Nat) (v : CamChan) : (d.setCamChan k j v).fm = d.fm := rfl
@[simp] theorem Dev.setCamChan_ups (d : Dev) (k j : Nat) (v : CamChan) : (d.setCamChan k j v).ups = d.ups := rfl
@[simp] theorem Dev.setCamChan_job (d : Dev) (k j : Nat) (v : CamChan) : (d.setCamChan k j v).job = d.job := rfl
@[simp] theorem Dev.setCamChan_stores (d : Dev) (k j : Nat) (v : CamChan) : (d.setCamChan k j v).stores = d.stores := rfl
@[simp] theorem Dev.setCamChan_swath (d : Dev) (k j : Nat) (v : CamChan) : (d.setCamChan k j v).swath = d.swath := rfl
@[simp] theorem Dev.setCamChan_scr (d : Dev) (k j : Nat) (v : CamChan) : (d.setCamChan k j v).scr = d.scr := rfl
@[simp] theorem Dev.setCamChan_nz (d : Dev) (k j : Nat) (v : CamChan) : (d.setCamChan k j v).nz = d.nz := rfl
@[simp] theorem Dev.setCamChan_enc (d : Dev) (k j : Nat) (v : CamChan) : (d.setCamChan k j v).enc = d.enc := rfl
@[simp] theorem Dev.setCamChan_fir (d : Dev) (k j : Nat) (v : CamChan) : (d.setCamChan k j v).fir = d.fir := rfl
@[simp] theorem Dev.setCamChan_host (d : Dev) (k j : Nat) (v : CamChan) : (d.setCamChan k j v).host = d.host := rfl
@[simp] theorem Dev.setCamChan_cc (d : Dev) (k j : Nat) (v : CamChan) : (d.setCamChan k j v).cc = d.cc := rfl
@[simp] theorem Dev.setCamChan_perf (d : Dev) (k j : Nat) (v : CamChan) : (d.setCamChan k j v).perf = d.perf := rfl
@[simp] theorem Dev.setCamChan_dref (d : Dev) (k j : Nat) (v : CamChan) : (d.setCamChan k j v).dref = d.dref := rfl
@[simp] theorem Dev.setCamChan_dc (d : Dev) (k j : Nat) (v : CamChan) : (d.setCamChan k j v).dc = d.dc := rfl
@[simp] theorem Dev.setCamChan_tw (d : Dev) (k j : Nat) (v : CamChan) : (d.setCamChan k j v).tw = d.tw := rfl
@[simp] theorem Dev.setCamChan_links (d : Dev) (k j : Nat) (v : CamChan) : (d.setCamChan k j v).links = d.links := rfl
@[simp] theorem Dev.setCamChan_lanes (d : Dev) (k j : Nat) (v : CamChan) : (d.setCamChan k j v).lanes = d.lanes := rfl
@[simp] theorem Dev.setCamChan_hk (d : Dev) (k j : Nat) (v : CamChan) : (d.setCamChan k j v).hk = d.hk := rfl
@[simp] theorem Dev.setCamChan_tk (d : Dev) (k j : Nat) (v : CamChan) : (d.setCamChan k j v).tk = d.tk := rfl

/-! ### setCore -/
@[simp] theorem Dev.setCore_now (d : Dev) (k : Nat) (v : Core) : (d.setCore k v).now = d.now := rfl
@[simp] theorem Dev.setCore_inReset (d : Dev) (k : Nat) (v : Core) : (d.setCore k v).inReset = d.inReset := rfl
@[simp] theorem Dev.setCore_free (d : Dev) (k : Nat) (v : Core) : (d.setCore k v).free = d.free := rfl
@[simp] theorem Dev.setCore_out (d : Dev) (k : Nat) (v : Core) : (d.setCore k v).out = d.out := rfl
@[simp] theorem Dev.setCore_regs (d : Dev) (k : Nat) (v : Core) : (d.setCore k v).regs = d.regs := rfl
@[simp] theorem Dev.setCore_latch (d : Dev) (k : Nat) (v : Core) : (d.setCore k v).latch = d.latch := rfl
@[simp] theorem Dev.setCore_dram (d : Dev) (k : Nat) (v : Core) : (d.setCore k v).dram = d.dram := rfl
@[simp] theorem Dev.setCore_poison (d : Dev) (k : Nat) (v : Core) : (d.setCore k v).poison = d.poison := rfl
@[simp] theorem Dev.setCore_clock (d : Dev) (k : Nat) (v : Core) : (d.setCore k v).clock = d.clock := rfl
@[simp] theorem Dev.setCore_fm (d : Dev) (k : Nat) (v : Core) : (d.setCore k v).fm = d.fm := rfl
@[simp] theorem Dev.setCore_ups (d : Dev) (k : Nat) (v : Core) : (d.setCore k v).ups = d.ups := rfl
@[simp] theorem Dev.setCore_job (d : Dev) (k : Nat) (v : Core) : (d.setCore k v).job = d.job := rfl
@[simp] theorem Dev.setCore_stores (d : Dev) (k : Nat) (v : Core) : (d.setCore k v).stores = d.stores := rfl
@[simp] theorem Dev.setCore_swath (d : Dev) (k : Nat) (v : Core) : (d.setCore k v).swath = d.swath := rfl
@[simp] theorem Dev.setCore_scr (d : Dev) (k : Nat) (v : Core) : (d.setCore k v).scr = d.scr := rfl
@[simp] theorem Dev.setCore_nz (d : Dev) (k : Nat) (v : Core) : (d.setCore k v).nz = d.nz := rfl
@[simp] theorem Dev.setCore_enc (d : Dev) (k : Nat) (v : Core) : (d.setCore k v).enc = d.enc := rfl
@[simp] theorem Dev.setCore_fir (d : Dev) (k : Nat) (v : Core) : (d.setCore k v).fir = d.fir := rfl
@[simp] theorem Dev.setCore_host (d : Dev) (k : Nat) (v : Core) : (d.setCore k v).host = d.host := rfl
@[simp] theorem Dev.setCore_perf (d : Dev) (k : Nat) (v : Core) : (d.setCore k v).perf = d.perf := rfl
@[simp] theorem Dev.setCore_dref (d : Dev) (k : Nat) (v : Core) : (d.setCore k v).dref = d.dref := rfl
@[simp] theorem Dev.setCore_dc (d : Dev) (k : Nat) (v : Core) : (d.setCore k v).dc = d.dc := rfl
@[simp] theorem Dev.setCore_tw (d : Dev) (k : Nat) (v : Core) : (d.setCore k v).tw = d.tw := rfl
@[simp] theorem Dev.setCore_links (d : Dev) (k : Nat) (v : Core) : (d.setCore k v).links = d.links := rfl
@[simp] theorem Dev.setCore_lanes (d : Dev) (k : Nat) (v : Core) : (d.setCore k v).lanes = d.lanes := rfl
@[simp] theorem Dev.setCore_hk (d : Dev) (k : Nat) (v : Core) : (d.setCore k v).hk = d.hk := rfl
@[simp] theorem Dev.setCore_tk (d : Dev) (k : Nat) (v : Core) : (d.setCore k v).tk = d.tk := rfl
@[simp] theorem Dev.setCore_cam (d : Dev) (k : Nat) (v : Core) : (d.setCore k v).cam = d.cam := rfl
theorem Dev.core_setCore (d : Dev) (k : Nat) (v : Core) (j : Nat) : (d.setCore k v).core j = if j = k then v else d.core j := by
  simp [Dev.core, Dev.setCore, Sparse.get_set]
@[simp] theorem Dev.core_setCore_self (d : Dev) (k : Nat) (v : Core) : (d.setCore k v).core k = v := by simp [Dev.core_setCore]

/-! ### setDrefRow -/
@[simp] theorem Dev.setDrefRow_now (d : Dev) (k : Nat) (v : DrefRow) : (d.setDrefRow k v).now = d.now := rfl
@[simp] theorem Dev.setDrefRow_inReset (d : Dev) (k : Nat) (v : DrefRow) : (d.setDrefRow k v).inReset = d.inReset := rfl
@[simp] theorem Dev.setDrefRow_free (d : Dev) (k : Nat) (v : DrefRow) : (d.setDrefRow k v).free = d.free := rfl
@[simp] theorem Dev.setDrefRow_out (d : Dev) (k : Nat) (v : DrefRow) : (d.setDrefRow k v).out = d.out := rfl
@[simp] theorem Dev.setDrefRow_regs (d : Dev) (k : Nat) (v : DrefRow) : (d.setDrefRow k v).regs = d.regs := rfl
@[simp] theorem Dev.setDrefRow_latch (d : Dev) (k : Nat) (v : DrefRow) : (d.setDrefRow k v).latch = d.latch := rfl
@[simp] theorem Dev.setDrefRow_dram (d : Dev) (k : Nat) (v : DrefRow) : (d.setDrefRow k v).dram = d.dram := rfl
@[simp] theorem Dev.setDrefRow_poison (d : Dev) (k : Nat) (v : DrefRow) : (d.setDrefRow k v).poison = d.poison := rfl
@[simp] theorem Dev.setDrefRow_clock (d : Dev) (k : Nat) (v : DrefRow) : (d.setDrefRow k v).clock = d.clock := rfl
@[simp] theorem Dev.setDrefRow_fm (d : Dev) (k : Nat) (v : DrefRow) : (d.setDrefRow k v).fm = d.fm := rfl
@[simp] theorem Dev.setDrefRow_ups (d : Dev) (k : Nat) (v : DrefRow) : (d.setDrefRow k v).ups = d.ups := rfl
@[simp] theorem Dev.setDrefRow_job (d : Dev) (k : Nat) (v : DrefRow) : (d.setDrefRow k v).job = d.job := rfl
@[simp] theorem Dev.setDrefRow_stores (d : Dev) (k : Nat) (v : DrefRow) : (d.setDrefRow k v).stores = d.stores := rfl
@[simp] theorem Dev.setDrefRow_swath (d : Dev) (k : Nat) (v : DrefRow) : (d.setDrefRow k v).swath = d.swath := rfl
@[simp] theorem Dev.setDrefRow_scr (d : Dev) (k : Nat) (v : DrefRow) : (d.setDrefRow k v).scr = d.scr := rfl
@[simp] theorem Dev.setDrefRow_nz (d : Dev) (k : Nat) (v : DrefRow) : (d.setDrefRow k v).nz = d.nz := rfl
@[simp] theorem Dev.setDrefRow_enc (d : Dev) (k : Nat) (v : DrefRow) : (d.setDrefRow k v).enc = d.enc := rfl
@[simp] theorem Dev.setDrefRow_fir (d : Dev) (k : Nat) (v : DrefRow) : (d.setDrefRow k v).fir = d.fir := rfl
@[simp] theorem Dev.setDrefRow_host (d : Dev) (k : Nat) (v : DrefRow) : (d.setDrefRow k v).host = d.host := rfl
@[simp] theorem Dev.setDrefRow_cc (d : Dev) (k : Nat) (v : DrefRow) : (d.setDrefRow k v).cc = d.cc := rfl
@[simp] theorem Dev.setDrefRow_perf (d : Dev) (k : Nat) (v : DrefRow) : (d.setDrefRow k v).perf = d.perf := rfl
@[simp] theorem Dev.setDrefRow_dc (d : Dev) (k : Nat) (v : DrefRow) : (d.setDrefRow k v).dc = d.dc := rfl
@[simp] theorem Dev.setDrefRow_tw (d : Dev) (k : Nat) (v : DrefRow) : (d.setDrefRow k v).tw = d.tw := rfl
@[simp] theorem Dev.setDrefRow_links (d : Dev) (k : Nat) (v : DrefRow) : (d.setDrefRow k v).links = d.links := rfl
@[simp] theorem Dev.setDrefRow_lanes (d : Dev) (k : Nat) (v : DrefRow) : (d.setDrefRow k v).lanes = d.lanes := rfl
@[simp] theorem Dev.setDrefRow_hk (d : Dev) (k : Nat) (v : DrefRow) : (d.setDrefRow k v).hk = d.hk := rfl
@[simp] theorem Dev.setDrefRow_tk (d : Dev) (k : Nat) (v : DrefRow) : (d.setDrefRow k v).tk = d.tk := rfl
@[simp] theorem Dev.setDrefRow_cam (d : Dev) (k : Nat) (v : DrefRow) : (d.setDrefRow k v).cam = d.cam := rfl
theorem Dev.drefRow_setDrefRow (d : Dev) (k : Nat) (v : DrefRow) (j : Nat) : (d.setDrefRow k v).drefRow j = if j = k then v else d.drefRow j := by
  simp [Dev.drefRow, Dev.setDrefRow, Sparse.get_set]
@[simp] theorem Dev.drefRow_setDrefRow_self (d : Dev) (k : Nat) (v : DrefRow) : (d.setDrefRow k v).drefRow k = v := by simp [Dev.drefRow_setDrefRow]

/-! ### setDch -/
@[simp] theorem Dev.setDch_now (d : Dev) (k : Nat) (v : DramCh) : (d.setDch k v).now = d.now := rfl
@[simp] theorem Dev.setDch_inReset (d : Dev) (k : Nat) (v : DramCh) : (d.setDch k v).inReset = d.inReset := rfl
@[simp] theorem Dev.setDch_free (d : Dev) (k : Nat) (v : DramCh) : (d.setDch k v).free = d.free := rfl
@[simp] theorem Dev.setDch_out (d : Dev) (k : Nat) (v : DramCh) : (d.setDch k v).out = d.out := rfl
@[simp] theorem Dev.setDch_regs (d : Dev) (k : Nat) (v : DramCh) : (d.setDch k v).regs = d.regs := rfl
@[simp] theorem Dev.setDch_latch (d : Dev) (k : Nat) (v : DramCh) : (d.setDch k v).latch = d.latch := rfl
@[simp] theorem Dev.setDch_dram (d : Dev) (k : Nat) (v : DramCh) : (d.setDch k v).dram = d.dram := rfl
@[simp] theorem Dev.setDch_poison (d : Dev) (k : Nat) (v : DramCh) : (d.setDch k v).poison = d.poison := rfl
@[simp] theorem Dev.setDch_clock (d : Dev) (k : Nat) (v : DramCh) : (d.setDch k v).clock = d.clock := rfl
@[simp] theorem Dev.setDch_fm (d : Dev) (k : Nat) (v : DramCh) : (d.setDch k v).fm = d.fm := rfl
@[simp] theorem Dev.setDch_ups (d : Dev) (k : Nat) (v : DramCh) : (d.setDch k v).ups = d.ups := rfl
@[simp] theorem Dev.setDch_job (d : Dev) (k : Nat) (v : DramCh) : (d.setDch k v).job = d.job := rfl
@[simp] theorem Dev.setDch_stores (d : Dev) (k : Nat) (v : DramCh) : (d.setDch k v).stores = d.stores := rfl
@[simp] theorem Dev.setDch_swath (d : Dev) (k : Nat) (v : DramCh) : (d.setDch k v).swath = d.swath := rfl
@[simp] theorem Dev.setDch_scr (d : Dev) (k : Nat) (v : DramCh) : (d.setDch k v).scr = d.scr := rfl
@[simp] theorem Dev.setDch_nz (d : Dev) (k : Nat) (v : DramCh) : (d.setDch k v).nz = d.nz := rfl
@[simp] theorem Dev.setDch_enc (d : Dev) (k : Nat) (v : DramCh) : (d.setDch k v).enc = d.enc := rfl
@[simp] theorem Dev.setDch_fir (d : Dev) (k : Nat) (v : DramCh) : (d.setDch k v).fir = d.fir := rfl
@[simp] theorem Dev.setDch_host (d : Dev) (k : Nat) (v : DramCh) : (d.setDch k v).host = d.host := rfl
@[simp] theorem Dev.setDch_cc (d : Dev) (k : Nat) (v : DramCh) : (d.setDch k v).cc = d.cc := rfl
@[simp] theorem Dev.setDch_perf (d : Dev) (k : Nat) (v : DramCh) : (d.setDch k v).perf = d.perf := rfl
@[simp] theorem Dev.setDch_dref (d : Dev) (k : Nat) (v : DramCh) : (d.setDch k v).dref = d.dref := rfl
@[simp] theorem Dev.setDch_tw (d : Dev) (k : Nat) (v : DramCh) : (d.setDch k v).tw = d.tw := rfl
@[simp] theorem Dev.setDch_links (d : Dev) (k : Nat) (v : DramCh) : (d.setDch k v).links = d.links := rfl
@[simp] theorem Dev.setDch_lanes (d : Dev) (k : Nat) (v : DramCh) : (d.setDch k v).lanes = d.lanes := rfl
@[simp] theorem Dev.setDch_hk (d : Dev) (k : Nat) (v : DramCh) : (d.setDch k v).hk = d.hk := rfl
@[simp] theorem Dev.setDch_tk (d : Dev) (k : Nat) (v : DramCh) : (d.setDch k v).tk = d.tk := rfl
@[simp] theorem Dev.setDch_cam (d : Dev) (k : Nat) (v : DramCh) : (d.setDch k v).cam = d.cam := rfl
theorem Dev.dch_setDch (d : Dev) (k : Nat) (v : DramCh) (j : Nat) : (d.setDch k v).dch j = if j = k then v else d.dch j := by
  simp [Dev.dch, Dev.setDch, Sparse.get_set]
@[simp] theorem Dev.dch_setDch_self (d : Dev) (k : Nat) (v : DramCh) : (d.setDch k v).dch k = v := by simp [Dev.dch_setDch]

/-! ### setTwin -/
@[simp] theorem Dev.setTwin_now (d : Dev) (k : Nat) (v : TwinPort) : (d.setTwin k v).now = d.now := rfl
@[simp] theorem Dev.setTwin_inReset (d : Dev) (k : Nat) (v : TwinPort) : (d.setTwin k v).inReset = d.inReset := rfl
@[simp] theorem Dev.setTwin_free (d : Dev) (k : Nat) (v : TwinPort) : (d.setTwin k v).free = d.free := rfl
@[simp] theorem Dev.setTwin_out (d : Dev) (k : Nat) (v : TwinPort) : (d.setTwin k v).out = d.out := rfl
@[simp] theorem Dev.setTwin_regs (d : Dev) (k : Nat) (v : TwinPort) : (d.setTwin k v).regs = d.regs := rfl
@[simp] theorem Dev.setTwin_latch (d : Dev) (k : Nat) (v : TwinPort) : (d.setTwin k v).latch = d.latch := rfl
@[simp] theorem Dev.setTwin_dram (d : Dev) (k : Nat) (v : TwinPort) : (d.setTwin k v).dram = d.dram := rfl
@[simp] theorem Dev.setTwin_poison (d : Dev) (k : Nat) (v : TwinPort) : (d.setTwin k v).poison = d.poison := rfl
@[simp] theorem Dev.setTwin_clock (d : Dev) (k : Nat) (v : TwinPort) : (d.setTwin k v).clock = d.clock := rfl
@[simp] theorem Dev.setTwin_fm (d : Dev) (k : Nat) (v : TwinPort) : (d.setTwin k v).fm = d.fm := rfl
@[simp] theorem Dev.setTwin_ups (d : Dev) (k : Nat) (v : TwinPort) : (d.setTwin k v).ups = d.ups := rfl
@[simp] theorem Dev.setTwin_job (d : Dev) (k : Nat) (v : TwinPort) : (d.setTwin k v).job = d.job := rfl
@[simp] theorem Dev.setTwin_stores (d : Dev) (k : Nat) (v : TwinPort) : (d.setTwin k v).stores = d.stores := rfl
@[simp] theorem Dev.setTwin_swath (d : Dev) (k : Nat) (v : TwinPort) : (d.setTwin k v).swath = d.swath := rfl
@[simp] theorem Dev.setTwin_scr (d : Dev) (k : Nat) (v : TwinPort) : (d.setTwin k v).scr = d.scr := rfl
@[simp] theorem Dev.setTwin_nz (d : Dev) (k : Nat) (v : TwinPort) : (d.setTwin k v).nz = d.nz := rfl
@[simp] theorem Dev.setTwin_enc (d : Dev) (k : Nat) (v : TwinPort) : (d.setTwin k v).enc = d.enc := rfl
@[simp] theorem Dev.setTwin_fir (d : Dev) (k : Nat) (v : TwinPort) : (d.setTwin k v).fir = d.fir := rfl
@[simp] theorem Dev.setTwin_host (d : Dev) (k : Nat) (v : TwinPort) : (d.setTwin k v).host = d.host := rfl
@[simp] theorem Dev.setTwin_cc (d : Dev) (k : Nat) (v : TwinPort) : (d.setTwin k v).cc = d.cc := rfl
@[simp] theorem Dev.setTwin_perf (d : Dev) (k : Nat) (v : TwinPort) : (d.setTwin k v).perf = d.perf := rfl
@[simp] theorem Dev.setTwin_dref (d : Dev) (k : Nat) (v : TwinPort) : (d.setTwin k v).dref = d.dref := rfl
@[simp] theorem Dev.setTwin_dc (d : Dev) (k : Nat) (v : TwinPort) : (d.setTwin k v).dc = d.dc := rfl
@[simp] theorem Dev.setTwin_links (d : Dev) (k : Nat) (v : TwinPort) : (d.setTwin k v).links = d.links := rfl
@[simp] theorem Dev.setTwin_lanes (d : Dev) (k : Nat) (v : TwinPort) : (d.setTwin k v).lanes = d.lanes := rfl
@[simp] theorem Dev.setTwin_hk (d : Dev) (k : Nat) (v : TwinPort) : (d.setTwin k v).hk = d.hk := rfl
@[simp] theorem Dev.setTwin_tk (d : Dev) (k : Nat) (v : TwinPort) : (d.setTwin k v).tk = d.tk := rfl
@[simp] theorem Dev.setTwin_cam (d : Dev) (k : Nat) (v : TwinPort) : (d.setTwin k v).cam = d.cam := rfl
theorem Dev.twin_setTwin (d : Dev) (k : Nat) (v : TwinPort) (j : Nat) : (d.setTwin k v).twin j = if j = k then v else d.twin j := by
  simp [Dev.twin, Dev.setTwin, Sparse.get_set]
@[simp] theorem Dev.twin_setTwin_self (d : Dev) (k : Nat) (v : TwinPort) : (d.setTwin k v).twin k = v := by simp [Dev.twin_setTwin]

/-! ### setBl -/
@[simp] theorem Dev.setBl_now (d : Dev) (k : Nat) (v : BarLink) : (d.setBl k v).now = d.now := rfl
@[simp] theorem Dev.setBl_inReset (d : Dev) (k : Nat) (v : BarLink) : (d.setBl k v).inReset = d.inReset := rfl
@[simp] theorem Dev.setBl_free (d : Dev) (k : Nat) (v : BarLink) : (d.setBl k v).free = d.free := rfl
@[simp] theorem Dev.setBl_out (d : Dev) (k : Nat) (v : BarLink) : (d.setBl k v).out = d.out := rfl
@[simp] theorem Dev.setBl_regs (d : Dev) (k : Nat) (v : BarLink) : (d.setBl k v).regs = d.regs := rfl
@[simp] theorem Dev.setBl_latch (d : Dev) (k : Nat) (v : BarLink) : (d.setBl k v).latch = d.latch := rfl
@[simp] theorem Dev.setBl_dram (d : Dev) (k : Nat) (v : BarLink) : (d.setBl k v).dram = d.dram := rfl
@[simp] theorem Dev.setBl_poison (d : Dev) (k : Nat) (v : BarLink) : (d.setBl k v).poison = d.poison := rfl
@[simp] theorem Dev.setBl_clock (d : Dev) (k : Nat) (v : BarLink) : (d.setBl k v).clock = d.clock := rfl
@[simp] theorem Dev.setBl_fm (d : Dev) (k : Nat) (v : BarLink) : (d.setBl k v).fm = d.fm := rfl
@[simp] theorem Dev.setBl_ups (d : Dev) (k : Nat) (v : BarLink) : (d.setBl k v).ups = d.ups := rfl
@[simp] theorem Dev.setBl_job (d : Dev) (k : Nat) (v : BarLink) : (d.setBl k v).job = d.job := rfl
@[simp] theorem Dev.setBl_stores (d : Dev) (k : Nat) (v : BarLink) : (d.setBl k v).stores = d.stores := rfl
@[simp] theorem Dev.setBl_swath (d : Dev) (k : Nat) (v : BarLink) : (d.setBl k v).swath = d.swath := rfl
@[simp] theorem Dev.setBl_scr (d : Dev) (k : Nat) (v : BarLink) : (d.setBl k v).scr = d.scr := rfl
@[simp] theorem Dev.setBl_nz (d : Dev) (k : Nat) (v : BarLink) : (d.setBl k v).nz = d.nz := rfl
@[simp] theorem Dev.setBl_enc (d : Dev) (k : Nat) (v : BarLink) : (d.setBl k v).enc = d.enc := rfl
@[simp] theorem Dev.setBl_fir (d : Dev) (k : Nat) (v : BarLink) : (d.setBl k v).fir = d.fir := rfl
@[simp] theorem Dev.setBl_host (d : Dev) (k : Nat) (v : BarLink) : (d.setBl k v).host = d.host := rfl
@[simp] theorem Dev.setBl_cc (d : Dev) (k : Nat) (v : BarLink) : (d.setBl k v).cc = d.cc := rfl
@[simp] theorem Dev.setBl_perf (d : Dev) (k : Nat) (v : BarLink) : (d.setBl k v).perf = d.perf := rfl
@[simp] theorem Dev.setBl_dref (d : Dev) (k : Nat) (v : BarLink) : (d.setBl k v).dref = d.dref := rfl
@[simp] theorem Dev.setBl_dc (d : Dev) (k : Nat) (v : BarLink) : (d.setBl k v).dc = d.dc := rfl
@[simp] theorem Dev.setBl_tw (d : Dev) (k : Nat) (v : BarLink) : (d.setBl k v).tw = d.tw := rfl
@[simp] theorem Dev.setBl_lanes (d : Dev) (k : Nat) (v : BarLink) : (d.setBl k v).lanes = d.lanes := rfl
@[simp] theorem Dev.setBl_hk (d : Dev) (k : Nat) (v : BarLink) : (d.setBl k v).hk = d.hk := rfl
@[simp] theorem Dev.setBl_tk (d : Dev) (k : Nat) (v : BarLink) : (d.setBl k v).tk = d.tk := rfl
@[simp] theorem Dev.setBl_cam (d : Dev) (k : Nat) (v : BarLink) : (d.setBl k v).cam = d.cam := rfl
theorem Dev.bl_setBl (d : Dev) (k : Nat) (v : BarLink) (j : Nat) : (d.setBl k v).bl j = if j = k then v else d.bl j := by
  simp [Dev.bl, Dev.setBl, Sparse.get_set]
@[simp] theorem Dev.bl_setBl_self (d : Dev) (k : Nat) (v : BarLink) : (d.setBl k v).bl k = v := by simp [Dev.bl_setBl]

/-! ### setLane -/
@[simp] theorem Dev.setLane_now (d : Dev) (k : Nat) (v : Lane) : (d.setLane k v).now = d.now := rfl
@[simp] theorem Dev.setLane_inReset (d : Dev) (k : Nat) (v : Lane) : (d.setLane k v).inReset = d.inReset := rfl
@[simp] theorem Dev.setLane_free (d : Dev) (k : Nat) (v : Lane) : (d.setLane k v).free = d.free := rfl
@[simp] theorem Dev.setLane_out (d : Dev) (k : Nat) (v : Lane) : (d.setLane k v).out = d.out := rfl
@[simp] theorem Dev.setLane_regs (d : Dev) (k : Nat) (v : Lane) : (d.setLane k v).regs = d.regs := rfl
@[simp] theorem Dev.setLane_latch (d : Dev) (k : Nat) (v : Lane) : (d.setLane k v).latch = d.latch := rfl
@[simp] theorem Dev.setLane_dram (d : Dev) (k : Nat) (v : Lane) : (d.setLane k v).dram = d.dram := rfl
@[simp] theorem Dev.setLane_poison (d : Dev) (k : Nat) (v : Lane) : (d.setLane k v).poison = d.poison := rfl
@[simp] theorem Dev.setLane_clock (d : Dev) (k : Nat) (v : Lane) : (d.setLane k v).clock = d.clock := rfl
@[simp] theorem Dev.setLane_fm (d : Dev) (k : Nat) (v : Lane) : (d.setLane k v).fm = d.fm := rfl
@[simp] theorem Dev.setLane_ups (d : Dev) (k : Nat) (v : Lane) : (d.setLane k v).ups = d.ups := rfl
@[simp] theorem Dev.setLane_job (d : Dev) (k : Nat) (v : Lane) : (d.setLane k v).job = d.job := rfl
@[simp] theorem Dev.setLane_stores (d : Dev) (k : Nat) (v : Lane) : (d.setLane k v).stores = d.stores := rfl
@[simp] theorem Dev.setLane_swath (d : Dev) (k : Nat) (v : Lane) : (d.setLane k v).swath = d.swath := rfl
@[simp] theorem Dev.setLane_scr (d : Dev) (k : Nat) (v : Lane) : (d.setLane k v).scr = d.scr := rfl
@[simp] theorem Dev.setLane_nz (d : Dev) (k : Nat) (v : Lane) : (d.setLane k v).nz = d.nz := rfl
@[simp] theorem Dev.setLane_enc (d : Dev) (k : Nat) (v : Lane) : (d.setLane k v).enc = d.enc := rfl
@[simp] theorem Dev.setLane_fir (d : Dev) (k : Nat) (v : Lane) : (d.setLane k v).fir = d.fir := rfl
@[simp] theorem Dev.setLane_host (d : Dev) (k : Nat) (v : Lane) : (d.setLane k v).host = d.host := rfl
@[simp] theorem Dev.setLane_cc (d : Dev) (k : Nat) (v : Lane) : (d.setLane k v).cc = d.cc := rfl
@[simp] theorem Dev.setLane_perf (d : Dev) (k : Nat) (v : Lane) : (d.setLane k v).perf = d.perf := rfl
@[simp] theorem Dev.setLane_dref (d : Dev) (k : Nat) (v : Lane) : (d.setLane k v).dref = d.dref := rfl
@[simp] theorem Dev.setLane_dc (d : Dev) (k : Nat) (v : Lane) : (d.setLane k v).dc = d.dc := rfl
@[simp] theorem Dev.setLane_tw (d : Dev) (k : Nat) (v : Lane) : (d.setLane k v).tw = d.tw := rfl
@[simp] theorem Dev.setLane_links (d : Dev) (k : Nat) (v : Lane) : (d.setLane k v).links = d.links := rfl
@[simp] theorem Dev.setLane_hk (d : Dev) (k : Nat) (v : Lane) : (d.setLane k v).hk = d.hk := rfl
@[simp] theorem Dev.setLane_tk (d : Dev) (k : Nat) (v : Lane) : (d.setLane k v).tk = d.tk := rfl
@[simp] theorem Dev.setLane_cam (d : Dev) (k : Nat) (v : Lane) : (d.setLane k v).cam = d.cam := rfl
theorem Dev.lane_setLane (d : Dev) (k : Nat) (v : Lane) (j : Nat) : (d.setLane k v).lane j = if j = k then v else d.lane j := by
  simp [Dev.lane, Dev.setLane, Sparse.get_set]
@[simp] theorem Dev.lane_setLane_self (d : Dev) (k : Nat) (v : Lane) : (d.setLane k v).lane k = v := by simp [Dev.lane_setLane]

/-! ### setDom -/
@[simp] theorem Dev.setDom_now (d : Dev) (k : Nat) (v : PtpDom) : (d.setDom k v).now = d.now := rfl
@[simp] theorem Dev.setDom_inReset (d : Dev) (k : Nat) (v : PtpDom) : (d.setDom k v).inReset = d.inReset := rfl
@[simp] theorem Dev.setDom_free (d : Dev) (k : Nat) (v : PtpDom) : (d.setDom k v).free = d.free := rfl
@[simp] theorem Dev.setDom_out (d : Dev) (k : Nat) (v : PtpDom) : (d.setDom k v).out = d.out := rfl
@[simp] theorem Dev.setDom_regs (d : Dev) (k : Nat) (v : PtpDom) : (d.setDom k v).regs = d.regs := rfl
@[simp] theorem Dev.setDom_latch (d : Dev) (k : Nat) (v : PtpDom) : (d.setDom k v).latch = d.latch := rfl
@[simp] theorem Dev.setDom_dram (d : Dev) (k : Nat) (v : PtpDom) : (d.setDom k v).dram = d.dram := rfl
@[simp] theorem Dev.setDom_poison (d : Dev) (k : Nat) (v : PtpDom) : (d.setDom k v).poison = d.poison := rfl
@[simp] theorem Dev.setDom_clock (d : Dev) (k : Nat) (v : PtpDom) : (d.setDom k v).clock = d.clock := rfl
@[simp] theorem Dev.setDom_fm (d : Dev) (k : Nat) (v : PtpDom) : (d.setDom k v).fm = d.fm := rfl
@[simp] theorem Dev.setDom_ups (d : Dev) (k : Nat) (v : PtpDom) : (d.setDom k v).ups = d.ups := rfl
@[simp] theorem Dev.setDom_job (d : Dev) (k : Nat) (v : PtpDom) : (d.setDom k v).job = d.job := rfl
@[simp] theorem Dev.setDom_stores (d : Dev) (k : Nat) (v : PtpDom) : (d.setDom k v).stores = d.stores := rfl
@[simp] theorem Dev.setDom_swath (d : Dev) (k : Nat) (v : PtpDom) : (d.setDom k v).swath = d.swath := rfl
@[simp] theorem Dev.setDom_scr (d : Dev) (k : Nat) (v : PtpDom) : (d.setDom k v).scr = d.scr := rfl
@[simp] theorem Dev.setDom_nz (d : Dev) (k : Nat) (v : PtpDom) : (d.setDom k v).nz = d.nz := rfl
@[simp] theorem Dev.setDom_enc (d : Dev) (k : Nat) (v : PtpDom) : (d.setDom k v).enc = d.enc := rfl
@[simp] theorem Dev.setDom_fir (d : Dev) (k : Nat) (v : PtpDom) : (d.setDom k v).fir = d.fir := rfl
@[simp] theorem Dev.setDom_host (d : Dev) (k : Nat) (v : PtpDom) : (d.setDom k v).host = d.host := rfl
@[simp] theorem Dev.setDom_cc (d : Dev) (k : Nat) (v : PtpDom) : (d.setDom k v).cc = d.cc := rfl
@[simp] theorem Dev.setDom_perf (d : Dev) (k : Nat) (v : PtpDom) : (d.setDom k v).perf = d.perf := rfl
@[simp] theorem Dev.setDom_dref (d : Dev) (k : Nat) (v : PtpDom) : (d.setDom k v).dref = d.dref := rfl
@[simp] theorem Dev.setDom_dc (d : Dev) (k : Nat) (v : PtpDom) : (d.setDom k v).dc = d.dc := rfl
@[simp] theorem Dev.setDom_tw (d : Dev) (k : Nat) (v : PtpDom) : (d.setDom k v).tw = d.tw := rfl
@[simp] theorem Dev.setDom_links (d : Dev) (k : Nat) (v : PtpDom) : (d.setDom k v).links = d.links := rfl
@[simp] theorem Dev.setDom_lanes (d : Dev) (k : Nat) (v : PtpDom) : (d.setDom k v).lanes = d.lanes := rfl
@[simp] theorem Dev.setDom_hk (d : Dev) (k : Nat) (v : PtpDom) : (d.setDom k v).hk = d.hk := rfl
@[simp] theorem Dev.setDom_cam (d : Dev) (k : Nat) (v : PtpDom) : (d.setDom k v).cam = d.cam := rfl
theorem Dev.dom_setDom (d : Dev) (k : Nat) (v : PtpDom) (j : Nat) : (d.setDom k v).dom j = if j = k then v else d.dom j := by
  simp [Dev.dom, Dev.setDom, Sparse.get_set]
@[simp] theorem Dev.dom_setDom_self (d : Dev) (k : Nat) (v : PtpDom) : (d.setDom k v).dom k = v := by simp [Dev.dom_setDom]

/-! ### setTp -/
@[simp] theorem Dev.setTp_now (d : Dev) (k : Nat) (v : TimePulse) : (d.setTp k v).now = d.now := rfl
@[simp] theorem Dev.setTp_inReset (d : Dev) (k : Nat) (v : TimePulse) : (d.setTp k v).inReset = d.inReset := rfl
@[simp] theorem Dev.setTp_free (d : Dev) (k : Nat) (v : TimePulse) : (d.setTp k v).free = d.free := rfl
@[simp] theorem Dev.setTp_out (d : Dev) (k : Nat) (v : TimePulse) : (d.setTp k v).out = d.out := rfl
@[simp] theorem Dev.setTp_regs (d : Dev) (k : Nat) (v : TimePulse) : (d.setTp k v).regs = d.regs := rfl
@[simp] theorem Dev.setTp_latch (d : Dev) (k : Nat) (v : TimePulse) : (d.setTp k v).latch = d.latch := rfl
@[simp] theorem Dev.setTp_dram (d : Dev) (k : Nat) (v : TimePulse) : (d.setTp k v).dram = d.dram := rfl
@[simp] theorem Dev.setTp_poison (d : Dev) (k : Nat) (v : TimePulse) : (d.setTp k v).poison = d.poison := rfl
@[simp] theorem Dev.setTp_clock (d : Dev) (k : Nat) (v : TimePulse) : (d.setTp k v).clock = d.clock := rfl
@[simp] theorem Dev.setTp_fm (d : Dev) (k : Nat) (v : TimePulse) : (d.setTp k v).fm = d.fm := rfl
@[simp] theorem Dev.setTp_ups (d : Dev) (k : Nat) (v : TimePulse) : (d.setTp k v).ups = d.ups := rfl
@[simp] theorem Dev.setTp_job (d : Dev) (k : Nat) (v : TimePulse) : (d.setTp k v).job = d.job := rfl
@[simp] theorem Dev.setTp_stores (d : Dev) (k : Nat) (v : TimePulse) : (d.setTp k v).stores = d.stores := rfl
@[simp] theorem Dev.setTp_swath (d : Dev) (k : Nat) (v : TimePulse) : (d.setTp k v).swath = d.swath := rfl
@[simp] theorem Dev.setTp_scr (d : Dev) (k : Nat) (v : TimePulse) : (d.setTp k v).scr = d.scr := rfl
@[simp] theorem Dev.setTp_nz (d : Dev) (k : Nat) (v : TimePulse) : (d.setTp k v).nz = d.nz := rfl
@[simp] theorem Dev.setTp_enc (d : Dev) (k : Nat) (v : TimePulse) : (d.setTp k v).enc = d.enc := rfl
@[simp] theorem Dev.setTp_fir (d : Dev) (k : Nat) (v : TimePulse) : (d.setTp k v).fir = d.fir := rfl
@[simp] theorem Dev.setTp_host (d : Dev) (k : Nat) (v : TimePulse) : (d.setTp k v).host = d.host := rfl
@[simp] theorem Dev.setTp_cc (d : Dev) (k : Nat) (v : TimePulse) : (d.setTp k v).cc = d.cc := rfl
@[simp] theorem Dev.setTp_perf (d : Dev) (k : Nat) (v : TimePulse) : (d.setTp k v).perf = d.perf := rfl
@[simp] theorem Dev.setTp_dref (d : Dev) (k : Nat) (v : TimePulse) : (d.setTp k v).dref = d.dref := rfl
@[simp] theorem Dev.setTp_dc (d : Dev) (k : Nat) (v : TimePulse) : (d.setTp k v).dc = d.dc := rfl
@[simp] theorem Dev.setTp_tw (d : Dev) (k : Nat) (v : TimePulse) : (d.setTp k v).tw = d.tw := rfl
@[simp] theorem Dev.setTp_links (d : Dev) (k : Nat) (v : TimePulse) : (d.setTp k v).links = d.links := rfl
@[simp] theorem Dev.setTp_lanes (d : Dev) (k : Nat) (v : TimePulse) : (d.setTp k v).lanes = d.lanes := rfl
@[simp] theorem Dev.setTp_hk (d : Dev) (k : Nat) (v : TimePulse) : (d.setTp k v).hk = d.hk := rfl
@[simp] theorem Dev.setTp_cam (d : Dev) (k : Nat) (v : TimePulse) : (d.setTp k v).cam = d.cam := rfl
theorem Dev.tp_setTp (d : Dev) (k : Nat) (v : TimePulse) (j : Nat) : (d.setTp k v).tp j = if j = k then v else d.tp j := by
  simp [Dev.tp, Dev.setTp, Sparse.get_set]
@[simp] theorem Dev.tp_setTp_self (d : Dev) (k : Nat) (v : TimePulse) : (d.setTp k v).tp k = v := by simp [Dev.tp_setTp]

/-! ### setTc -/
@[simp] theorem Dev.setTc_now (d : Dev) (k : Nat) (v : TimeCap) : (d.setTc k v).now = d.now := rfl
@[simp] theorem Dev.setTc_inReset (d : Dev) (k : Nat) (v : TimeCap) : (d.setTc k v).inReset = d.inReset := rfl
@[simp] theorem Dev.setTc_free (d : Dev) (k : Nat) (v : TimeCap) : (d.setTc k v).free = d.free := rfl
@[simp] theorem Dev.setTc_out (d : Dev) (k : Nat) (v : TimeCap) : (d.setTc k v).out = d.out := rfl
@[simp] theorem Dev.setTc_regs (d : Dev) (k : Nat) (v : TimeCap) : (d.setTc k v).regs = d.regs := rfl
@[simp] theorem Dev.setTc_latch (d : Dev) (k : Nat) (v : TimeCap) : (d.setTc k v).latch = d.latch := rfl
@[simp] theorem Dev.setTc_dram (d : Dev) (k : Nat) (v : TimeCap) : (d.setTc k v).dram = d.dram := rfl
@[simp] theorem Dev.setTc_poison (d : Dev) (k : Nat) (v : TimeCap) : (d.setTc k v).poison = d.poison := rfl
@[simp] theorem Dev.setTc_clock (d : Dev) (k : Nat) (v : TimeCap) : (d.setTc k v).clock = d.clock := rfl
@[simp] theorem Dev.setTc_fm (d : Dev) (k : Nat) (v : TimeCap) : (d.setTc k v).fm = d.fm := rfl
@[simp] theorem Dev.setTc_ups (d : Dev) (k : Nat) (v : TimeCap) : (d.setTc k v).ups = d.ups := rfl
@[simp] theorem Dev.setTc_job (d : Dev) (k : Nat) (v : TimeCap) : (d.setTc k v).job = d.job := rfl
@[simp] theorem Dev.setTc_stores (d : Dev) (k : Nat) (v : TimeCap) : (d.setTc k v).stores = d.stores := rfl
@[simp] theorem Dev.setTc_swath (d : Dev) (k : Nat) (v : TimeCap) : (d.setTc k v).swath = d.swath := rfl
@[simp] theorem Dev.setTc_scr (d : Dev) (k : Nat) (v : TimeCap) : (d.setTc k v).scr = d.scr := rfl
@[simp] theorem Dev.setTc_nz (d : Dev) (k : Nat) (v : TimeCap) : (d.setTc k v).nz = d.nz := rfl
@[simp] theorem Dev.setTc_enc (d : Dev) (k : Nat) (v : TimeCap) : (d.setTc k v).enc = d.enc := rfl
@[simp] theorem Dev.setTc_fir (d : Dev) (k : Nat) (v : TimeCap) : (d.setTc k v).fir = d.fir := rfl
@[simp] theorem Dev.setTc_host (d : Dev) (k : Nat) (v : TimeCap) : (d.setTc k v).host = d.host := rfl
@[simp] theorem Dev.setTc_cc (d : Dev) (k : Nat) (v : TimeCap) : (d.setTc k v).cc = d.cc := rfl
@[simp] theorem Dev.setTc_perf (d : Dev) (k : Nat) (v : TimeCap) : (d.setTc k v).perf = d.perf := rfl
@[simp] theorem Dev.setTc_dref (d : Dev) (k : Nat) (v : TimeCap) : (d.setTc k v).dref = d.dref := rfl
@[simp] theorem Dev.setTc_dc (d : Dev) (k : Nat) (v : TimeCap) : (d.setTc k v).dc = d.dc := rfl
@[simp] theorem Dev.setTc_tw (d : Dev) (k : Nat) (v : TimeCap) : (d.setTc k v).tw = d.tw := rfl
@[simp] theorem Dev.setTc_links (d : Dev) (k : Nat) (v : TimeCap) : (d.setTc k v).links = d.links := rfl
@[simp] theorem Dev.setTc_lanes (d : Dev) (k : Nat) (v : TimeCap) : (d.setTc k v).lanes = d.lanes := rfl
@[simp] theorem Dev.setTc_hk (d : Dev) (k : Nat) (v : TimeCap) : (d.setTc k v).hk = d.hk := rfl
@[simp] theorem Dev.setTc_cam (d : Dev) (k : Nat) (v : TimeCap) : (d.setTc k v).cam = d.cam := rfl
theorem Dev.tc_setTc (d : Dev) (k : Nat) (v : TimeCap) (j : Nat) : (d.setTc k v).tc j = if j = k then v else d.tc j := by
  simp [Dev.tc, Dev.setTc, Sparse.get_set]
@[simp] theorem Dev.tc_setTc_self (d : Dev) (k : Nat) (v : TimeCap) : (d.setTc k v).tc k = v := by simp [Dev.tc_setTc]

/-! ### Reads after updates of something else -/
@[simp] theorem Dev.emit_reg (d : Dev) (o : Out) (i : Nat) : (d.emit o).reg i = d.reg i := rfl
@[simp] theorem Dev.emit_core (d : Dev) (o : Out) (i : Nat) : (d.emit o).core i = d.core i := rfl
@[simp] theorem Dev.emit_lane (d : Dev) (o : Out) (i : Nat) : (d.emit o).lane i = d.lane i := rfl
@[simp] theorem Dev.emit_bl (d : Dev) (o : Out) (i : Nat) : (d.emit o).bl i = d.bl i := rfl
@[simp] theorem Dev.at_reg (d : Dev) (t : Nat) (i : Nat) : (d.at t).reg i = d.reg i := rfl
@[simp] theorem Dev.at_core (d : Dev) (t : Nat) (i : Nat) : (d.at t).core i = d.core i := rfl
@[simp] theorem Dev.at_lane (d : Dev) (t : Nat) (i : Nat) : (d.at t).lane i = d.lane i := rfl
@[simp] theorem Dev.at_bl (d : Dev) (t : Nat) (i : Nat) : (d.at t).bl i = d.bl i := rfl
@[simp] theorem Dev.setReg_core (d : Dev) (k : Nat) (v : Word) (i : Nat) : (d.setReg k v).core i = d.core i := rfl
@[simp] theorem Dev.setReg_lane (d : Dev) (k : Nat) (v : Word) (i : Nat) : (d.setReg k v).lane i = d.lane i := rfl
@[simp] theorem Dev.setReg_bl (d : Dev) (k : Nat) (v : Word) (i : Nat) : (d.setReg k v).bl i = d.bl i := rfl
@[simp] theorem Dev.setQueue_reg (d : Dev) (k : Nat) (v : JobQueue) (i : Nat) : (d.setQueue k v).reg i = d.reg i := rfl
@[simp] theorem Dev.setQueue_core (d : Dev) (k : Nat) (v : JobQueue) (i : Nat) : (d.setQueue k v).core i = d.core i := rfl
@[simp] theorem Dev.setQueue_lane (d : Dev) (k : Nat) (v : JobQueue) (i : Nat) : (d.setQueue k v).lane i = d.lane i := rfl
@[simp] theorem Dev.setQueue_bl (d : Dev) (k : Nat) (v : JobQueue) (i : Nat) : (d.setQueue k v).bl i = d.bl i := rfl
@[simp] theorem Dev.setStore_reg (d : Dev) (k : Nat) (v : Option StoreSlot) (i : Nat) : (d.setStore k v).reg i = d.reg i := rfl
@[simp] theorem Dev.setStore_core (d : Dev) (k : Nat) (v : Option StoreSlot) (i : Nat) : (d.setStore k v).core i = d.core i := rfl
@[simp] theorem Dev.setStore_lane (d : Dev) (k : Nat) (v : Option StoreSlot) (i : Nat) : (d.setStore k v).lane i = d.lane i := rfl
@[simp] theorem Dev.setStore_bl (d : Dev) (k : Nat) (v : Option StoreSlot) (i : Nat) : (d.setStore k v).bl i = d.bl i := rfl
@[simp] theorem Dev.setPort_reg (d : Dev) (k : Nat) (v : Swath) (i : Nat) : (d.setPort k v).reg i = d.reg i := rfl
@[simp] theorem Dev.setPort_core (d : Dev) (k : Nat) (v : Swath) (i : Nat) : (d.setPort k v).core i = d.core i := rfl
@[simp] theorem Dev.setPort_lane (d : Dev) (k : Nat) (v : Swath) (i : Nat) : (d.setPort k v).lane i = d.lane i := rfl
@[simp] theorem Dev.setPort_bl (d : Dev) (k : Nat) (v : Swath) (i : Nat) : (d.setPort k v).bl i = d.bl i := rfl
@[simp] theorem Dev.setPlane_reg (d : Dev) (k : Nat) (v : ScrPlane) (i : Nat) : (d.setPlane k v).reg i = d.reg i := rfl
@[simp] theorem Dev.setPlane_core (d : Dev) (k : Nat) (v : ScrPlane) (i : Nat) : (d.setPlane k v).core i = d.core i := rfl
@[simp] theorem Dev.setPlane_lane (d : Dev) (k : Nat) (v : ScrPlane) (i : Nat) : (d.setPlane k v).lane i = d.lane i := rfl
@[simp] theorem Dev.setPlane_bl (d : Dev) (k : Nat) (v : ScrPlane) (i : Nat) : (d.setPlane k v).bl i = d.bl i := rfl
@[simp] theorem Dev.setHeadFire_reg (d : Dev) (k : Nat) (v : HeadFire) (i : Nat) : (d.setHeadFire k v).reg i = d.reg i := rfl
@[simp] theorem Dev.setHeadFire_core (d : Dev) (k : Nat) (v : HeadFire) (i : Nat) : (d.setHeadFire k v).core i = d.core i := rfl
@[simp] theorem Dev.setHeadFire_lane (d : Dev) (k : Nat) (v : HeadFire) (i : Nat) : (d.setHeadFire k v).lane i = d.lane i := rfl
@[simp] theorem Dev.setHeadFire_bl (d : Dev) (k : Nat) (v : HeadFire) (i : Nat) : (d.setHeadFire k v).bl i = d.bl i := rfl
@[simp] theorem Dev.setRowFire_reg (d : Dev) (k : Nat) (v : RowFire) (i : Nat) : (d.setRowFire k v).reg i = d.reg i := rfl
@[simp] theorem Dev.setRowFire_core (d : Dev) (k : Nat) (v : RowFire) (i : Nat) : (d.setRowFire k v).core i = d.core i := rfl
@[simp] theorem Dev.setRowFire_lane (d : Dev) (k : Nat) (v : RowFire) (i : Nat) : (d.setRowFire k v).lane i = d.lane i := rfl
@[simp] theorem Dev.setRowFire_bl (d : Dev) (k : Nat) (v : RowFire) (i : Nat) : (d.setRowFire k v).bl i = d.bl i := rfl
@[simp] theorem Dev.setPc_reg (d : Dev) (k : Nat) (v : Compare) (i : Nat) : (d.setPc k v).reg i = d.reg i := rfl
@[simp] theorem Dev.setPc_core (d : Dev) (k : Nat) (v : Compare) (i : Nat) : (d.setPc k v).core i = d.core i := rfl
@[simp] theorem Dev.setPc_lane (d : Dev) (k : Nat) (v : Compare) (i : Nat) : (d.setPc k v).lane i = d.lane i := rfl
@[simp] theorem Dev.setPc_bl (d : Dev) (k : Nat) (v : Compare) (i : Nat) : (d.setPc k v).bl i = d.bl i := rfl
@[simp] theorem Dev.setCtx_reg (d : Dev) (k : Nat) (v : HostCtx) (i : Nat) : (d.setCtx k v).reg i = d.reg i := rfl
@[simp] theorem Dev.setCtx_core (d : Dev) (k : Nat) (v : HostCtx) (i : Nat) : (d.setCtx k v).core i = d.core i := rfl
@[simp] theorem Dev.setCtx_lane (d : Dev) (k : Nat) (v : HostCtx) (i : Nat) : (d.setCtx k v).lane i = d.lane i := rfl
@[simp] theorem Dev.setCtx_bl (d : Dev) (k : Nat) (v : HostCtx) (i : Nat) : (d.setCtx k v).bl i = d.bl i := rfl
@[simp] theorem Dev.setChan_reg (d : Dev) (k : Nat) (v : DmaCh) (i : Nat) : (d.setChan k v).reg i = d.reg i := rfl
@[simp] theorem Dev.setChan_core (d : Dev) (k : Nat) (v : DmaCh) (i : Nat) : (d.setChan k v).core i = d.core i := rfl
@[simp] theorem Dev.setChan_lane (d : Dev) (k : Nat) (v : DmaCh) (i : Nat) : (d.setChan k v).lane i = d.lane i := rfl
@[simp] theorem Dev.setChan_bl (d : Dev) (k : Nat) (v : DmaCh) (i : Nat) : (d.setChan k v).bl i = d.bl i := rfl
@[simp] theorem Dev.setCamPort_reg (d : Dev) (k : Nat) (v : CamPort) (i : Nat) : (d.setCamPort k v).reg i = d.reg i := rfl
@[simp] theorem Dev.setCamPort_core (d : Dev) (k : Nat) (v : CamPort) (i : Nat) : (d.setCamPort k v).core i = d.core i := rfl
@[simp] theorem Dev.setCamPort_lane (d : Dev) (k : Nat) (v : CamPort) (i : Nat) : (d.setCamPort k v).lane i = d.lane i := rfl
@[simp] theorem Dev.setCamPort_bl (d : Dev) (k : Nat) (v : CamPort) (i : Nat) : (d.setCamPort k v).bl i = d.bl i := rfl
@[simp] theorem Dev.setCamChan_reg (d : Dev) (k j : Nat) (v : CamChan) (i : Nat) : (d.setCamChan k j v).reg i = d.reg i := rfl
@[simp] theorem Dev.setCamChan_core (d : Dev) (k j : Nat) (v : CamChan) (i : Nat) : (d.setCamChan k j v).core i = d.core i := rfl
@[simp] theorem Dev.setCamChan_lane (d : Dev) (k j : Nat) (v : CamChan) (i : Nat) : (d.setCamChan k j v).lane i = d.lane i := rfl
@[simp] theorem Dev.setCamChan_bl (d : Dev) (k j : Nat) (v : CamChan) (i : Nat) : (d.setCamChan k j v).bl i = d.bl i := rfl
@[simp] theorem Dev.setCore_reg (d : Dev) (k : Nat) (v : Core) (i : Nat) : (d.setCore k v).reg i = d.reg i := rfl
@[simp] theorem Dev.setCore_lane (d : Dev) (k : Nat) (v : Core) (i : Nat) : (d.setCore k v).lane i = d.lane i := rfl
@[simp] theorem Dev.setCore_bl (d : Dev) (k : Nat) (v : Core) (i : Nat) : (d.setCore k v).bl i = d.bl i := rfl
@[simp] theorem Dev.setDrefRow_reg (d : Dev) (k : Nat) (v : DrefRow) (i : Nat) : (d.setDrefRow k v).reg i = d.reg i := rfl
@[simp] theorem Dev.setDrefRow_core (d : Dev) (k : Nat) (v : DrefRow) (i : Nat) : (d.setDrefRow k v).core i = d.core i := rfl
@[simp] theorem Dev.setDrefRow_lane (d : Dev) (k : Nat) (v : DrefRow) (i : Nat) : (d.setDrefRow k v).lane i = d.lane i := rfl
@[simp] theorem Dev.setDrefRow_bl (d : Dev) (k : Nat) (v : DrefRow) (i : Nat) : (d.setDrefRow k v).bl i = d.bl i := rfl
@[simp] theorem Dev.setDch_reg (d : Dev) (k : Nat) (v : DramCh) (i : Nat) : (d.setDch k v).reg i = d.reg i := rfl
@[simp] theorem Dev.setDch_core (d : Dev) (k : Nat) (v : DramCh) (i : Nat) : (d.setDch k v).core i = d.core i := rfl
@[simp] theorem Dev.setDch_lane (d : Dev) (k : Nat) (v : DramCh) (i : Nat) : (d.setDch k v).lane i = d.lane i := rfl
@[simp] theorem Dev.setDch_bl (d : Dev) (k : Nat) (v : DramCh) (i : Nat) : (d.setDch k v).bl i = d.bl i := rfl
@[simp] theorem Dev.setTwin_reg (d : Dev) (k : Nat) (v : TwinPort) (i : Nat) : (d.setTwin k v).reg i = d.reg i := rfl
@[simp] theorem Dev.setTwin_core (d : Dev) (k : Nat) (v : TwinPort) (i : Nat) : (d.setTwin k v).core i = d.core i := rfl
@[simp] theorem Dev.setTwin_lane (d : Dev) (k : Nat) (v : TwinPort) (i : Nat) : (d.setTwin k v).lane i = d.lane i := rfl
@[simp] theorem Dev.setTwin_bl (d : Dev) (k : Nat) (v : TwinPort) (i : Nat) : (d.setTwin k v).bl i = d.bl i := rfl
@[simp] theorem Dev.setBl_reg (d : Dev) (k : Nat) (v : BarLink) (i : Nat) : (d.setBl k v).reg i = d.reg i := rfl
@[simp] theorem Dev.setBl_core (d : Dev) (k : Nat) (v : BarLink) (i : Nat) : (d.setBl k v).core i = d.core i := rfl
@[simp] theorem Dev.setBl_lane (d : Dev) (k : Nat) (v : BarLink) (i : Nat) : (d.setBl k v).lane i = d.lane i := rfl
@[simp] theorem Dev.setLane_reg (d : Dev) (k : Nat) (v : Lane) (i : Nat) : (d.setLane k v).reg i = d.reg i := rfl
@[simp] theorem Dev.setLane_core (d : Dev) (k : Nat) (v : Lane) (i : Nat) : (d.setLane k v).core i = d.core i := rfl
@[simp] theorem Dev.setLane_bl (d : Dev) (k : Nat) (v : Lane) (i : Nat) : (d.setLane k v).bl i = d.bl i := rfl
@[simp] theorem Dev.setDom_reg (d : Dev) (k : Nat) (v : PtpDom) (i : Nat) : (d.setDom k v).reg i = d.reg i := rfl
@[simp] theorem Dev.setDom_core (d : Dev) (k : Nat) (v : PtpDom) (i : Nat) : (d.setDom k v).core i = d.core i := rfl
@[simp] theorem Dev.setDom_lane (d : Dev) (k : Nat) (v : PtpDom) (i : Nat) : (d.setDom k v).lane i = d.lane i := rfl
@[simp] theorem Dev.setDom_bl (d : Dev) (k : Nat) (v : PtpDom) (i : Nat) : (d.setDom k v).bl i = d.bl i := rfl
@[simp] theorem Dev.setTp_reg (d : Dev) (k : Nat) (v : TimePulse) (i : Nat) : (d.setTp k v).reg i = d.reg i := rfl
@[simp] theorem Dev.setTp_core (d : Dev) (k : Nat) (v : TimePulse) (i : Nat) : (d.setTp k v).core i = d.core i := rfl
@[simp] theorem Dev.setTp_lane (d : Dev) (k : Nat) (v : TimePulse) (i : Nat) : (d.setTp k v).lane i = d.lane i := rfl
@[simp] theorem Dev.setTp_bl (d : Dev) (k : Nat) (v : TimePulse) (i : Nat) : (d.setTp k v).bl i = d.bl i := rfl
@[simp] theorem Dev.setTc_reg (d : Dev) (k : Nat) (v : TimeCap) (i : Nat) : (d.setTc k v).reg i = d.reg i := rfl
@[simp] theorem Dev.setTc_core (d : Dev) (k : Nat) (v : TimeCap) (i : Nat) : (d.setTc k v).core i = d.core i := rfl
@[simp] theorem Dev.setTc_lane (d : Dev) (k : Nat) (v : TimeCap) (i : Nat) : (d.setTc k v).lane i = d.lane i := rfl
@[simp] theorem Dev.setTc_bl (d : Dev) (k : Nat) (v : TimeCap) (i : Nat) : (d.setTc k v).bl i = d.bl i := rfl

end Sys2Proof.Machine
end

