-- ==== Sys2Proof/Laws/Core.lean ====
section
/-!
SUPPORT. What issuing an instruction of a core can do: one lemma for the sampler's part, one for the retirement, one for
the whole command.
-/
namespace Sys2Proof.Machine

/-- Counting touches the counters alone. -/
theorem Dev.count_eq (d : Dev) (n k : Nat) :
    d.count n k = { d with perf := { d.perf with cnt := (d.count n k).perf.cnt } } := by
  unfold Dev.count; split <;> rfl

@[simp] theorem Dev.count_core (d : Dev) (n k m : Nat) : (d.count n k).core m = d.core m := by
  rw [Dev.count_eq]; rfl

@[simp] theorem Dev.count_reg (d : Dev) (n k m : Nat) : (d.count n k).reg m = d.reg m := by
  rw [Dev.count_eq]; rfl

/-- Nothing but core `n`, the counters and the sampler's generator differs between two devices. -/
structure Dev.Near (n : Nat) (d d' : Dev) : Prop where
  dev : d' = { d with cc := { d.cc with cores := d'.cc.cores },
                      perf := { d.perf with cnt := d'.perf.cnt, gen := d'.perf.gen } }
  others : ∀ m, m ≠ n → d'.core m = d.core m

theorem Dev.Near.refl (n : Nat) (d : Dev) : Dev.Near n d d := ⟨rfl, fun _ _ => rfl⟩

theorem Dev.Near.trans {n : Nat} {d d' d'' : Dev} (h : Dev.Near n d d') (h' : Dev.Near n d' d'') : Dev.Near n d d'' :=
  ⟨by rw [h'.dev, h.dev], fun m hm => (h'.others m hm).trans (h.others m hm)⟩

theorem Dev.Near.setCore (n : Nat) (d : Dev) (c : Core) : Dev.Near n d (d.setCore n c) :=
  ⟨rfl, fun m hm => by rw [Dev.core_setCore, if_neg hm]⟩

theorem Dev.Near.count (n : Nat) (d : Dev) (k j : Nat) : Dev.Near n d (d.count k j) :=
  ⟨by unfold Dev.count; split <;> rfl, fun m _ => Dev.count_core d k j m⟩

/-- Two cores alike but for the sampler's marks. -/
structure Core.Like (c c' : Core) : Prop where
  eq : { c with countdown := 0, tagNext := false, tag := none } = { c' with countdown := 0, tagNext := false, tag := none }

theorem Core.Like.refl (c : Core) : Core.Like c c := ⟨rfl⟩
theorem Core.Like.trans {a b c : Core} (h : Core.Like a b) (h' : Core.Like b c) : Core.Like a c := ⟨h.eq.trans h'.eq⟩

theorem Core.Like.fields {c c' : Core} (h : Core.Like c c') :
    c'.st = c.st ∧ c'.wasWaiting = c.wasWaiting ∧ c'.s = c.s ∧ c'.v = c.v ∧ c'.pc = c.pc ∧ c'.csr = c.csr ∧
      c'.lmem = c.lmem ∧ c'.kickAt = c.kickAt ∧ c'.since = c.since ∧ c'.held = c.held := by
  have h := h.eq
  simp only [Core.mk.injEq] at h
  obtain ⟨h1, h2, h3, h4, h5, h6, h7, h8, h9, h10, -⟩ := h
  exact ⟨h1.symm, h2.symm, h3.symm, h4.symm, h5.symm, h6.symm, h7.symm, h8.symm, h9.symm, h10.symm⟩

/-- The sampler's tag touches the sampler's marks and its generator alone. -/
theorem Dev.sampleDue_near (d : Dev) (n : Nat) :
    Dev.Near n d (d.sampleDue n) ∧ Core.Like (d.core n) ((d.sampleDue n).core n) := by
  unfold Dev.sampleDue
  simp only
  split
  · unfold Dev.loadCountdown
    simp only
    refine ⟨⟨rfl, fun m hm => ?_⟩, ?_⟩
    · rw [Dev.core_setCore, if_neg hm]; exact (Dev.Near.setCore n d _).others m hm
    · rw [Dev.core_setCore_self]
      change Core.Like (d.core n) { (d.setCore n _).core n with countdown := _ }
      rw [Dev.core_setCore_self]; exact ⟨rfl⟩
  · exact ⟨.refl n d, .refl _⟩

theorem Dev.takeTag_near (d : Dev) (n : Nat) (pc insn : Word) (fl : Nat) (a : Word) :
    Dev.Near n d (d.takeTag n pc insn fl a) ∧ Core.Like (d.core n) ((d.takeTag n pc insn fl a).core n) := by
  unfold Dev.takeTag
  simp only
  split
  · exact ⟨.setCore n d _, by rw [Dev.core_setCore_self]; exact ⟨rfl⟩⟩
  · exact ⟨.refl n d, .refl _⟩

theorem Dev.sampRetire_near (d : Dev) (n : Nat) :
    Dev.Near n d (d.sampRetire n) ∧ Core.Like (d.core n) ((d.sampRetire n).core n) := by
  unfold Dev.sampRetire
  split
  · exact ⟨.setCore n d _, by rw [Dev.core_setCore_self]; exact ⟨rfl⟩⟩
  · exact ⟨.refl n d, .refl _⟩

/-- The core as the retirement leaves it, but for the sampler's marks: at a pc of its own where the instruction names
one. -/
def Core.atPc (c : Core) (p : Option Word) : Core := match p with | some x => { c with pc := x } | none => c

theorem Core.Like.atPc {c c' : Core} (h : Core.Like c c') (p : Option Word) : Core.Like (c.atPc p) (c'.atPc p) := by
  cases p with
  | none => exact h
  | some x =>
    have h := h.eq
    simp only [Core.mk.injEq] at h
    exact ⟨by simp [Core.atPc, h]⟩

/-- A retirement outside the reset. -/
theorem Dev.finish_retire (d d' : Dev) (n : Nat) (pc insn : Word) (p : Option Word) (fl : Nat) (a : Word)
    (hr : d'.inReset = false) :
    ∃ d'', d.finish n pc insn (.retire d' p fl a) = .ok d'' ∧ Dev.Near n d' d'' ∧
      Core.Like ((d'.core n).atPc p) (d''.core n) := by
  unfold Dev.finish
  simp only [hr, Bool.false_eq_true, if_false]
  refine ⟨_, rfl, ?_⟩
  have key : ∀ x : Dev, Dev.Near n d' x → Core.Like ((d'.core n).atPc p) (x.core n) →
      Dev.Near n d' ((((if fl / 4 % 2 = 1 then x.count (16 * n + 7) 1 else x).count (16 * n) 1).takeTag n pc insn fl a).sampRetire n) ∧
      Core.Like ((d'.core n).atPc p)
        (((((if fl / 4 % 2 = 1 then x.count (16 * n + 7) 1 else x).count (16 * n) 1).takeTag n pc insn fl a).sampRetire n).core n) := by
    intro x h1 h2
    have a1 : Dev.Near n d' (if fl / 4 % 2 = 1 then x.count (16 * n + 7) 1 else x) ∧
        Core.Like ((d'.core n).atPc p) ((if fl / 4 % 2 = 1 then x.count (16 * n + 7) 1 else x).core n) := by
      split
      · exact ⟨h1.trans (.count n x _ _), by rw [Dev.count_core]; exact h2⟩
      · exact ⟨h1, h2⟩
    have a2 := a1.1.trans (.count n _ (16 * n) 1)
    have a3 := Dev.takeTag_near ((if fl / 4 % 2 = 1 then x.count (16 * n + 7) 1 else x).count (16 * n) 1) n pc insn fl a
    have a4 := Dev.sampRetire_near (((if fl / 4 % 2 = 1 then x.count (16 * n + 7) 1 else x).count (16 * n) 1).takeTag n pc insn fl a) n
    refine ⟨(a2.trans a3.1).trans a4.1, Core.Like.trans ?_ a4.2⟩
    refine Core.Like.trans ?_ a3.2
    rw [Dev.count_core]; exact a1.2
  cases p with
  | none => exact key d' (.refl n d') (.refl _)
  | some x =>
    refine key _ (.setCore n d' _) ?_
    rw [Dev.core_setCore_self]; exact .refl _

/-- What issuing an instruction does: its work is done on the device with the pc behind it, and then it ends. -/
theorem onCore_issues {t n : Nat} {i : Instr} {s : State} (f : Word → Dev → CoreEnd) (h : Issues s n i) :
    ∃ d1 : Dev, Dev.Near n (s.dev.at t) d1 ∧ d1.inReset = false ∧
      Core.Like { s.dev.core n with pc := (s.dev.core n).pc + 4 } (d1.core n) ∧
      onCore t n i f s =
        match (s.dev.at t).finish n (s.dev.core n).pc (s.dev.fetchCore n (s.dev.core n).pc) (f (s.dev.core n).pc d1) with
        | .ok d' => .next { s with dev := d' }
        | .error e => .fault e := by
  obtain ⟨h1, h2, h3, h4, h5⟩ := h
  have hs := Dev.sampleDue_near (s.dev.at t) n
  refine ⟨((s.dev.at t).sampleDue n).setCore n { ((s.dev.at t).sampleDue n).core n with pc := (s.dev.core n).pc + 4 },
    hs.1.trans (.setCore n _ _), ?_, ?_, ?_⟩
  · rw [(hs.1.trans (.setCore n _ _)).dev]; exact h1
  · rw [Dev.core_setCore_self]
    refine ⟨?_⟩
    have he := hs.2.eq
    have hp : ((s.dev.at t).core n) = s.dev.core n := rfl
    rw [hp] at he
    simp only [Core.mk.injEq] at he ⊢
    obtain ⟨a1, a2, a3, a4, -, a6, a7, a8, a9, a10, -⟩ := he
    simp [a1, a2, a3, a4, a6, a7, a8, a9, a10]
  · have hc : ccOk n = true := by simp [ccOk, h2]
    have hcore : ((s.dev.at t).core n) = s.dev.core n := rfl
    unfold onCore onUnitE onDevE Dev.issue
    have hi : (s.dev.at t).inReset = false := h1
    have hf : (s.dev.at t).fetchable n (s.dev.core n).pc = true := h4
    have hw : (s.dev.at t).fetchCore n (s.dev.core n).pc = s.dev.fetchCore n (s.dev.core n).pc := rfl
    simp only [hc, hi, h5, hcore, h3, hf, hw, Option.getD_some, if_true, if_false, Bool.false_eq_true, ne_eq,
      not_true_eq_false, Bool.not_true]
    all_goals
      generalize Dev.finish _ _ _ _ _ = r
      cases r <;> rfl

/-- An instruction that retires outside the reset: the next state, but for the counters and the sampler's marks, is the
one its work leaves. -/
theorem onCore_retire {t n : Nat} {i : Instr} {s : State} (f : Word → Dev → CoreEnd) (h : Issues s n i)
    (g : Core → Core) (p : Option Word) (fl : Nat) (a : Word)
    (hf : ∀ d1 : Dev, Core.Like { s.dev.core n with pc := (s.dev.core n).pc + 4 } (d1.core n) →
      ∃ d2, f (s.dev.core n).pc d1 = .retire d2 p fl a ∧ Dev.Near n d1 d2 ∧
        Core.Like (g { s.dev.core n with pc := (s.dev.core n).pc + 4 }) (d2.core n)) :
    ∃ s', onCore t n i f s = .next s' ∧ CoreOnly t n s s' ∧
      Core.Like ((g { s.dev.core n with pc := (s.dev.core n).pc + 4 }).atPc p) (s'.dev.core n) := by
  obtain ⟨d1, hn, hr, hl, he⟩ := onCore_issues (t := t) f h
  obtain ⟨d2, hfe, hn2, hl2⟩ := hf d1 hl
  have hr2 : d2.inReset = false := by rw [hn2.dev]; exact hr
  obtain ⟨d3, hfin, hn3, hl3⟩ := Dev.finish_retire (s.dev.at t) d2 n (s.dev.core n).pc
    (s.dev.fetchCore n (s.dev.core n).pc) p fl a hr2
  have hall := (hn.trans hn2).trans hn3
  refine ⟨{ s with dev := d3 }, ?_, ⟨rfl, rfl, ?_, ?_⟩, ?_⟩
  · rw [he, hfe, hfin]
  · have := hall.dev
    simpa [Dev.at] using this
  · intro m hm; exact hall.others m hm
  · refine Core.Like.trans ?_ hl3
    exact hl2.atPc p

end Sys2Proof.Machine
end

