-- ==== Sys2Proof/WellFormed.lean ====
section
/-!
DEFINITION. Which commands name units the device has: writers, cores, rows, heads, links, lanes, contexts, channels and
ports inside their numbers, register offsets inside the window and on a word, LOOP with a register other than s0 (R307).
The step checks the unit numbers itself, and faults with noSuchUnit where the hardware has no such unit.
-/
namespace Sys2Proof

/-- Four host contexts (R354) and eight cores (R295). -/
def Writer.ok : Writer → Bool
  | .host h => decide (h < 4)
  | .core n => decide (n < 8)

/-- 32 bar links and endpoints, two twin links. -/
def Receiver.ok : Receiver → Bool
  | .bar k => decide (k < 32)
  | .twin q => decide (q < 2)
  | .endpoint k _ => decide (k < 32)

/-- The units and ranges a command names exist. -/
def Instr.wellFormed : Instr → Bool
  | .powerOnReset _ | .resetNAssert _ _ | .brownout _ _ _ | .resetRelease _ | .bootLoad _ | .loadEnd _ _
  | .flashWriteEnd _ _ _ _ | .commitLinePass _ | .jobBoundary _ | .ledgerSaveEnd _ _ _ | .indexPulse _
  | .webStopDetected _ | .tallyPeriodExpire _ | .tallyDumpDone _ | .dramTrainingDone _ _ _ | .dramFillDone _
  | .changePause _ | .scrubBurstRead _ _ _ | .twBeatSend _ | .twCkptSend _ | .twResendTimeout _ | .heartbeatLoss _
  | .takeoverTimeout _ | .pairWaitExpire _ | .holdoffExpire _ | .revertReadyCheck _ | .domainReturn _
  | .pendingStepMade _ | .hkRound _ _ | .graceExpire _ | .govTick _ | .plumbSample _ _ =>
    true
  | .sysReset _ w _ | .fullLoad _ w _ | .liveLoad _ w _ | .flashWriteGo _ w _ | .jobStart _ w _ | .jobStop _ w _
  | .nzHrecAppend _ w _ | .nzSubmit _ w _ | .nzDiscard _ w _ | .ledgerSave _ w _ | .scrPeek _ w _
  | .encSnapTake _ w _ | .firBrecAppend _ w _ | .firSubmit _ w _ | .firDiscard _ w _ | .firSnapTake _ w _
  | .loopCal _ w _ | .clearCounters _ w _ | .tallyNow _ w _ | .sampArm _ w _ | .dcRetrain _ w _
  | .setpointChange _ w _ | .revertNow _ w _ | .twResync _ w _ | .twAlone _ w _ | .tkStep _ w _ | .tkSnapTake _ w _ =>
    w.ok
  | .perstAssert _ n | .encCount _ n _ _ | .wireDisagreeEnter _ n _ | .wireDisagreeExit _ n _ | .speedWindowEnd _ n
  | .functionLevelReset _ n _ =>
    decide (n < 2)
  | .cmpOpen _ w slot _ =>
    w.ok && decide (slot < 8)
  | .stripStore _ slot _ _ =>
    decide (slot < 8)
  | .jqPost _ w c _ =>
    w.ok && decide (c < 8)
  | .fetchBurstReturn _ c _ _ | .stripDecode _ c | .planeLineScreen _ c _ =>
    decide (c < 8)
  | .linePrepare _ row _ | .seamApply _ row | .drefStep _ row =>
    decide (row < 16)
  | .nzPatArm _ w slot _ =>
    w.ok && decide (slot < 32)
  | .fireCommit _ h | .lineFrameSend _ h =>
    decide (h < 256)
  | .fireOrderedSetSend _ k | .tickSend _ k | .probeSend _ k | .probeTimeout _ k | .capsReqSend _ k
  | .lockCapsTimeout _ k | .configTimeout _ k | .capsReceive _ k _ | .probeEchoReceive _ k _
  | .echoBlockReceive _ k _ | .echoResendReceive _ k _ | .echoStatusReceive _ k _ | .hkFrameReceive _ k _
  | .epLineReceive _ k _ _ | .epArmReceive _ k _ _ | .epFireReceive _ k _ _ | .epTickReceive _ k _ _
  | .epDigestReceive _ k _ _ | .epClaimReceive _ k _ _ | .epHaltReceive _ k _ _ | .epSignalLoss _ k _
  | .epCapsReq _ k _ _ | .epHeadcfg _ k _ _ | .epHkReq _ k _ _ | .epClear _ k _ _ | .epEidle _ k _ _
  | .epPattern _ k _ _ | .epLoopback _ k _ _ | .epTestEnd _ k _ | .epEidleTimeout _ k _ | .epProbeReceive _ k _ _
  | .epStatusPeriodic _ k | .epCapsPeriodic _ k _ | .epReset _ k | .eidleEnter _ k | .eidleExit _ k
  | .epRefoOutOfLimits _ k _ _ =>
    decide (k < 32)
  | .pcArm _ w n _ | .pcDisarm _ w n _ =>
    w.ok && decide (n < 32)
  | .compareEdge _ n | .comparePulseEnd _ n =>
    decide (n < 32)
  | .recaps _ w k _ | .reprobe _ w k _ =>
    w.ok && decide (k < 32)
  | .epArmExpire _ k _ q =>
    decide (k < 32 ∧ q < 8)
  | .csiFrameStart _ p vc fn =>
    decide (p < 8 ∧ vc < 16 ∧ fn < 65536)
  | .csiFrameEnd _ p vc | .csiEmbeddedData _ p vc _ | .frameTimeout _ p vc | .frameClose _ p vc =>
    decide (p < 8 ∧ vc < 16)
  | .csiLinePacket _ p vc dt _ _ _ | .csiOtherPacket _ p vc dt _ =>
    decide (p < 8 ∧ vc < 16 ∧ dt < 64)
  | .pipelineLine _ pl _ =>
    decide (pl < 4)
  | .camCciCmd _ w p _ | .camCciRdata _ w p =>
    w.ok && decide (p < 8)
  | .cciCommandDone _ p _ _ =>
    decide (p < 8)
  | .ispLutD2 _ w p prof _ | .ispSwap _ w p prof _ =>
    w.ok && decide (p < 8 ∧ prof < 2)
  | .loopDrefSet _ w row _ =>
    w.ok && decide (row < 16)
  | .ccHalt _ w n _ | .ccResume _ w n _ | .ccStart _ w n _ | .ccMailIn _ w n _ | .tpArm _ w n _ | .tpDisarm _ w n _ =>
    w.ok && decide (n < 8)
  | .corePatchWrite _ w off _ =>
    w.ok && decide (0xC00000 ≤ off ∧ off < 0xE00000 ∧ off % 4 = 0)
  | .opAdd _ n _ _ _ | .opSub _ n _ _ _ | .opAnd _ n _ _ _ | .opOr _ n _ _ _ | .opXor _ n _ _ _ | .opAndn _ n _ _ _
  | .opLsl _ n _ _ _ | .opLsr _ n _ _ _ | .opAsr _ n _ _ _ | .opRor _ n _ _ _ | .opSeq _ n _ _ _ | .opSne _ n _ _ _
  | .opSlt _ n _ _ _ | .opSltu _ n _ _ _ | .opMul _ n _ _ _ | .opMulhi _ n _ _ _ | .opMulhiu _ n _ _ _
  | .opDiv _ n _ _ _ | .opDivu _ n _ _ _ | .opMod _ n _ _ _ | .opModu _ n _ _ _ | .opMin _ n _ _ _ | .opMax _ n _ _ _
  | .opMinu _ n _ _ _ | .opMaxu _ n _ _ _ | .opLzc _ n _ _ | .opPopc _ n _ _ | .opAbsd _ n _ _ _ | .opAddk _ n _ _ _
  | .opAndk _ n _ _ _ | .opOrk _ n _ _ _ | .opXork _ n _ _ _ | .opLtk _ n _ _ _ | .opLtku _ n _ _ _
  | .opHik _ n _ _ _ | .opShk _ n _ _ _ _ | .opLdw _ n _ _ _ _ | .opLdh _ n _ _ _ _ | .opLdhz _ n _ _ _ _
  | .opLdb _ n _ _ _ _ | .opLdbz _ n _ _ _ _ | .opStw _ n _ _ _ | .opSth _ n _ _ _ | .opStb _ n _ _ _
  | .opBrt _ n _ _ | .opBrf _ n _ _ | .opGo _ n _ | .opCall _ n _ | .opCallr _ n _ _ _ | .opGetc _ n _ _
  | .opPutc _ n _ _ | .opSetc _ n _ _ | .opClrc _ n _ _ | .opWait _ n | .waitComplete _ n | .opNotify _ n _
  | .opSync _ n | .opBreak _ n _ | .opHret _ n | .opVld _ n _ _ _ _ | .opVst _ n _ _ _ | .opVadd _ n _ _ _
  | .opVsub _ n _ _ _ | .opVadds _ n _ _ _ | .opVsubs _ n _ _ _ | .opVmul _ n _ _ _ | .opVmulh _ n _ _ _
  | .opVmin _ n _ _ _ | .opVmax _ n _ _ _ | .opVand _ n _ _ _ | .opVor _ n _ _ _ | .opVxor _ n _ _ _
  | .opVsra _ n _ _ _ | .opVsll _ n _ _ _ | .opVsplat _ n _ _ | .opVsum _ n _ _ | .opVext _ n _ _ _
  | .opVins _ n _ _ _ | .opVabsd _ n _ _ _ | .timerCompare _ n | .watchdogExpire _ n | .sampleTag _ n
  | .sampleRecordWrite _ n _ | .tpEdge _ n | .tpPulseEnd _ n | .illegalInstruction _ n _ =>
    decide (n < 8)
  | .opLoop _ n x _ =>
    x != 0 && decide (n < 8)
  | .latchingLoRead _ w off | .regWrite _ w off _ _ =>
    w.ok && decide (off < 0x1000000 ∧ off % 4 = 0)
  | .refreshDue _ m | .retrainInterval _ m | .retrainPause _ m | .srIdleEntry _ m _ =>
    decide (m < 2)
  | .regRd _ q _ port _ | .regWr _ q _ port _ | .dgOpen _ q _ port _ | .dgClose _ q _ port _ | .dgKeep _ q _ port _
  | .rdData _ q _ port _ | .datagramDiscarded _ q _ port _ =>
    decide (q < 2 ∧ port < 65536)
  | .datagramResendTimeout _ h | .peerTimeout _ h | .dmAbort _ h _ =>
    decide (h < 4)
  | .arpRequest _ q _ _ _ | .icmpEchoRequest _ q _ _ _ | .twHello _ q _ | .twBeat _ q _ | .twCkpt _ q _ _
  | .twState _ q _ _ | .twIdig _ q _ _ | .twAck _ q _ | .twProbe _ q _ _ _ _ | .twLinkTimeout _ q
  | .revertRequest _ q | .revertAck _ q _ | .revertAbort _ q | .ptpSync _ q _ | .ptpFollowUp _ q _
  | .ptpDelayReq _ q _ | .ptpDelayResp _ q _ | .ptpPdelayReq _ q _ | .ptpPdelayResp _ q _ | .ptpAnnounce _ q _ _
  | .ptpOther _ q _ =>
    decide (q < 2)
  | .dmDoorbell _ h j | .dmStop _ h j _ =>
    decide (h < 4 ∧ j < 4)
  | .descriptorFetch _ ch _ | .dmaBurst _ ch _ | .descriptorComplete _ ch | .nonRespondingMemory _ ch _ _ =>
    decide (ch < 16)
  | .irqGapExpire _ h src =>
    decide (h < 4 ∧ src < 8)
  | .twMirror _ q _ off bursts _ =>
    decide (q < 2 ∧ off % 64 = 0 ∧ bursts.length % 64 = 0 ∧ bursts.length ≤ 1984)
  | .echoOverdue _ k h _ =>
    decide (k < 32 ∧ h < 8)
  | .delayReqSend _ q dom | .masterAnnounceSend _ q dom | .masterSyncSend _ q dom =>
    decide (q < 2 ∧ dom < 2)
  | .domainLost _ dom =>
    decide (dom < 2)
  | .tcEdge _ c _ =>
    decide (c < 4)
  | .tcPop _ w c =>
    w.ok && decide (c < 4)
  | .lossOfSignal _ n | .signalRestored _ n | .blockLock _ n | .lockLost _ n | .deepStateExitDone _ n
  | .laneTestEnd _ n _ =>
    decide (n < 36)
  | .laneTestPattern _ w n _ | .laneTestFarLoop _ w n _ | .laneTestNearLoop _ w n _ | .laneTestOff _ w n _
  | .laneErrinj _ w n _ | .laneClr _ w n _ =>
    w.ok && decide (n < 36)
  | .pcieLinkTrained _ n speed _ =>
    decide (n < 2 ∧ 1 ≤ speed ∧ speed ≤ 4)
  | .frameDiscarded _ rx =>
    rx.ok

end Sys2Proof
end

