-- ==== Sys2Proof/Tests/Slice0.lean ====
section
/-!
SUPPORT. The model's own tests: an ill-formed command for each check of WellFormed, words of the control cores written out
from the spec's formats, and for each statement states and operands that meet its hypotheses, clause by clause, with what
the command then answers. Expected values come from the rules cited.
-/
namespace Sys2Proof.Tests

open Sys2Proof Sys2Proof.Machine

set_option Elab.async false

/-- The command answers a next state that passes the check. -/
def yields (c : Instr) (s : State) (p : State → Bool) : Bool :=
  match exec c s with
  | .next s' => p s'
  | _ => false

/-- A state after reset with another device. -/
def on (f : Dev → Dev) : State := { State.reset with dev := f State.reset.dev }

/-! ### WellFormed -/

theorem test_wf_writer : (Instr.jobStart 0 (.host 4) 1).wellFormed = false ∧ (Instr.jobStart 0 (.core 8) 1).wellFormed = false ∧
    (Instr.jobStart 0 (.host 3) 1).wellFormed = true := by decide
theorem test_wf_core : (Instr.opAdd 0 8 1 2 3).wellFormed = false ∧ (Instr.opAdd 0 7 1 2 3).wellFormed = true := by decide
theorem test_wf_loop : (Instr.opLoop 0 0 0 4).wellFormed = false ∧ (Instr.opLoop 0 0 1 4).wellFormed = true := by decide
theorem test_wf_encoder : (Instr.encCount 0 2 true false).wellFormed = false := by decide
theorem test_wf_pcie : (Instr.pcieLinkTrained 0 0 5 4).wellFormed = false ∧ (Instr.pcieLinkTrained 0 0 0 4).wellFormed = false ∧
    (Instr.pcieLinkTrained 0 2 4 4).wellFormed = false ∧ (Instr.pcieLinkTrained 0 1 4 4).wellFormed = true := by decide
theorem test_wf_store : (Instr.stripStore 0 8 [] false).wellFormed = false ∧ (Instr.cmpOpen 0 (.host 0) 8 1).wellFormed = false := by decide
theorem test_wf_plane : (Instr.stripDecode 0 8).wellFormed = false ∧ (Instr.jqPost 0 (.host 0) 8 1).wellFormed = false := by decide
theorem test_wf_row : (Instr.seamApply 0 16).wellFormed = false ∧ (Instr.loopDrefSet 0 (.host 0) 16 1).wellFormed = false := by decide
theorem test_wf_pattern : (Instr.nzPatArm 0 (.host 0) 32 1).wellFormed = false := by decide
theorem test_wf_head : (Instr.fireCommit 0 256).wellFormed = false := by decide
theorem test_wf_link : (Instr.tickSend 0 32).wellFormed = false ∧ (Instr.epReset 0 32).wellFormed = false ∧
    (Instr.recaps 0 (.host 0) 32 1).wellFormed = false ∧ (Instr.epArmExpire 0 0 .a 8).wellFormed = false ∧
    (Instr.echoOverdue 0 32 0 0).wellFormed = false ∧ (Instr.echoOverdue 0 0 8 0).wellFormed = false := by decide
theorem test_wf_compare : (Instr.compareEdge 0 32).wellFormed = false ∧ (Instr.pcArm 0 (.host 0) 32 1).wellFormed = false := by decide
theorem test_wf_camera : (Instr.csiFrameEnd 0 8 0).wellFormed = false ∧ (Instr.csiFrameEnd 0 0 16).wellFormed = false ∧
    (Instr.csiFrameStart 0 0 0 65536).wellFormed = false ∧ (Instr.csiOtherPacket 0 0 0 64 false).wellFormed = false ∧
    (Instr.pipelineLine 0 4 false).wellFormed = false ∧ (Instr.cciCommandDone 0 8 true 0).wellFormed = false ∧
    (Instr.camCciRdata 0 (.host 0) 8).wellFormed = false ∧ (Instr.ispSwap 0 (.host 0) 0 2 1).wellFormed = false := by decide
theorem test_wf_pulse : (Instr.tpEdge 0 8).wellFormed = false ∧ (Instr.tcEdge 0 4 false).wellFormed = false ∧
    (Instr.tcPop 0 (.host 0) 4).wellFormed = false ∧ (Instr.tpArm 0 (.host 0) 8 1).wellFormed = false := by decide
theorem test_wf_offsets : (Instr.corePatchWrite 0 (.host 0) 0xBFFFFC 0).wellFormed = false ∧
    (Instr.corePatchWrite 0 (.host 0) 0xE00000 0).wellFormed = false ∧ (Instr.corePatchWrite 0 (.host 0) 0xC00002 0).wellFormed = false ∧
    (Instr.regWrite 0 (.host 0) 0x1000000 0 15).wellFormed = false ∧ (Instr.latchingLoRead 0 (.host 0) 2).wellFormed = false := by decide
theorem test_wf_dram : (Instr.refreshDue 0 2).wellFormed = false := by decide
theorem test_wf_ethernet : (Instr.dgKeep 0 2 0 0 []).wellFormed = false ∧ (Instr.dgKeep 0 0 0 65536 []).wellFormed = false ∧
    (Instr.arpRequest 0 2 0 0 0).wellFormed = false := by decide
theorem test_wf_context : (Instr.peerTimeout 0 4).wellFormed = false ∧ (Instr.dmDoorbell 0 4 0).wellFormed = false ∧
    (Instr.dmDoorbell 0 0 4).wellFormed = false ∧ (Instr.descriptorComplete 0 16).wellFormed = false ∧
    (Instr.irqGapExpire 0 0 8).wellFormed = false := by decide
theorem test_wf_twin : (Instr.twMirror 0 0 0 32 [] false).wellFormed = false ∧ (Instr.twMirror 0 2 0 0 [] false).wellFormed = false ∧
    (Instr.twMirror 0 0 0 0 [0] false).wellFormed = false ∧ (Instr.twMirror 0 0 0 0 (List.replicate 2048 0) false).wellFormed = false ∧
    (Instr.twAck 0 2 0).wellFormed = false := by decide +kernel
theorem test_wf_domain : (Instr.domainLost 0 2).wellFormed = false ∧ (Instr.delayReqSend 0 0 2).wellFormed = false := by decide
theorem test_wf_lane : (Instr.lockLost 0 36).wellFormed = false ∧ (Instr.laneClr 0 (.host 0) 36 1).wellFormed = false := by decide
theorem test_wf_receiver : (Instr.frameDiscarded 0 (.bar 32)).wellFormed = false ∧ (Instr.frameDiscarded 0 (.twin 2)).wellFormed = false ∧
    (Instr.frameDiscarded 0 (.endpoint 32 .a)).wellFormed = false ∧ (Instr.frameDiscarded 0 (.endpoint 31 .b)).wellFormed = true := by decide

/-! ### The queue and reset -/

/-- Two commands waiting: the step runs the first and leaves the second (StepRunsTheFrontCommand, CommandsLeaveTheQueue). -/
theorem test_queue_in_order :
    let s : State := { State.reset with pending := [.pcieLinkTrained 7 0 4 4, .webStopDetected 9] }
    (match step s with | .next s' => decide (s'.pending = [.webStopDetected 9] ∧ s'.dev.now = 7) | _ => false) = true := by decide +kernel

theorem test_idle : step State.reset = .next State.reset ∧ State.reset.pending = [] := ⟨rfl, rfl⟩

theorem test_no_table_word : decodeTableWord 32 0 = none ∧ State.reset.withFetchWord 32 0 = State.reset := by decide +kernel


/-! ### A small forme and a core about to issue an instruction -/

/-- One SINGLE plane of 2-bit drops on row 0 with two heads of 8 nozzles on link 0, four bound contexts, regions of the
kinds the tests use, core 1 NOZZLE, and no twin. -/
def demo : Forme :=
  { id := 1, rev := 1,
    geom := { lpi := 1, seamMode := 0, seamLog2 := 6, planeMask := 1, xImg := 0, wImg := 16, selvL := 0, selvR := 0,
              maxRate := 40000, stopMs := 50, gutterUse := true, reanchor := true },
    planes := [{ c := 0, rowMode := 0, dropBits := 2, input := 0, codec := 1, region := 1, fallback := 0, preRes := 0 }],
    rows := [{ dR := 640, inUse := true }],
    heads := [{ slot := 0, row := 0, link := 0, port := 0, place := 0, dH := 0, nozzles := 8, npi1200 := true, bits := 2,
                tLow := -40, tHigh := 125 }],
    links := [{ inUse := true, idleOk := true, dualPort := false, minBuf := 1, maxLat := 1000 }],
    dram := { chMask := 1, rate := 3200, map := 0, capGib := 1,
              regions := [{ id := 1, kind := 0, owner := 0xFF, base := 16, size := 16 }, { id := 2, kind := 3, owner := 0, base := 32, size := 16 },
                          { id := 3, kind := 2, owner := 0xFF, base := 64, size := 16 }] },
    bind := [0, 1, 2, 3], own := [{ cls := 1, first := 5, count := 2, owner := 1 }], cam := none,
    cores := [{ core := 1, role := 1, entry := 4, code := List.replicate 8 0, data := [] }],
    twin := { twin := false, rank := 0, force := false, holdoff := 1 },
    sys := { enc0Scale := 65536, indexPeriod := 1000, indexTol := 2, enc1Use := true, encoSrc := 0, encoDiv := 1, td0Domain := 0,
             td1Domain := 1, tstepUs := 10, refoSpread := false },
    live := { run := none, tone := [], screen := [], policy := [] } }

/-- The machine with a forme in force. -/
def loadedWith (g : Forme) (f : Dev → Dev) : State :=
  on (fun d => f { d with fm := { d.fm with forme := some g, boot := false } })
/-- The machine with the small forme in force. -/
def loaded (f : Dev → Dev) : State := loadedWith demo f

/-- A device whose core 1 runs, with a word in its local memory at 4 and its pc there, s1, s2 and s3 as given, and what
`g` makes of the core. -/
def cored (w : Word) (x y z : Word) (g : Core → Core) (d : Dev) : Dev :=
  d.setCore 1 (g { Core.zero with
    st := .running, pc := 4, s := Sparse.set (fun _ => 0) (Sparse.set (fun _ => 0) (Sparse.set (fun _ => 0) [] 1 x) 2 y) 3 z,
    lmem := Sparse.setList sramDefault [] 4 [w.extractLsb' 0 8, w.extractLsb' 8 8, w.extractLsb' 16 8, w.extractLsb' 24 8],
    csr := { Csrs.zero with evec := 0x40 } })

/-- Core 1 about to issue `i`. -/
def issuing (i : Instr) (x y z : Word) : State := loaded (cored ((coreWord i).getD 0) x y z id)

/-- What an instruction of core 1 leaves in a scalar register, and its pc. -/
def scalarOf (i : Instr) (x y z : Word) (r : Fin 32) : Option (Word × Word) :=
  match exec i (issuing i x y z) with
  | .next s => some (s.dev.sreg 1 r, (s.dev.core 1).pc)
  | _ => none

/-! ### Core words from the formats of R303 and the codes of R304 to R306 -/

theorem test_words_opr :
    decodeCore 0 0 0b000000_00011_00001_00010_00000000000#32 = some (.opAdd 0 0 3 1 2) ∧
    decodeCore 0 0 0b000000_00011_00001_00010_00000011110#32 = some (.opAbsd 0 0 3 1 2) ∧
    decodeCore 0 0 0b000000_00011_00001_00000_00000011100#32 = some (.opLzc 0 0 3 1) ∧
    decodeCore 0 0 0b000000_00011_00001_00010_00000011100#32 = none ∧
    decodeCore 0 0 0b000000_00011_00001_00010_00000001110#32 = none := by decide +kernel
theorem test_words_immediate :
    decodeCore 0 0 0b000111_00011_00000_1000000000000001#32 = some (.opHik 0 0 3 0 0x8001) ∧
    decodeCore 0 0 0b001000_00011_00001_1100000000000101#32 = some (.opShk 0 0 3 1 3 5) ∧
    decodeCore 0 0 0b001000_00011_00001_1100000000100101#32 = none := by decide +kernel
theorem test_words_memory :
    decodeCore 0 0 0b001110_00011_00001_1111111111111111#32 = some (.opLdbz 0 0 3 1 0xFFFF false) ∧
    decodeCore 0 0 0b010010_00011_00001_0000000000000001#32 = some (.opStb 0 0 3 1 1) ∧
    decodeCore 0 0 0b110001_00_111_00001_0000000000010000#32 = some (.opVst 0 0 7 1 0x10) ∧
    decodeCore 0 0 0b110001_01_111_00001_0000000000010000#32 = none := by decide +kernel
theorem test_words_flow :
    decodeCore 0 0 0b010110_00001_111111111111111111111#32 = some (.opLoop 0 0 1 0x1FFFFF) ∧
    decodeCore 0 0 0b010110_00000_111111111111111111111#32 = none ∧
    decodeCore 0 0 0b011000_11111111111111111111111111#32 = some (.opGo 0 0 0x3FFFFFF) ∧
    decodeCore 0 0 0b011010_00000_11111_0000000000000000#32 = some (.opCallr 0 0 0 31 0) ∧
    decodeCore 0 0 0b101000_00000_00000_0000000000000000#32 = some (.opHret 0 0) ∧
    decodeCore 0 0 0b101000_00000_00000_0000000000000001#32 = none ∧
    decodeCore 0 0 0b100101_00000_00000_0000000000000111#32 = some (.opNotify 0 0 7) := by decide +kernel
theorem test_words_vector :
    decodeCore 0 0 0b110010_111_110_101_00000_000000_010001#32 = some (.opVabsd 0 0 7 6 5) ∧
    decodeCore 0 0 0b110010_111_000_000_01010_000000_001101#32 = some (.opVsplat 0 0 7 10) ∧
    decodeCore 0 0 0b110010_111_000_000_01010_000011_010000#32 = some (.opVins 0 0 7 10 3) ∧
    decodeCore 0 0 0b110010_111_110_101_00000_000001_010001#32 = none := by decide +kernel

/-! ### Scalar operations (R304, R305) -/

/-- A core ready to issue: the hypotheses of the statements about instructions (ScalarOperations and the others). -/
theorem test_core_issues :
    let i := Instr.opAdd 0 1 3 1 2
    let s := issuing i 5 7 0
    s.dev.inReset = false ∧ (s.dev.core 1).st = .running ∧ s.dev.fetchable 1 (s.dev.core 1).pc = true ∧
      coreWord i = some (s.dev.fetchCore 1 (s.dev.core 1).pc) := by decide +kernel
theorem test_add_wraps : scalarOf (.opAdd 0 1 3 1 2) 0xFFFFFFFF 2 0 3 = some (1, 8) := by decide +kernel
theorem test_sub_order : scalarOf (.opSub 0 1 3 1 2) 1 2 0 3 = some (0xFFFFFFFF, 8) := by decide +kernel
theorem test_s0_stays_0 : scalarOf (.opAdd 0 1 0 1 2) 1 2 0 0 = some (0, 8) := by decide +kernel
theorem test_logic : scalarOf (.opAnd 0 1 3 1 2) 0xC 0xA 0 3 = some (8, 8) ∧ scalarOf (.opOr 0 1 3 1 2) 0xC 0xA 0 3 = some (14, 8) ∧
    scalarOf (.opXor 0 1 3 1 2) 0xC 0xA 0 3 = some (6, 8) ∧ scalarOf (.opAndn 0 1 3 1 2) 0xC 0xA 0 3 = some (4, 8) := by decide +kernel
theorem test_shifts : scalarOf (.opLsl 0 1 3 1 2) 3 33 0 3 = some (6, 8) ∧ scalarOf (.opLsr 0 1 3 1 2) 0x80000000 31 0 3 = some (1, 8) ∧
    scalarOf (.opAsr 0 1 3 1 2) 0x80000000 31 0 3 = some (0xFFFFFFFF, 8) ∧ scalarOf (.opRor 0 1 3 1 2) 1 1 0 3 = some (0x80000000, 8) := by
  decide +kernel
theorem test_compares : scalarOf (.opSlt 0 1 3 1 2) 0xFFFFFFFF 0 0 3 = some (1, 8) ∧ scalarOf (.opSltu 0 1 3 1 2) 0xFFFFFFFF 0 0 3 = some (0, 8) ∧
    scalarOf (.opSeq 0 1 3 1 2) 7 7 0 3 = some (1, 8) ∧ scalarOf (.opSne 0 1 3 1 2) 7 7 0 3 = some (0, 8) := by decide +kernel
theorem test_products : scalarOf (.opMul 0 1 3 1 2) 0x10000 0x10001 0 3 = some (0x10000, 8) ∧
    scalarOf (.opMulhi 0 1 3 1 2) 0xFFFFFFFF 0xFFFFFFFF 0 3 = some (0, 8) ∧
    scalarOf (.opMulhiu 0 1 3 1 2) 0xFFFFFFFF 0xFFFFFFFF 0 3 = some (0xFFFFFFFE, 8) := by decide +kernel
theorem test_division : scalarOf (.opDiv 0 1 3 1 2) 0xFFFFFFF9 2 0 3 = some (0xFFFFFFFD, 8) ∧
    scalarOf (.opMod 0 1 3 1 2) 0xFFFFFFF9 2 0 3 = some (0xFFFFFFFF, 8) ∧ scalarOf (.opDivu 0 1 3 1 2) 7 2 0 3 = some (3, 8) ∧
    scalarOf (.opModu 0 1 3 1 2) 7 2 0 3 = some (1, 8) := by decide +kernel
theorem test_division_corners : scalarOf (.opDiv 0 1 3 1 2) 7 0 0 3 = some (0, 8) ∧ scalarOf (.opMod 0 1 3 1 2) 7 0 0 3 = some (7, 8) ∧
    scalarOf (.opDiv 0 1 3 1 2) 0x80000000 0xFFFFFFFF 0 3 = some (0x7FFFFFFF, 8) ∧
    scalarOf (.opMod 0 1 3 1 2) 0x80000000 0xFFFFFFFF 0 3 = some (0, 8) := by decide +kernel
theorem test_minmax : scalarOf (.opMin 0 1 3 1 2) 0xFFFFFFFF 1 0 3 = some (0xFFFFFFFF, 8) ∧ scalarOf (.opMax 0 1 3 1 2) 0xFFFFFFFF 1 0 3 = some (1, 8) ∧
    scalarOf (.opMinu 0 1 3 1 2) 0xFFFFFFFF 1 0 3 = some (1, 8) ∧ scalarOf (.opMaxu 0 1 3 1 2) 0xFFFFFFFF 1 0 3 = some (0xFFFFFFFF, 8) := by decide +kernel
theorem test_bits : scalarOf (.opLzc 0 1 3 1) 0 0 0 3 = some (32, 8) ∧ scalarOf (.opLzc 0 1 3 1) 0x10000 0 0 3 = some (15, 8) ∧
    scalarOf (.opPopc 0 1 3 1) 0xF0F 0 0 3 = some (8, 8) ∧ scalarOf (.opAbsd 0 1 3 1 2) 0x80000000 0x7FFFFFFF 0 3 = some (0xFFFFFFFF, 8) := by decide +kernel
theorem test_immediates : scalarOf (.opAddk 0 1 3 1 0xFFFF) 5 0 0 3 = some (4, 8) ∧ scalarOf (.opAndk 0 1 3 1 0xFFFF) 0x12345678 0 0 3 = some (0x5678, 8) ∧
    scalarOf (.opOrk 0 1 3 1 0x8000) 1 0 0 3 = some (0x8001, 8) ∧ scalarOf (.opXork 0 1 3 1 0xFFFF) 0x10001 0 0 3 = some (0x1FFFE, 8) ∧
    scalarOf (.opLtk 0 1 3 1 0) 0xFFFFFFFF 0 0 3 = some (1, 8) ∧ scalarOf (.opLtku 0 1 3 1 0xFFFF) 5 0 0 3 = some (1, 8) ∧
    scalarOf (.opHik 0 1 3 1 0x1234) 0xABCD5678 0 0 3 = some (0x12345678, 8) ∧ scalarOf (.opShk 0 1 3 1 2 4) 0x80000000 0 0 3 = some (0xF8000000, 8) := by
  decide +kernel


/-! ### Vector operations (R306) -/

/-- Core 1 about to issue `i`, with the lanes of v1 and v2 given, v3 empty, and s1. -/
def vissuing (i : Instr) (x y : List (BitVec 16)) (s1 : Word) : State :=
  loaded (cored ((coreWord i).getD 0) s1 0 0
    (fun c => { c with v := Sparse.setList (fun _ => 0) (Sparse.setList (fun _ => 0) [] 8 x) 16 y }))
/-- The lanes an instruction of core 1 leaves in a vector register. -/
def lanesOf (i : Instr) (x y : List (BitVec 16)) (s1 : Word) (r : Nat) : Option (List (BitVec 16)) :=
  match exec i (vissuing i x y s1) with
  | .next s => some ((List.range 8).map ((s.dev.core 1).lane r))
  | _ => none
/-- The scalar s4 it leaves. -/
def s4Of (i : Instr) (x : List (BitVec 16)) : Option Word :=
  match exec i (vissuing i x [] 0) with
  | .next s => some (s.dev.sreg 1 4)
  | _ => none

theorem test_vadd : lanesOf (.opVadd 0 1 3 1 2) [0x7FFF, 1, 0xFFFF] [1, 2, 1] 0 3 = some [0x8000, 3, 0, 0, 0, 0, 0, 0] ∧
    lanesOf (.opVadds 0 1 3 1 2) [0x7FFF, 0x8000] [1, 0xFFFF] 0 3 = some [0x7FFF, 0x8000, 0, 0, 0, 0, 0, 0] := by decide +kernel
theorem test_vsub : lanesOf (.opVsub 0 1 3 1 2) [0x8000, 1] [1, 2] 0 3 = some [0x7FFF, 0xFFFF, 0, 0, 0, 0, 0, 0] ∧
    lanesOf (.opVsubs 0 1 3 1 2) [0x8000, 0x7FFF] [1, 0xFFFF] 0 3 = some [0x8000, 0x7FFF, 0, 0, 0, 0, 0, 0] := by decide +kernel
theorem test_vmul : lanesOf (.opVmul 0 1 3 1 2) [0x101] [0x100] 0 3 = some [0x100, 0, 0, 0, 0, 0, 0, 0] ∧
    lanesOf (.opVmulh 0 1 3 1 2) [0xFFFF, 0x4000] [1, 0x4000] 0 3 = some [0xFFFF, 0x1000, 0, 0, 0, 0, 0, 0] := by decide +kernel
theorem test_vminmax : lanesOf (.opVmin 0 1 3 1 2) [0xFFFF] [1] 0 3 = some [0xFFFF, 0, 0, 0, 0, 0, 0, 0] ∧
    lanesOf (.opVmax 0 1 3 1 2) [0xFFFF] [1] 0 3 = some [1, 0, 0, 0, 0, 0, 0, 0] := by decide +kernel
theorem test_vlogic : lanesOf (.opVand 0 1 3 1 2) [12] [10] 0 3 = some [8, 0, 0, 0, 0, 0, 0, 0] ∧
    lanesOf (.opVor 0 1 3 1 2) [12] [10] 0 3 = some [14, 0, 0, 0, 0, 0, 0, 0] ∧
    lanesOf (.opVxor 0 1 3 1 2) [12] [10] 0 3 = some [6, 0, 0, 0, 0, 0, 0, 0] := by decide +kernel
theorem test_vshift : lanesOf (.opVsra 0 1 3 1 4) [0x8000] [] 0 3 = some [0xF800, 0, 0, 0, 0, 0, 0, 0] ∧
    lanesOf (.opVsll 0 1 3 1 15) [3] [] 0 3 = some [0x8000, 0, 0, 0, 0, 0, 0, 0] := by decide +kernel
theorem test_vsplat : lanesOf (.opVsplat 0 1 3 1) [] [] 0x12345 3 = some (List.replicate 8 0x2345) ∧
    lanesOf (.opVins 0 1 2 1 1) [] [5, 6, 7] 9 2 = some [5, 9, 7, 0, 0, 0, 0, 0] := by decide +kernel
theorem test_vsum : s4Of (.opVsum 0 1 1 4) [0xFFFF, 1, 2, 0x8000] = some 0xFFFF8002 ∧
    s4Of (.opVext 0 1 1 4 3) [0, 0, 0, 0x8000] = some 0xFFFF8000 := by decide +kernel
theorem test_vabsd : lanesOf (.opVabsd 0 1 3 1 2) [0x8000, 1] [0x7FFF, 3] 0 3 = some [0xFFFF, 2, 0, 0, 0, 0, 0, 0] := by decide +kernel

/-! ### Memory (R299 to R301, R311) -/

/-- Core 1 about to issue `i` with bytes 80 to 9F hexadecimal in local memory at 0x100 and in shared memory at 0x40. -/
def missing (i : Instr) (x y : Word) : State :=
  let data : List Byte := (List.range 32).map (fun k => BitVec.ofNat 8 (0x80 + k))
  loaded (fun d =>
    let d := cored ((coreWord i).getD 0) x y 0 (fun c => { c with lmem := Sparse.setList sramDefault c.lmem 0x100 data }) d
    { d with cc := { d.cc with shared := Sparse.setList sramDefault d.cc.shared 0x40 data } })
/-- What it leaves in s3. -/
def loadOf (i : Instr) (x : Word) : Option Word :=
  match exec i (missing i x 0) with
  | .next s => some (s.dev.sreg 1 3)
  | _ => none

theorem test_loads : loadOf (.opLdw 0 1 3 1 4 false) 0x100 = some 0x87868584 ∧ loadOf (.opLdh 0 1 3 1 0 false) 0x100 = some 0xFFFF8180 ∧
    loadOf (.opLdhz 0 1 3 1 0xFFFE false) 0x102 = some 0x8180 ∧ loadOf (.opLdb 0 1 3 1 0 false) 0x101 = some 0xFFFFFF81 ∧
    loadOf (.opLdbz 0 1 3 1 0 false) 0x101 = some 0x81 ∧ loadOf (.opLdw 0 1 3 1 0 false) 0x10000040 = some 0x83828180 := by decide +kernel
theorem test_vld : yields (.opVld 0 1 3 1 0x10 false) (missing (.opVld 0 1 3 1 0x10 false) 0x100 0)
    (fun s => (s.dev.core 1).lane 3 0 == 0x9190 && (s.dev.core 1).lane 3 7 == 0x9F9E) = true := by decide +kernel

/-- A byte of core 1's local memory after an instruction with s1 stored at s2. -/
def storeOf (i : Instr) (x y : Word) (at_ : Nat) : Option (Byte × Byte) :=
  match exec i (missing i x y) with
  | .next s => some (Sparse.get sramDefault (s.dev.core 1).lmem at_, Sparse.get sramDefault s.dev.cc.shared at_)
  | _ => none

theorem test_stores : storeOf (.opStw 0 1 1 2 0) 0x12345678 0x100 0x101 = some (0x56, 0) ∧ storeOf (.opStw 0 1 1 2 0) 0x12345678 0x100 0x104 = some (0x84, 0) ∧
    storeOf (.opSth 0 1 1 2 2) 0x12345678 0x100 0x103 = some (0x56, 0) ∧ storeOf (.opStb 0 1 1 2 0xFFFF) 0x12345678 0x100 0xFF = some (0x78, 0) ∧
    storeOf (.opStw 0 1 1 2 0) 0x12345678 0x10220000 0x220000 = some (0, 0x78) ∧ storeOf (.opStb 0 1 1 2 0) 0xAA 0x1023FFFF 0x23FFFF = some (0, 0xAA) := by decide +kernel
theorem test_vst : yields (.opVst 0 1 1 1 0) (loaded (cored ((coreWord (.opVst 0 1 1 1 0)).getD 0) 0x110 0 0
      (fun c => { c with v := Sparse.setList (fun _ => 0) [] 8 [0x1234, 0x5678] })))
    (fun s => Sparse.getList sramDefault (s.dev.core 1).lmem 0x110 5 == [0x34, 0x12, 0x78, 0x56, 0]) = true := by decide +kernel

/-- Core 1 with DRAM channel 0 READY and four bytes of its CORE region set (CoresReachDram). -/
def dramReady (i : Instr) (x y : Word) : State :=
  loaded (fun d =>
    let d := cored ((coreWord i).getD 0) x y 0 (fun c => { c with csr := { c.csr with dwin := 64 } }) d
    { d with regs := Sparse.set regDefault d.regs 0x100004 0x2, dram := Sparse.setList dramDefault d.dram 0x400010 [1, 2, 3, 4] })

/-- The hypotheses of CoresReachDram hold, and the two accesses go to DRAM. -/
theorem test_dram_window :
    let s := dramReady (.opLdw 0 1 3 1 0 false) 0x40000010 0
    s.dev.place 1 0x40000010 4 = some (.dram 0x400010) ∧ s.dev.dcState (s.dev.channelOf 0x400010) = 2 ∧
    s.dev.dramBusy = false ∧ s.dev.readBad 0x400010 4 = false ∧
    yields (.opLdw 0 1 3 1 0 false) s (fun s' => s'.dev.sreg 1 3 == 0x04030201) = true ∧
    yields (.opStw 0 1 1 2 0) (dramReady (.opStw 0 1 1 2 0) 0xAABBCCDD 0x40000014)
      (fun s' => Sparse.getList dramDefault s'.dev.dram 0x400010 8 == [1, 2, 3, 4, 0xDD, 0xCC, 0xBB, 0xAA]) = true := by decide +kernel

/-! ### Exceptions, branches, signals, control registers -/

/-- Where an instruction of core 1 leaves its pc, with CAUSE, EADDR, EPC and INEXC. -/
def trapOf (i : Instr) (x : Word) : Option (List Nat) :=
  match exec i (issuing i x 0 0) with
  | .next s => let c := s.dev.core 1; some [c.pc.toNat, c.csr.cause, c.csr.eaddr.toNat, c.csr.epc.toNat, if c.csr.inexc then 1 else 0]
  | _ => none

theorem test_traps : trapOf (.opBreak 0 1 0x8001) 0 = some [0x40, 6, 0x8001, 4, 1] ∧
    trapOf (.opLdw 0 1 3 1 0 false) 0x102 = some [0x40, 3, 0x102, 4, 1] ∧ trapOf (.opVld 0 1 3 1 0 false) 0x108 = some [0x40, 3, 0x108, 4, 1] ∧
    trapOf (.opGetc 0 1 3 6) 0 = some [0x40, 1, 0, 4, 1] ∧ trapOf (.opPutc 0 1 1 0x10) 0 = some [0x40, 1, 0, 4, 1] := by decide +kernel
/-- Outside the map, in the code, the first byte past it, the last byte below the core's own area, and LOOP with s0. -/
theorem test_access_traps : trapOf (.opLdb 0 1 3 1 0 false) 0x40000 = some [0x40, 4, 0x40000, 4, 1] ∧
    trapOf (.opStb 0 1 3 1 0) 7 = some [0x40, 4, 7, 4, 1] ∧ trapOf (.opStb 0 1 3 1 0) 8 = some [8, 0, 0, 0, 0] ∧
    trapOf (.opStb 0 1 3 1 0) 0x1021FFFF = some [0x40, 4, 0x1021FFFF, 4, 1] ∧ trapOf (.opLoop 0 1 0 5) 0 = some [0x40, 1, 0, 4, 1] := by
  decide +kernel
/-- A word that spells nothing, with and without a handler. -/
theorem test_illegal : decodeCore 0 1 0x24000000 = none ∧
    trapOf (.illegalInstruction 0 1 0x24000000) 0 = some [0x40, 1, 0, 4, 1] ∧
    yields (.opBreak 0 1 9) (loaded (cored ((coreWord (.opBreak 0 1 9)).getD 0) 0 0 0 (fun c => { c with csr := .zero })))
      (fun s => (s.dev.core 1).st == .fault && (s.dev.core 1).pc == 4 && (s.dev.core 1).csr.cause == 6 && (s.dev.core 1).csr.eaddr == 9) = true := by
  decide +kernel

/-- Where an instruction of core 1 goes, and what s1 and s31 hold then. -/
def goesTo (i : Instr) (x : Word) : Option (Word × Word × Word) :=
  match exec i (issuing i x 0 0) with
  | .next s => some ((s.dev.core 1).pc, s.dev.sreg 1 1, s.dev.sreg 1 31)
  | _ => none

theorem test_branches : goesTo (.opBrt 0 1 1 0x1FFFFF) 1 = some (4, 1, 0) ∧ goesTo (.opBrt 0 1 1 0x1FFFFF) 0 = some (8, 0, 0) ∧
    goesTo (.opBrf 0 1 1 2) 0 = some (16, 0, 0) ∧ goesTo (.opBrf 0 1 1 2) 1 = some (8, 1, 0) ∧ goesTo (.opLoop 0 1 1 2) 1 = some (8, 0, 0) ∧
    goesTo (.opLoop 0 1 1 2) 0 = some (16, 0xFFFFFFFF, 0) ∧ goesTo (.opGo 0 1 0x3FFFFFE) 0 = some (0, 0, 0) ∧
    goesTo (.opCall 0 1 3) 0 = some (20, 0, 8) ∧ goesTo (.opCallr 0 1 1 1 0xFFFC) 0x20 = some (0x1C, 8, 0) := by decide +kernel

/-- WAIT stops or retires, NOTIFY signals another core, SYNC goes on, HRET returns (SignalsAndReturns). -/
theorem test_signals : yields (.opWait 0 1) (issuing (.opWait 0 1) 0 0 0) (fun s => (s.dev.core 1).st == .waiting && (s.dev.core 1).pc == 8) = true ∧
    yields (.opNotify 0 1 2) (issuing (.opNotify 0 1 2) 0 0 0) (fun s => (s.dev.core 2).csr.sig == 0x40 && (s.dev.core 1).pc == 8) = true ∧
    yields (.opSync 0 1) (issuing (.opSync 0 1) 0 0 0) (fun s => (s.dev.core 1).pc == 8) = true ∧
    yields (.opHret 0 1) (loaded (cored ((coreWord (.opHret 0 1)).getD 0) 0 0 0 (fun c => { c with csr := { c.csr with epc := 0x30, inexc := true } })))
      (fun s => (s.dev.core 1).pc == 0x30 && !(s.dev.core 1).csr.inexc) = true := by decide +kernel

/-- A CSR of core 1 after an instruction with s1 = x, its EVEC and SIGEN holding 0x40 and 0xF0, its SIG 0x11. -/
def csrOf (i : Instr) (x : Word) (num : Nat) : Option Word :=
  match exec i (loaded (cored ((coreWord i).getD 0) x 0 0 (fun c => { c with csr := { c.csr with sig := 0x11, sigen := 0xF0 } }))) with
  | .next s => s.dev.csrRead 1 num
  | _ => none

theorem test_csrs : csrOf (.opPutc 0 1 1 9) 0x3F 9 = some 0x3F ∧ csrOf (.opSetc 0 1 1 9) 0x0F 9 = some 0xFF ∧ csrOf (.opClrc 0 1 1 9) 0x30 9 = some 0xC0 ∧
    csrOf (.opPutc 0 1 1 8) 0x10 8 = some 1 ∧ csrOf (.opClrc 0 1 1 8) 1 8 = some 0x10 ∧ csrOf (.opPutc 0 1 1 0x14) 0xABCDE 0x14 = some 0xBCDE ∧
    csrOf (.opPutc 0 1 1 0x22) 0x1FF 0x22 = some 0xFF ∧ csrOf (.opPutc 0 1 1 0x15) 7 0x15 = some 0 := by decide +kernel
theorem test_getc : scalarOf (.opGetc 0 1 3 2) 0 0 0 3 = some (0x40, 8) ∧
    (issuing (.opGetc 0 1 3 2) 0 0 0).dev.csrRead 1 2 = some 0x40 := by decide +kernel

/-- The commands of a core's control block: the hypotheses of CoreControl, clause by clause, and what they do. -/
theorem test_core_timers :
    let s := loaded (fun d => d.setCore 1 { Core.zero with st := .waiting, pc := 8, csr := { Csrs.zero with timerAt := 3, sig := 1, sigen := 3, evec := 0x40, wdog := 2 } })
    s.dev.inReset = false ∧ 3 ≤ (s.dev.at 3000000).timerUs ∧ 2 * 1000000000 ≤ (s.dev.at 2000000000).now ∧ (1 : Word) &&& 3 ≠ 0 ∧
    yields (.timerCompare 3000000 1) s (fun s' => flag (s'.dev.core 1).csr.sig 4 && (s'.dev.core 1).st == .waiting) = true ∧
    yields (.watchdogExpire 2000000000 1) s (fun s' => (s'.dev.core 1).pc == 0x40 && (s'.dev.core 1).csr.cause == 7 && (s'.dev.core 1).csr.epc == 8) = true ∧
    yields (.waitComplete 0 1) s (fun s' => (s'.dev.core 1).st == .running && (s'.dev.core 1).pc == 8) = true := by decide +kernel
theorem test_core_commands :
    let run := loaded (fun d => d.setCore 1 { Core.zero with st := .running, pc := 8 })
    let halt := loaded (fun d => d.setCore 1 { Core.zero with st := .halted, wasWaiting := true, pc := 8, s := [(1, 5)] })
    run.dev.takes (.host 0) 0x0E0040 = true ∧ run.dev.takes (.host 0) 0x0E0054 = true ∧ halt.dev.byClass (.host 0) 8 2 = .accept ∧
    yields (.ccHalt 0 (.host 0) 1 2) run (fun s' => (s'.dev.core 1).st == .halted && (s'.dev.core 1).pc == 8) = true ∧
    yields (.ccResume 0 (.host 0) 1 4) halt (fun s' => (s'.dev.core 1).st == .waiting && (s'.dev.core 1).pc == 8) = true ∧
    yields (.ccStart 0 (.host 0) 1 1) halt (fun s' => (s'.dev.core 1).st == .running && (s'.dev.core 1).pc == 4 && s'.dev.sreg 1 1 == 0) = true ∧
    yields (.ccMailIn 0 (.host 0) 1 77) run (fun s' => (s'.dev.core 1).csr.mailIn == 77 && flag (s'.dev.core 1).csr.sig 5) = true := by decide +kernel
theorem test_core_patch :
    let s := loaded (fun d => d.setCore 2 { Core.zero with st := .halted })
    s.dev.fullChecking = false ∧ s.dev.standby = false ∧ s.dev.twinned = false ∧ s.dev.byClass (.host 0) 8 2 = .accept ∧
    yields (.corePatchWrite 0 (.host 0) 0xC80004 0x11223344) s (fun s' =>
      Sparse.getList sramDefault (s'.dev.core 2).lmem 3 6 == [0, 0x44, 0x33, 0x22, 0x11, 0] && (s'.dev.core 2).csr.patched) = true := by decide +kernel

/-! ### Resets, loads, flash -/

/-- The three resets, the ignored pulse and the ignored key, and the brownout at its threshold and below (R464, R474). -/
theorem test_resets :
    let s := loaded (fun d => { d with job := { d.job with phase := .running } })
    let cleared := fun (cause : Nat) (s' : State) => s'.dev.inReset && fld (s'.dev.reg 0x000008) 0 8 == cause && s'.dev.forme.isNone
    s.dev.takes (.host 0) 0x000004 = true ∧
    yields (.powerOnReset 0) s (cleared 0) = true ∧ yields (.resetNAssert 0 1000) s (cleared 1) = true ∧
    yields (.resetNAssert 0 199) s (fun s' => decide (s' = s)) = true ∧
    yields (.sysReset 0 (.host 0) 0x5A170001) s (cleared 2) = true ∧ yields (.sysReset 0 (.host 0) 0x5A160001) s (fun s' => decide (s' = s)) = true ∧
    yields (.brownout 0 .core 579) s (cleared 3) = true ∧ yields (.brownout 0 .sram 720) s (fun s' => decide (s' = s)) = true ∧
    yields (.brownout 0 .ser 809) s (cleared 3) = true := by decide +kernel
theorem test_release :
    let s := on (fun d => { d with inReset := true, out := [] })
    yields (.resetRelease 0) s (fun s' => !s'.dev.inReset && s'.dev.out.contains (.vset 800)) = true := by decide +kernel
/-- PERST of PE1 and an FLR of it reset HC1's enables and leave HC0's; the ports at their last numbers. -/
theorem test_endpoint_reset :
    let s := loaded (fun d => (d.setRegOf 0 0x010004 3).setRegOf 1 0x010004 3)
    s.dev.boundTo 1 1 = true ∧ s.dev.boundTo 0 1 = false ∧ s.dev.regOf 1 0x010004 = 3 ∧
    yields (.perstAssert 0 1) s (fun s' => s'.dev.regOf 1 0x010004 == 0 && s'.dev.regOf 0 0x010004 == 3) = true ∧
    yields (.functionLevelReset 0 1 false) s (fun s' => s'.dev.regOf 1 0x010004 == 0 && s'.dev.regOf 0 0x010004 == 3) = true := by decide +kernel

/-- The boot load, a FULL load permitted and not, a LIVE load (LoadsBegin). -/
theorem test_boot_load : State.reset.dev.fm.boot = true ∧ State.reset.dev.forme = none ∧ State.reset.dev.fm.load = none ∧
    yields (.bootLoad 0) State.reset (fun s' => s'.dev.fm.load.isSome && !s'.dev.fm.boot && fld (s'.dev.reg 0x030004) 0 2 == 1) = true := by decide +kernel
theorem test_full_load :
    let s := loaded id
    let busy := loaded (fun d => { d with job := { d.job with phase := .running } })
    s.dev.takes (.host 0) 0x030000 = true ∧ s.dev.fullAllowed = true ∧ busy.dev.fullAllowed = false ∧
    yields (.fullLoad 0 (.host 0) 0x11) s (fun s' => s'.dev.fm.load.isSome && s'.dev.forme.isNone && fld (s'.dev.reg 0x030004) 0 2 == 1) = true ∧
    yields (.fullLoad 0 (.host 0) 0x11) busy (fun s' => s'.dev.forme == some demo && fld (s'.dev.reg 0x030004) 8 8 == 0x0E && fld (s'.dev.reg 0x030004) 23 8 == 1) = true := by
  decide +kernel
theorem test_live_load :
    let s := loaded (fun d => d.setReg 0x030010 128)
    s.dev.takes (.host 0) 0x030000 = true ∧ s.dev.liveAllowed = true ∧
    yields (.liveLoad 0 (.host 0) 9) s (fun s' => s'.dev.fm.load == some { live := true, src := 2, ctx := 0, addr := 0, len := 128, atLine := false }) = true := by
  decide +kernel
/-- A slot without a header is refused with its reason; a host that does not respond ends the load (LoadsEnd). -/
theorem test_load_end :
    let s := on (fun d => { d with fm := { d.fm with load := some { live := false, src := 0, ctx := 0, addr := 0, len := 0, atLine := false } } })
    let h := loaded (fun d => { d with fm := { d.fm with load := some { live := true, src := 2, ctx := 0, addr := 0, len := 128, atLine := false } } })
    (match checkFull s.dev.fm.keys (s.dev.slotImage 0) with | .error (r, x) => decide (r < 256 ∧ x < 128) | .ok _ => false) = true ∧
    yields (.loadEnd 0 none) s (fun s' => s'.dev.fm.load.isNone && fld (s'.dev.reg 0x030004) 0 2 == 0 && flag (s'.dev.reg 0x030004) 31) = true ∧
    yields (.loadEnd 0 none) h (fun s' => fld (s'.dev.reg 0x030004) 8 8 == 0x10 && s'.dev.forme == some demo && fld (s'.dev.reg 0x030004) 0 2 == 2) = true := by
  decide +kernel

/-- The flash writer starts, ends DONE, and ends BUS_ERROR (FlashWriter). -/
theorem test_flash_go :
    let s := on (fun d => (d.setReg 0x030080 128).setReg 0x13001C 0)
    s.dev.takes (.host 0) 0x030070 = true ∧ s.dev.fm.flashJob = none ∧ s.dev.nz.save = none ∧ s.dev.flashWindow = true ∧
    yields (.flashWriteGo 0 (.host 0) 0x11) s (fun s' => s'.dev.fm.flashJob == some { target := 1, ctx := 0, addr := 0, len := 128, halted := false }) = true := by
  decide +kernel

/-- Four bytes cannot be a slot: the job of 64 bytes stands in for one that the target reads back. -/
theorem test_flash_end :
    let img : List Byte := List.replicate 64 0x5A
    let s := on (fun d => { d.setReg 0x13001C 0 with fm := { d.fm with flashJob := some { target := 1, ctx := 0, addr := 0, len := 64, halted := false } } })
    s.dev.flashWindow = true ∧ s.dev.nz.saveWait = false ∧
    yields (.flashWriteEnd 0 (some img) 10 img) s (fun s' =>
      s'.dev.fm.flashJob.isNone && s'.dev.flashRead 0x1000000 64 == img && fld (s'.dev.reg 0x030074) 20 3 == 0) = true ∧
    yields (.flashWriteEnd 0 (some img) 10 (List.replicate 64 0x5B)) s (fun s' => fld (s'.dev.reg 0x030074) 20 3 == 3) = true ∧
    yields (.flashWriteEnd 0 none 0 []) s (fun s' => decide (s'.dev.fm.flash = s.dev.fm.flash) && fld (s'.dev.reg 0x030074) 20 3 == 2) = true := by
  decide +kernel

/-! ### The job store, strips and jobs -/

/-- A store opens; its strip waits and is stored coded as zeros of a run, or ends FULL (StoresOpenAndFill). -/
theorem test_store_open :
    let s := loaded (fun d => ((d.setReg 0x050004 0x8000).setReg 0x050008 100).setReg 0x05000C 33)
    s.dev.takes (.host 0) 0x050000 = true ∧ demo.plane 0 = demo.planes.head? ∧ s.dev.owner 0 0 = some 0 ∧ fld (s.dev.reg 0x050010) 0 2 ≠ 1 ∧
    yields (.cmpOpen 0 (.host 0) 0 1) s (fun s' =>
      s'.dev.store 0 == some { plane := 0, dest := 0x8000, limit := 100, lines := 33, wc := 4, kind := 0, bits := 0, raw := true, taken := 0,
                               buf := [], strip := 0, off := 128, index := [], prev := [], window := [] } && fld (s'.dev.reg 0x050010) 0 2 == 1) = true := by
  decide +kernel
/-- A store slot of a contone plane that codes, with its first whole strip in the buffer. -/
def stripSlot : StoreSlot :=
  { plane := 0, dest := 0x8000, limit := 100, lines := 33, wc := 4, kind := 0, bits := 0, raw := false, taken := 128, buf := List.replicate 128 7,
    strip := 0, off := 128, index := [], prev := [], window := [] }
theorem test_strip_store :
    let s := loaded (fun d => { d.setReg 0x050010 1 with stores := [(0, some stripSlot)] })
    s.dev.stripWaits 0 = true ∧ s.dev.dramBusy = false ∧ 128 + (16 + 128 + 63) / 64 * 64 ≤ 100 * 64 ∧
    s.dev.overImage demo 0 (0x8000 * 64 + 128) (0x8000 * 64 + 320) = false ∧
    yields (.stripStore 0 0 (List.replicate 128 9) false) s (fun s' =>
      match s'.dev.store 0 with | some y => y.strip == 1 && y.off == 320 && y.buf == [] && y.index == [2] | none => false) = true ∧
    yields (.stripStore 0 0 [] true) s (fun s' => fld (s'.dev.reg 0x050010) 0 2 == 3 && s'.dev.store 0 == some stripSlot) = true := by decide +kernel
theorem test_literals : decodeTokens 3 3 [1] ([5, 6, 7].flatMap (fun b => [0, b])) = some [7, 6, 5, 1] := by decide +kernel

/-- A stored image of three lines of four bytes, raw, with its CRC: its bytes from its start (R70, R71). -/
def storedImage : List Byte :=
  let body : List Byte := [1, 2, 3, 4, 5, 6, 7, 8, 9, 10, 11, 12]
  leBytes 8 0 ++ leBytes 4 3 ++ leBytes 4 4 ++ leBytes 4 1 ++ List.replicate 44 0 ++ leBytes 4 2 ++ List.replicate 60 0
    ++ leBytes 6 0 ++ [1, 0] ++ leBytes 4 (crc32c body).toNat ++ leBytes 4 12 ++ body ++ List.replicate 36 0
/-- The image stands at the start of the plane's JOB region, and a job of one repeat prints it. -/
def jobbed (g : Dev → Dev) : State :=
  loaded (fun d => g { d with
    dram := Sparse.setList dramDefault d.dram 0x100000 storedImage,
    job := { d.job with
      phase := .running, first := 0,
      queues := [(0, { entries := [{ image := 0, gutter := 5, last := true, seq := 0 }], posted := 1, done := 0, gone := 0 })],
      reps := [{ b := 0, n := 12, g := 5, dry := 0 }] } })

theorem test_post :
    let s := loaded (fun d => (d.setReg 0x040100 0).setReg 0x040104 0x10005)
    s.dev.takes (.host 0) 0x040108 = true ∧ (s.dev.queue 0).free ≠ 0 ∧ s.dev.job.phase = .idle ∧
    yields (.jqPost 0 (.host 0) 0 1) s (fun s' =>
      (s'.dev.queue 0).posted == 1 && (s'.dev.queue 0).entries.map (fun e => (e.image, e.gutter, e.last)) == [(0, 5, true)]) = true := by decide +kernel
theorem test_start :
    let s := jobbed (fun d => { d.setReg 0x040008 100 with job := { d.job with phase := .idle, reps := [] } })
    s.dev.takes (.host 0) 0x040000 = true ∧ s.dev.job.phase = .idle ∧ demo.planesInUse = [0] ∧ (s.dev.queue 0).entries ≠ [] ∧
    yields (.jobStart 0 (.host 0) 1) s (fun s' => s'.dev.job.phase == .running && s'.dev.job.p0 == 100 && s'.dev.job.first == -11) = true ∧
    yields (.jobStart 0 (.host 0) 0x11) s (fun s' => s'.dev.job.p0 == 6400 && s'.dev.job.first == -109) = true := by decide +kernel
theorem test_stop :
    let s := jobbed id
    s.dev.takes (.host 0) 0x040000 = true ∧ s.dev.job.stop = false ∧ s.dev.job.dryFrom = none ∧
    yields (.jobStop 0 (.host 0) 2) s (fun s' => s'.dev.job.stop && s'.dev.job.endLine == some 16 && (s'.dev.queue 0).entries.length == 1) = true := by
  decide +kernel
theorem test_commit_line :
    let s := jobbed id
    s.dev.job.nextB = 17 ∧ s.dev.job.nextB - 256 ≤ s.dev.upLine demo + 1 ∧
    yields (.commitLinePass 5) s (fun s' => s'.dev.job.dryFrom == some 17 && s'.dev.now == 5) = true := by decide +kernel
theorem test_boundary :
    let s := jobbed (fun d => { d with job := { d.job with phase := .draining, doneRows := [0], endLine := some 16 } })
    s.dev.atBoundary demo = true ∧
    yields (.jobBoundary 0) s (fun s' => s'.dev.job.phase == .idle && s'.dev.job.queues == [] && s'.dev.job.endLine.isNone) = true := by decide +kernel
theorem test_fetch :
    let s := jobbed id
    s.dev.portImage demo 0 = some (0, 1) ∧ (s.dev.port 0).held < 196608 ∧ s.dev.dramBusy = false ∧ s.dev.imageSpan demo 0 0 = 192 ∧
    yields (.fetchBurstReturn 0 0 4096 false) s (fun s' => (s'.dev.port 0).held == 192 && (s'.dev.port 0).fetched == 192) = true := by decide +kernel
theorem test_strip_decode :
    let s := jobbed (fun d => d.setPort 0 { d.port 0 with held := 192, fetched := 192 })
    s.dev.portImage demo 0 = some (0, 1) ∧ demo.wc { c := 0, rowMode := 0, dropBits := 2, input := 0, codec := 1, region := 1, fallback := 0, preRes := 0 } = 4 ∧
    yields (.stripDecode 0 0) s (fun s' =>
      (s'.dev.port 0).lines == [[1, 2, 3, 4], [5, 6, 7, 8], [9, 10, 11, 12]] && (s'.dev.port 0).rep == 1 && (s'.dev.port 0).strip == 0) = true := by decide +kernel

/-! ### Lines prepared and screened, seams, the matrix store -/

/-- The job's image is decoded and its link negotiated. -/
def screening : State :=
  jobbed (fun d => ((d.setPort 0 { d.port 0 with lines := [[1, 2, 3, 4], [5, 6, 7, 8], [9, 10, 11, 12]] }).setBl 0
    { d.bl 0 with caps := List.replicate 32 100 }).setHeadFire 0 { d.headFire 0 with done := -1, fired := -1 })

theorem test_prepare :
    screening.dev.nextLine demo 0 = 0 ∧ screening.dev.mayPrepare demo 0 0 = true ∧ (demo.plane 0).isSome = true ∧
    yields (.linePrepare 0 0 none) screening (fun s' =>
      s'.dev.prep 0 == 0 && (s'.dev.headFire 0).lines.map (fun l => (l.s, l.f)) == [(0, 640)]) = true := by decide +kernel
theorem test_screen :
    let s : State := { screening with dev := { screening.dev with job := { screening.dev.job with prep := [(0, 0)] } } }
    s.dev.screenNext 0 = some 0 ∧ s.dev.printing = true ∧ s.dev.printPath = true ∧ demo.planes.all (fun p => s.dev.paced p 0) = true ∧
    demo.planes.all (fun p => ((s.dev.at 0).screenLine demo p 0 none).isSome) = true ∧
    yields (.planeLineScreen 0 0 none) s (fun s' => (s'.dev.plane 0).next == 1 && (s'.dev.plane 0).carryLine == 1) = true := by decide +kernel
/-- An update bound to line 0 is applied by the row and, its only row having passed it, leaves. -/
theorem test_seam :
    let u : Update := { block := 7, tag := 3, by_ := 0, seam := some (.line 0), payload := .nozzle [(0, 0x04000400)], rows := [0], applied := [],
                        planes := [], planesDone := [] }
    let s : State := { screening with dev := { screening.dev with ups := [u] } }
    s.dev.mayPrepare demo 0 (s.dev.nextLine demo 0) = true ∧
    yields (.seamApply 0 0) s (fun s' => s'.dev.ups == [] && s'.dev.prep 0 == -1) = true := by decide +kernel
/-- The last entry of the matrix store, and one past it (R119). -/
theorem test_peek :
    let s := on (fun d => { d with scr := { d.scr with matrix := [(1572863, 0xABCD)] } })
    s.dev.takes (.host 0) 0x060008 = true ∧
    yields (.scrPeek 0 (.host 0) 1572863) s (fun s' => s'.dev.reg 0x06000C &&& 0x8000FFFF == 0x8000ABCD) = true := by decide +kernel

/-! ### Nozzle records, the ledger and patterns -/

theorem test_nozzle_append :
    let s := loaded (fun d => d.setReg 0x070000 0x10)
    s.dev.takes (.host 0) 0x070004 = true ∧ s.dev.nz.hbuf.length < 4096 ∧
    yields (.nzHrecAppend 0 (.host 0) 0x04000400) s (fun s' => s'.dev.nz.hbuf == [(0x10, 0x04000400)] && fld (s'.dev.reg 0x070010) 0 13 == 1) = true := by
  decide +kernel
/-- The 4,097th record overflows the buffer. -/
theorem test_nozzle_overflow :
    let s := loaded (fun d => { d with nz := { d.nz with hbuf := List.replicate 4096 (0, 0) } })
    s.dev.takes (.host 0) 0x070004 = true ∧ 4096 ≤ s.dev.nz.hbuf.length ∧
    yields (.nzHrecAppend 0 (.host 0) 1) s (fun s' => s'.dev.nz.hbufOvf && s'.dev.nz.hbuf.length == 4096) = true := by decide +kernel
theorem test_nozzle_submit :
    let lo : Word := 0x03E00005
    let s := loaded (fun d => { d with nz := { d.nz with hbuf := [(lo, 0x04000401)] } })
    s.dev.takes (.host 0) 0x070008 = true ∧ lo.toNat % 0x200000 = 5 ∧ (demo.head 0).isSome = true ∧ demo.rowsInUse = [0] ∧
    s.dev.printing = false ∧ s.dev.nzFree = 131072 ∧
    yields (.nzSubmit 0 (.host 0) 1) s (fun s' =>
      Sparse.get nzDefault s'.dev.nz.table 5 == 0x04000401 && s'.dev.nz.hbuf == [] && fld (s'.dev.reg 0x070010) 20 3 == 3) = true ∧
    yields (.nzDiscard 0 (.host 0) 2) s (fun s' => s'.dev.nz.hbuf == []) = true := by decide +kernel
/-- A store whose 131,072 records are taken: the full case of NozzleRecordsAreStaged. -/
theorem test_nozzle_store_full : ∀ recs : List (Nat × Word), recs.length = 131072 →
    (loaded (fun d => { d with
      nz := { d.nz with hbuf := [(0x03E00005, 0x04000401)] }
      ups := [{ block := 7, tag := 3, by_ := 0, seam := none, payload := .nozzle recs, rows := [0], applied := [],
                planes := [], planesDone := [] }] })).dev.nzFree = 0 :=
  by
    intro recs h
    have e : ∀ n : Nat, n = 131072 → 131072 - (n + 0) = 0 := by omega
    exact e _ h
theorem test_ledger :
    let cool := loaded (fun d => d.setReg 0x13001C 0)
    let hot := loaded (fun d => d.setReg 0x13001C 0x641)
    let saving := loaded (fun d => { d.setReg 0x13001C 0 with nz := { d.nz with copy := 1, save := some { copyB := true, stale := false, halted := false } } })
    cool.dev.takes (.host 0) 0x070020 = true ∧ cool.dev.flashWindow = true ∧ hot.dev.flashWindow = false ∧ hot.dev.takes (.host 0) 0x070020 = true ∧
    yields (.ledgerSave 0 (.host 0) 1) cool (fun s' => s'.dev.nz.save.isSome && flag (s'.dev.reg 0x070024) 2) = true ∧
    yields (.ledgerSave 0 (.host 0) 1) hot (fun s' => s'.dev.nz.save.isNone && fld (s'.dev.reg 0x070024) 20 3 == 1) = true ∧
    yields (.ledgerSaveEnd 0 9 true) saving (fun s' => s'.dev.nz.copy == 2 && s'.dev.reg 0x070028 == 1 && s'.dev.nz.save.isNone) = true := by decide +kernel
/-- The last slot armed with no job running. -/
theorem test_pattern_arm :
    let s := loaded id
    s.dev.takes (.host 0) (0x070400 + 0x20 * 31) = true ∧ s.dev.patState 31 = 0 ∧ s.dev.printing = false ∧
    s.dev.patLegal 31 0 = true ∧ s.dev.patLegal 31 3 = false ∧ (s.dev.setReg (patReg 31 8) 1).patLegal 31 3 = true ∧
    yields (.nzPatArm 0 (.host 0) 31 1) s (fun s' => s'.dev.patState 31 == 1 && s'.dev.patState 30 == 0) = true ∧
    yields (.nzPatArm 0 (.host 0) 31 7) (loaded (fun d => d.setReg (patReg 31 8) 1)) (fun s' => s'.dev.patState 31 == 1) = true := by
  decide +kernel
/-- A MARK of no lines is not armed. -/
theorem test_pattern_range :
    (match exec (.nzPatArm 0 (.host 0) 31 7) (loaded id) with | .fault q => q == .hostError 153 | _ => false) = true := by
  decide +kernel

/-! ### The web encoders -/

/-- A count forward and back of ENC0, a count of ENC1, an illegal transition (CountsMoveThePosition). -/
theorem test_counts :
    let s := loaded id
    (s.dev.encSide 0).disA = none ∧ (s.dev.encSide 1).disB = none ∧ s.dev.enc1Use = true ∧ s.dev.enc.fallback = false ∧
    (quadPlace true false + 4 - quadPlace false false) % 4 = 1 ∧ (quadPlace false true + 4 - quadPlace false false) % 4 = 3 ∧
    (quadPlace true true + 4 - quadPlace false false) % 4 = 2 ∧ (s.dev.encSide 0).a = false ∧ (s.dev.encSide 0).b = false ∧
    yields (.encCount 0 0 true false) s (fun s' => s'.dev.enc.e0.k == 1 && s'.dev.fir.pos == s.dev.inc && s'.dev.enc.kmax == 1) = true ∧
    yields (.encCount 0 0 false true) s (fun s' => s'.dev.enc.e0.k == -1 && s'.dev.fir.pos == -s.dev.inc && s'.dev.enc.kmax == 0) = true ∧
    yields (.encCount 0 1 true false) s (fun s' => s'.dev.enc.e1.k == 1 && s'.dev.fir.pos == 0) = true ∧
    yields (.encCount 0 1 true true) s (fun s' => s'.dev.reg 0x08005C == 1 && s'.dev.enc.e1.k == 0) = true := by decide +kernel
/-- The index base set, an index in tolerance and one out of it (EncoderWatches). -/
theorem test_index :
    let at_ := fun (armed : Bool) (k : Int) => loaded (fun d => { d with enc := { d.enc with armed := armed, e0 := { d.enc.e0 with k := k, lastSign := 1 } } })
    (at_ false 7).dev.indexOn demo = true ∧ (0 : Int) < (at_ false 7).dev.enc.e0.lastSign ∧
    yields (.indexPulse 0) (at_ false 7) (fun s' => s'.dev.enc.armed && s'.dev.enc.kb == 7) = true ∧
    yields (.indexPulse 0) (at_ true 1002) (fun s' => s'.dev.reg 0x080060 == 2 && s'.dev.reg 0x080064 == 0 && s'.dev.enc.kb == 1002) = true ∧
    yields (.indexPulse 0) (at_ true 997) (fun s' => s'.dev.reg 0x080060 == 0xFFFFFFFD && s'.dev.reg 0x080064 == 1) = true := by decide +kernel
theorem test_wires :
    let s := loaded (fun d => { d with enc := { d.enc with e1 := { d.enc.e1 with disB := some 3 } } })
    (s.dev.encSide 0).dis .a = none ∧ (s.dev.encSide 1).dis .b = some 3 ∧
    yields (.wireDisagreeEnter 9 0 .a) s (fun s' => (s'.dev.encSide 0).dis .a == some 9) = true ∧
    yields (.wireDisagreeExit 9 1 .b) s (fun s' => (s'.dev.encSide 1).dis .b == none) = true := by decide +kernel
/-- A window of two counts 100,000 samples of 1.6 ns apart: 16 × 625,000,000 / 100,000 sixteenths of a count a second. -/
theorem test_speed :
    let s := loaded (fun d => { d with enc := { d.enc with e0 := { d.enc.e0 with winN := 2, winSign := 1, winFirst := 0, lastT := 160000000, winLen := 10 } } })
    s.dev.enc.e0.winStart + s.dev.enc.e0.winLen * 10000000 ≤ 200000000 ∧ s.dev.enc.e0.winMixed = false ∧
    yields (.speedWindowEnd 200000000 0) s (fun s' => s'.dev.enc.e0.speed == 100000 && s'.dev.enc.e0.winN == 0) = true := by decide +kernel
theorem test_web_stop :
    let s := loaded (fun d => { d with fir := { d.fir with stopped := false, pmax := 70 } })
    s.dev.fir.advT + demo.geom.stopMs * 1000000000 ≤ 50000000000 ∧
    yields (.webStopDetected 50000000000) s (fun s' => s'.dev.fir.stopped && s'.dev.fir.ps == 70) = true := by decide +kernel
theorem test_snapshot :
    let s := loaded (fun d => { d with enc := { d.enc with e0 := { d.enc.e0 with k := -2 } } })
    s.dev.takes (.host 3) 0x080020 = true ∧ s.dev.window (.host 3) = 3 ∧
    yields (.encSnapTake 0 (.host 3) 1) s (fun s' => s'.dev.regOf 3 0x080028 == 0xFFFFFFFE && s'.dev.regOf 3 0x08002C == 0xFFFFFFFF &&
      s'.dev.regOf 3 0x080024 == 0x80800000) = true := by decide +kernel

/-! ### Registration, firing, compare units, drive references -/

theorem test_registration :
    let s := loaded (fun d => d.setReg 0x090040 0)
    let one := loaded (fun d => { d with fir := { d.fir with hbuf := [(0, 0xFF800000)] } })
    s.dev.takes (.host 0) 0x090044 = true ∧ one.dev.takes (.host 0) 0x090048 = true ∧ (0xFF800000 : Word).toInt = -8388608 ∧
    one.dev.printing = false ∧ one.dev.firFree = 8192 ∧
    yields (.firBrecAppend 0 (.host 0) 7) s (fun s' => s'.dev.fir.hbuf == [(0, 7)] && fld (s'.dev.reg 0x090050) 0 11 == 1) = true ∧
    yields (.firSubmit 0 (.host 0) 1) one (fun s' => (s'.dev.rowFire 0).tgt == -8388608 && (s'.dev.rowFire 0).c == -8388608 &&
      fld (s'.dev.reg 0x090050) 20 3 == 3 && s'.dev.fir.hbuf == []) = true ∧
    yields (.firDiscard 0 (.host 0) 2) one (fun s' => s'.dev.fir.hbuf == [] && (s'.dev.rowFire 0).tgt == 0) = true := by decide +kernel

/-- A web at 1,000,000 fu/s at position 0, its job running, the link OWNED, line 0 of head 0 complete and sent. -/
def firing (g : Dev → Dev) : State :=
  let line : PrepLine := { s := 0, f := 640, codes := some [1, 2, 3, 0, 1, 2, 3, 0], fb := false, sent := true, ue := false }
  jobbed (fun d =>
    let d := (d.setReg 0x0A0004 5).setReg 0x140004 0x22
    g { d with fir := { d.fir with refR := 1000000, stopped := false, heads := [(0, { d.headFire 0 with lines := [line] })] } })

/-- t_f is 640 µs; with λ = 20 ns the FIRE leaves at 639.98 µs, in a block of its own, and the commit stands. -/
theorem test_fire_commit :
    let s := firing (fun d => d.setBl 0 { d.bl 0 with caps := [0x82, 0xFF, 0x10, 0, 1, 64, 200, 0] })
    (s.dev.at 639480000).fireSlot 0 640 = some { tf := 640000000, block := 99996, off := 56, past := false } ∧
    (s.dev.at 639480000).flight 0 = 20000 ∧ s.dev.printing = true ∧ s.dev.printPath = true ∧
    yields (.fireCommit 639480000 0) s (fun s' =>
      match (s'.dev.headFire 0).commit with
      | some c => c.s == 0 && c.block == 99996 && c.off == 56 && c.fireAt == 640000000 && !c.blank && c.payload == [0x39, 0x39]
      | none => false) = true := by decide +kernel
theorem test_line_frame :
    let s := firing (fun d => { d with fir := { d.fir with heads := d.fir.heads.map (fun x =>
      (x.1, { x.2 with lines := x.2.lines.map (fun l => { l with sent := false }) })) } })
    s.dev.maySend 0 0 = true ∧ s.dev.inhibited 0 = false ∧ s.dev.phy 0 = 2 ∧ ((s.dev.bl 0).resend.find? (fun q => q.1 == 0)) = none ∧
    yields (.lineFrameSend 0 0) s (fun s' =>
      s'.dev.out.contains (.barFrame 0 (lineFrame 0 2 false 0 640 [0x39, 0x39])) && (s'.dev.headFire 0).lines.all (fun l => l.sent)) = true := by decide +kernel
/-- A committed line whose block has come goes out in set 0. -/
theorem test_fire_send :
    let s := firing (fun d => { d with fir := { d.fir with heads := d.fir.heads.map (fun x =>
      (x.1, { x.2 with lines := [], commit := some { s := 0, f := 640, block := 3, off := 1, fireAt := 0, blank := false, payload := [] } })) } })
    (s.dev.at 19200).dueSet demo 0 ≠ [] ∧ (s.dev.at 19200).maySend 0 0 = true ∧ s.dev.mirroring = false ∧ (s.dev.bl 0).lost = none ∧
    yields (.fireOrderedSetSend 19200 0) s (fun s' => (s'.dev.bl 0).q == 1 && (s'.dev.headFire 0).commit.isNone) = true := by decide +kernel
theorem test_dref_step :
    let s := firing (fun d => { d with
      dref := [(0, { DrefRow.zero with step := [(0x123, 1), (0x124, 257)], drive := true })]
      fir := { d.fir with heads := d.fir.heads.map (fun x => (x.1, { x.2 with fired := 1 })) } })
    (s.dev.drefRow 0).step = [(0x123, 1), (0x124, 257)] ∧ (s.dev.headFire 0).fired = 1 ∧ (s.dev.rowFire 0).firedAt + 200000 ≤ 200000 ∧
    yields (.drefStep 200000 0) s (fun s' => (s'.dev.drefRow 0).now == 0x123 && (s'.dev.drefRow 0).step == [(0x124, 257)]) = true := by decide +kernel

/-- An ABSOLUTE unit armed ahead of the web, and one at the furthest position (LATE); unit 31 is the last. -/
theorem test_compare_arm :
    let s := loaded (fun d => { (d.setReg 0x0927C4 100) with fir := { d.fir with pmax := 99 } })
    let late := loaded (fun d => { (d.setReg 0x0927C4 100) with fir := { d.fir with pmax := 100 } })
    s.dev.takes (.host 0) 0x0927C0 = true ∧ fld (s.dev.reg 0x0927D0) 0 16 = 1 ∧
    yields (.pcArm 0 (.host 0) 31 1) s (fun s' => s'.dev.pcState 31 == 1) = true ∧
    yields (.pcArm 0 (.host 0) 31 1) late (fun s' => s'.dev.pcState 31 == 2) = true ∧
    yields (.pcDisarm 0 (.host 0) 31 2) late (fun s' => s'.dev.pcState 31 == 0) = true := by decide +kernel
theorem test_compare_edge :
    let s := loaded (fun d => { ((d.setReg 0x092014 1).setReg 0x092004 64) with fir := { d.fir with refR := 1000000, pos := 64 * 4294967296 } })
    s.dev.pcState 0 = 1 ∧ s.dev.pcNext 0 = some 64 ∧ s.dev.edgeAt 0 = some 64000000 ∧
    yields (.compareEdge 64000000 0) s (fun s' => s'.dev.pcState 0 == 3 && (s'.dev.pc 0).active && (s'.dev.pc 0).pulseEnd == 64010000 &&
      s'.dev.reg 0x092018 == 64 && s'.dev.reg 0x092028 == 1) = true ∧
    yields (.comparePulseEnd 5 0) (loaded (fun d => d.setPc 0 { d.pc 0 with active := true, pulseEnd := 5 })) (fun s' => !(s'.dev.pc 0).active) = true := by
  decide +kernel
theorem test_position_snapshot :
    let s := loaded (fun d => { d with fir := { d.fir with pos := -4294967296, pmax := 5 } })
    s.dev.takes (.host 2) 0x090010 = true ∧
    yields (.firSnapTake 0 (.host 2) 1) s (fun s' => s'.dev.regOf 2 0x090018 == 0xFFFFFFFF && s'.dev.regOf 2 0x09001C == 0xFFFFFFFF &&
      s'.dev.regOf 2 0x090020 == 5) = true := by decide +kernel
theorem test_dref_set :
    let s := loaded id
    s.dev.takes (.host 0) 0x0D0100 = true ∧ s.dev.drefFree = 256 ∧ s.dev.takes (.host 0) 0x0D0000 = true ∧
    yields (.loopDrefSet 0 (.host 0) 0 0xFFF) s (fun s' => (s'.dev.drefRow 0).now == 0xFFF) = true ∧
    yields (.loopCal 0 (.host 0) 0x100) s (fun s' => flag (s'.dev.reg 0x0D0000) 8) = true := by decide +kernel

/-! ### Bar links -/

/-- Link 0 in a state, its lane ACTIVE and locked, with what `b` makes of it. -/
def linked (st : Word) (b : BarLink → BarLink) : State :=
  loaded (fun d => ((d.setReg 0x0A0004 st).setReg 0x140004 0x22).setBl 0 (b (d.bl 0)))

theorem test_link_timers :
    let lock := linked 1 (fun b => { b with own := 5 })
    let config := linked 3 (fun b => { b with left := 3, seq := 0xFFFF, probes := [(9, 0)] })
    let third := linked 3 (fun b => { b with fails := 2 })
    lock.dev.blState 0 = 1 ∧ config.dev.blState 0 = 3 ∧ config.dev.phy 0 = 2 ∧
    yields (.tickSend 0 0) (linked 5 id) (fun s' => s'.dev.blState 0 == 5 && s'.dev.out.length == 2) = true ∧
    yields (.probeSend 7 0) config (fun s' => (s'.dev.bl 0).left == 2 && (s'.dev.bl 0).seq == 0 && (s'.dev.bl 0).probes == [(9, 0), (0xFFFF, 7)]) = true ∧
    yields (.probeTimeout 2000000 0) config (fun s' => (s'.dev.bl 0).probes == [] && (s'.dev.bl 0).left == 4) = true ∧
    yields (.capsReqSend 0 0) lock (fun s' => s'.dev.out.contains (.barFrame 0 (ctrlFrame 0xFF 1 []))) = true ∧
    yields (.lockCapsTimeout 50000000000 0) lock (fun s' => s'.dev.blState 0 == 0 && (s'.dev.bl 0).own == 0) = true ∧
    yields (.configTimeout 1000000000 0) config (fun s' => s'.dev.blState 0 == 0 && (s'.dev.bl 0).fails == 1) = true ∧
    yields (.configTimeout 1000000000 0) third (fun s' => s'.dev.blState 0 == 6 && fld (s'.dev.reg 0x0A0004) 8 4 == 15) = true := by decide +kernel

/-- CAPS of an endpoint of one head of up to 4,096 nozzles, at BLP `version`, its claim register at 0x0102030405. -/
def capsBytes (version : Nat) : List Byte :=
  withCrc (leBytes 1 0x82 ++ leBytes 1 0xFF ++ leBytes 1 version ++ leBytes 1 7 ++ leBytes 1 1 ++ leBytes 1 64 ++ leBytes 2 200 ++ leBytes 8 0
    ++ leBytes 5 0x0102030405 ++ leBytes 3 0 ++ leBytes 8 77 ++ leBytes 2 4096 ++ leBytes 1 0x1F ++ leBytes 1 120 ++ leBytes 4 0)
theorem test_caps :
    frameGood 0x82 44 (capsBytes 0x10) = true ∧ capsReason demo 0 (capsBytes 0x10) = 0 ∧ capsReason demo 0 (capsBytes 0x20) = 1 ∧
    yields (.capsReceive 0 0 (capsBytes 0x10)) (linked 1 id) (fun s' => s'.dev.blState 0 == 3 && (s'.dev.bl 0).left == 16 && (s'.dev.bl 0).claim == 0x0102030405) = true ∧
    yields (.capsReceive 0 0 (capsBytes 0x20)) (linked 1 id) (fun s' => s'.dev.blState 0 == 6 && fld (s'.dev.reg 0x0A0004) 8 4 == 1) = true ∧
    yields (.capsReceive 0 0 (capsBytes 0x10)) (linked 5 id) (fun s' => s'.dev.blState 0 == 5 && (s'.dev.bl 0).caps == capsBytes 0x10) = true := by decide +kernel
/-- The sixteenth latency value: (1,000,000 ps − 10 × 20,000 ps) / 2 = 400,000 ps. -/
theorem test_probe_echo :
    let s := linked 3 (fun b => { b with caps := capsBytes 0x10, claim := 0x305, probes := [(6, 0)], lats := List.replicate 15 400000 })
    let f := withCrc (leBytes 1 0x84 ++ leBytes 1 0xFF ++ leBytes 2 6 ++ leBytes 4 20000)
    frameGood 0x84 12 f = true ∧ s.dev.twState = 0 ∧ s.dev.twinned = false ∧
    yields (.probeEchoReceive 1000000 0 f) s (fun s' => (s'.dev.bl 0).lats == List.replicate 16 400000 && s'.dev.reg 0x090200 == 400000 &&
      s'.dev.blState 0 == 4 && (s'.dev.bl 0).own == 0x480) = true := by decide +kernel
theorem test_frames_heard :
    let s := linked 5 (fun b => { b with own := 0x180 })
    let waits := linked 4 (fun b => { b with own := 0x180 })
    let block := withCrc (leBytes 1 0x81 ++ List.replicate 15 0 ++ leBytes 5 0x181 ++ List.replicate 3 0)
    let status := fun c => withCrc (leBytes 1 0x81 ++ leBytes 1 0xFF ++ leBytes 1 2 ++ leBytes 1 0 ++ leBytes 5 c ++ List.replicate 19 0)
    let hk := withCrc (leBytes 1 0x83 ++ leBytes 1 0 ++ leBytes 1 3 ++ leBytes 1 0 ++ leBytes 2 0xFFF0 ++ List.replicate 18 0)
    frameGood 0x81 28 block = true ∧ frameGood 0x81 32 (status 0x180) = true ∧ frameGood 0x83 28 hk = true ∧ (s.dev.bl 0).lost = none ∧
    yields (.frameDiscarded 0 (.bar 0)) s (fun s' => s'.dev.reg 0x0A0020 == 1) = true ∧
    yields (.echoBlockReceive 0 0 block) s (fun s' => s'.dev.blState 0 == 4 && (s'.dev.bl 0).lost == some none && (s'.dev.bl 0).claim == 0x181) = true ∧
    yields (.echoStatusReceive 0 0 (status 0x180)) waits (fun s' => s'.dev.blState 0 == 5) = true ∧
    yields (.echoStatusReceive 0 0 (status 0x181)) s (fun s' => s'.dev.blState 0 == 4 && (s'.dev.bl 0).lost.isSome) = true ∧
    yields (.hkFrameReceive 0 0 hk) s (fun s' => s'.dev.reg 0x0A0080 == 0x3FFF0 && s'.dev.hk.heard.contains 0) = true := by decide +kernel
/-- A request for lines 0 and 1: line 0 stands in the buffer sent, line 1 does not. -/
theorem test_resend :
    let s := firing (fun d => d.setReg 0x0A0000 4)
    let f := withCrc (leBytes 1 0x81 ++ leBytes 1 0 ++ leBytes 1 1 ++ leBytes 1 0 ++ leBytes 4 0 ++ leBytes 2 2 ++ leBytes 2 0)
    frameGood 0x81 16 f = true ∧ flag (s.dev.reg 0x0A0000) 2 = true ∧ flag (s.dev.reg 0x0A0004) 12 = false ∧
    yields (.echoResendReceive 0 0 f) s (fun s' => (s'.dev.bl 0).resend == [(0, 0)] && s'.dev.reg 0x0A0024 == 2) = true := by decide +kernel
theorem test_link_commands :
    let s := linked 5 (fun b => { b with own := 5, lats := [1] })
    s.dev.takes (.host 0) 0x0A0000 = true ∧ s.dev.inTest 0 = false ∧ s.dev.blUp 0 = true ∧
    yields (.recaps 0 (.host 0) 0 2) s (fun s' => s'.dev.blState 0 == 0 && (s'.dev.bl 0).own == 0) = true ∧
    yields (.reprobe 0 (.host 0) 0 1) s (fun s' => s'.dev.blState 0 == 5 && (s'.dev.bl 0).lats == [] && (s'.dev.bl 0).left == 16) = true := by decide +kernel

/-! ### Head endpoints -/

/-- Endpoint 31 with claim register 0x105, head 0 firing from port A with 8 nozzles of 2 bits, its next line 5. -/
def endpoint (f : Endpoint → Endpoint) : State :=
  let e := { Endpoint.zero with c := 0x105 }
  let e := e.setHead 0 { e.head 0 with firing := some .a }
  let e := e.setHp .a 0 { e.hp .a 0 with next := 5, cfg := { nozzles := 8, bits := 2, step := 1, xlate := [0, 1, 2, 3] } }
  { State.reset with eps := Sparse.set (fun _ => .zero) [] 31 (f e) }
/-- A check of endpoint 31 after a command. -/
def epYields (c : Instr) (s : State) (p : Endpoint → Bool) : Bool := yields c s (fun s' => p (s'.ep 31) && s'.ep 30 == .zero)

/-- CLAIM frames: flags, claim and switch line (R226). -/
def claimBytes (flags c le : Nat) : List Byte :=
  withCrc (leBytes 1 3 ++ leBytes 1 0xFF ++ leBytes 1 flags ++ leBytes 1 0 ++ leBytes 5 c ++ leBytes 3 0 ++ leBytes 4 le)
/-- Plain, ANYLINE, RELEASE, and those refused: equal claim, another port's firing head, RELEASE of another claim. -/
theorem test_claims :
    frameOk 0x03 20 (claimBytes 0 0x106 9) = true ∧ ((endpoint id).ep 31).test = none ∧
    epYields (.epClaimReceive 0 31 .b (claimBytes 0 0x106 9)) (endpoint id) (fun e => e.c == 0x106 && e.cport == .b && (e.head 0).sw == some (.b, some 9)) = true ∧
    epYields (.epClaimReceive 0 31 .b (claimBytes 0 0x105 9)) (endpoint id) (fun e => e.c == 0x105 && (e.head 0).sw == none) = true ∧
    epYields (.epClaimReceive 0 31 .a (claimBytes 1 0x106 9)) (endpoint id) (fun e => e.c == 0x106 && e.le == none && (e.head 0).sw == some (.a, none)) = true ∧
    epYields (.epClaimReceive 0 31 .b (claimBytes 1 0x106 9)) (endpoint id) (fun e => e.c == 0x105) = true ∧
    epYields (.epClaimReceive 0 31 .a (claimBytes 2 0x105 9)) (endpoint id) (fun e => (e.head 0).rel == some 9 && e.c == 0x105) = true ∧
    epYields (.epClaimReceive 0 31 .b (claimBytes 2 0x105 9)) (endpoint id) (fun e => (e.head 0).rel == none) = true := by decide +kernel
/-- A refused claim is answered with RESULT 1 on both ports. -/
theorem test_claim_status : yields (.epClaimReceive 0 31 .b (claimBytes 0 0x105 9)) (endpoint id)
    (fun s' => s'.dev.out.contains (.epFrame 31 .a ((s'.ep 31).status 1)) && s'.dev.out.contains (.epFrame 31 .b ((s'.ep 31).status 1))) = true := by decide +kernel

/-- A LINE frame for line 5: codes 3, 2, 1, 0, 3, 2, 1, 0 (R211). -/
def lineBytes : List Byte :=
  let h := leBytes 1 1 ++ leBytes 1 0 ++ leBytes 1 0 ++ leBytes 1 2 ++ leBytes 4 5 ++ leBytes 4 0 ++ leBytes 2 2
  withCrc (h ++ leBytes 2 (crc16 h) ++ [0x1B, 0x1B])
theorem test_line : crc16 (lineBytes.take 14) = u16 lineBytes 14 ∧ (crc32c (lineBytes.take 18)).toNat = u32 lineBytes 18 ∧
    lineBytes.length = 22 ∧ ((endpoint id).ep 31).caps.nhead = 8 ∧ atOrAfter 5 5 = true ∧
    epYields (.epLineReceive 0 31 .a lineBytes) (endpoint id) (fun e =>
      (e.hp .a 0).lines == [{ s := 5, bits := 2, fallback := false, payload := [0x1B, 0x1B] }]) = true := by decide +kernel
/-- An ARM of set 7 for head 0 with tag 5, and a FIRE of it at offset 63, as R214 lays them out. -/
def armBytes : List Byte :=
  let b := leBytes 1 0xA7 ++ leBytes 1 1 ++ leBytes 1 0 ++ leBytes 4 5
  b ++ leBytes 1 (crc8 b)
def fireBytes : List Byte := leBytes 1 0xF7 ++ leBytes 1 1 ++ leBytes 6 63
theorem test_arm_fire :
    let armed := endpoint (fun e => (e.setHp .a 0 { e.hp .a 0 with lines := [{ s := 5, bits := 2, fallback := false, payload := [0x1B, 0x1B] }] }).setArm .a 7
      (some { mask := 1, blank := 0, heads := 1 }))
    armBytes.length = 8 ∧ crc8 (armBytes.take 7) = u8 armBytes 7 ∧ fireBytes.length = 8 ∧ (armed.ep 31).arm .a 7 = some { mask := 1, blank := 0, heads := 1 } ∧
    epYields (.epArmReceive 0 31 .a armBytes) (endpoint id) (fun e => match e.arm .a 7 with | some a => a.mask == 1 && bit a.heads 0 | none => false) = true ∧
    yields (.epFireReceive 1000 31 .a fireBytes) armed (fun s' =>
      s'.dev.out.contains (.jet 31 0 27300 5 [3, 2, 1, 0, 3, 2, 1, 0]) && ((s'.ep 31).hp .a 0).next == 6 && ((s'.ep 31).head 0).fired == 1) = true ∧
    epYields (.epArmExpire 0 31 .a 7) armed (fun e => e.arm .a 7 == none && e.tagErr == 1) = true := by decide +kernel

/-- TICK, DIGEST, HALT, loss of signal, and the CTRL frames (EndpointsAnswer). -/
def tickBytes : List Byte := withCrc (leBytes 1 5 ++ List.replicate 23 0 ++ leBytes 4 9 ++ (List.replicate 7 (leBytes 4 0xFFFFFFFF)).flatten)
theorem test_tick : frameOk 0x05 60 tickBytes = true ∧
    epYields (.epTickReceive 0 31 .a tickBytes) (endpoint (fun e => e.setHp .a 7 { e.hp .a 7 with next := 3 }))
      (fun e => (e.hp .a 0).next == 9 && (e.hp .a 7).next == 3) = true := by decide +kernel
theorem test_digest :
    let b := withCrc (leBytes 1 2 ++ leBytes 1 0 ++ leBytes 2 0 ++ leBytes 4 0x100 ++ leBytes 2 256 ++ leBytes 2 0 ++ leBytes 4 0xABCD)
    frameOk 0x02 20 b = true ∧ epYields (.epDigestReceive 0 31 .a b) (endpoint id) (fun e => e.digs == [(.a, 0, 0x100, 256, 0xABCD)]) = true := by decide +kernel
theorem test_halt :
    let s := endpoint (fun e => e.setHp .a 0 { e.hp .a 0 with lines := [{ s := 5, bits := 2, fallback := false, payload := [0, 0] }] })
    (s.ep 31).pa.eidle = false ∧ ((s.ep 31).head 0).firing = some .a ∧
    epYields (.epHaltReceive 0 31 .a (leBytes 1 0x33 ++ List.replicate 7 0x5A)) s (fun e => (e.head 0).firing == none && (e.hp .a 0).lines == []) = true ∧
    epYields (.epSignalLoss 0 31 .a) s (fun e => (e.head 0).firing == none && e.c == 0x105) = true ∧
    epYields (.epSignalLoss 0 31 .b) s (fun e => (e.head 0).firing == some .a) = true := by decide +kernel
/-- A CTRL frame to head `p` (R233). -/
def ctrlBytes (p kind : Nat) (body : List Byte) : List Byte := withCrc (leBytes 1 4 ++ leBytes 1 p ++ leBytes 1 kind ++ leBytes 1 0 ++ padTo 12 0 body)
/-- The newest thing sent is a CAPS frame of endpoint 31 on port `x`. -/
def sendsCaps (x : Port) (s : State) : Bool :=
  match s.dev.out with
  | .epFrame 31 y (b :: _) :: _ => y == x && b == 0x82
  | _ => false
theorem test_ctrl :
    let s := endpoint (fun e => { e with tagErr := 3, crcErr := 4 })
    frameOk 0x04 20 (ctrlBytes 0xFF 1 []) = true ∧
    yields (.epCapsReq 0 31 .b (ctrlBytes 0xFF 1 [])) s (sendsCaps .b) = true ∧
    epYields (.epHeadcfg 0 31 .a (ctrlBytes 3 2 (leBytes 2 4096 ++ leBytes 1 3 ++ leBytes 1 2 ++ [7, 6, 5, 4]))) s
      (fun e => (e.hp .a 3).cfg == { nozzles := 4096, bits := 3, step := 2, xlate := [7, 6, 5, 4] }) = true ∧
    epYields (.epClear 0 31 .a (ctrlBytes 0xFF 4 [])) s (fun e => e.tagErr == 0 && e.crcErr == 0) = true ∧
    epYields (.epEidle 0 31 .a (ctrlBytes 0xFF 5 [1])) s (fun e => e.pa.eidle && e.test.isNone) = true ∧
    epYields (.epPattern 0 31 .a (ctrlBytes 0xFF 5 [2, 1, 100, 0])) s (fun e => e.test == some { port := .a, op := 2, pats := 1, dur := 100, user := 0 }) = true ∧
    epYields (.epLoopback 0 31 .a (ctrlBytes 0xFF 5 [3, 1, 100, 0])) s (fun e => e.test == some { port := .a, op := 3, pats := 1, dur := 100, user := 0 }) = true := by
  decide +kernel
theorem test_ep_housekeeping : yields (.epHkReq 0 31 .a (ctrlBytes 0xFF 3 [])) (endpoint id) (fun s' => s'.dev.out.length == 9) = true ∧
    epYields (.epTestEnd 0 31 .a) (endpoint (fun e => { e with test := some { port := .a, op := 2, pats := 1, dur := 1, user := 0 } })) (fun e => e.test.isNone) = true ∧
    epYields (.epEidleTimeout 0 31 .a) (endpoint (fun e => { e with pa := { e.pa with eidle := true } })) (fun e => !e.pa.eidle) = true := by decide +kernel
theorem test_ep_probe :
    let b := withCrc (leBytes 1 6 ++ leBytes 1 0xFF ++ leBytes 2 9 ++ leBytes 4 0)
    frameOk 0x06 12 b = true ∧ (match exec (.epProbeReceive 0 31 .a b) (endpoint id) with | .next s' => some (s'.dev.out.length, s'.eps == (endpoint id).eps) | _ => none) = some (2, true) := by
  decide +kernel
theorem test_ep_sends : yields (.epStatusPeriodic 0 31) (endpoint id) (fun s' => s'.dev.out.contains (.epFrame 31 .b ((s'.ep 31).status 0xFF))) = true ∧
    yields (.epCapsPeriodic 0 31 .a) (endpoint id) (sendsCaps .a) = true ∧
    epYields (.epReset 0 31) (endpoint id) (fun e => e == .zero) = true ∧
    epYields (.epRefoOutOfLimits 0 31 .b true) (endpoint id) (fun e => e.pb.out && !e.pa.out && e.c == 0x105) = true := by decide +kernel
/-- A step that EndpointClaimNeverFalls and EndpointsActAlone speak of, and the endpoint a frame discarded there names. -/
theorem test_endpoint_steps :
    endpointOf (.frameDiscarded 0 (.endpoint 31 .a)) = some 31 ∧ endpointOf (.tickSend 0 31) = none ∧
    (match step { endpoint id with pending := [.epClaimReceive 0 31 .b (claimBytes 0 0x106 9)] } with
     | .next s' => decide (((endpoint id).ep 31).c ≤ (s'.ep 31).c) && s'.ep 30 == .zero | _ => false) = true := by decide +kernel

/-! ### Cameras -/

/-- The small forme with a RAW10 channel of 8 by 1 pixels on port 7, VC 15. -/
def camForme : Forme :=
  { demo with cam := some { portMask := 0x80, lanes := [1, 1, 1, 1, 1, 1, 1, 2], rates := List.replicate 8 1000,
                            chans := [{ port := 7, vc := 15, cls := 1, priv := 0, owner := 0, dt := 0x2B, trig := 0, width := 8, height := 1, region := 0xFF }] } }
def camera (f : Dev → Dev) : State := loadedWith camForme f
/-- The hit of a trigger at 1 ms. -/
def hit : CamHit := { pos := 4000, sec := 0, nsw := 0, at_ := 1000000000, base := 4000 }
/-- A Frame Start at 1 ms opens a frame, with the hit it takes and without one. -/
def opened (hits : List CamHit) : Option State :=
  match exec (.csiFrameStart 1000000000 7 15 9) (camera (fun d => d.setCamChan 7 15 { CamChan.zero with hits := hits })) with
  | .next s => some s
  | _ => none
/-- A check of the state after a Frame Start and one more command. -/
def camYields (c : Instr) (p : State → Bool) : Bool := match opened [hit] with | some s => yields c s p | none => false

theorem test_frame_start :
    let s := camera id
    s.dev.watching = false ∧ (s.dev.chanCfg 7 15).isSome = true ∧ winsOf s.dev.reg 7 15 = [] ∧ (s.dev.camChan 7 15).hits = [] ∧
    fld (s.dev.reg 0x0B1C04) 0 16 * 1000000 = 10000000000 ∧
    (match opened [hit] with
     | some s' => match (s'.dev.camChan 7 15).frames with
       | [f] => f.isOpen && f.num == 1 && f.fn == 9 && f.pos == 4000 && !f.untrig && f.nojob && (s'.dev.camChan 7 15).hits == []
       | _ => false
     | none => false) = true ∧
    (match opened [] with
     | some s' => match (s'.dev.camChan 7 15).frames with | [f] => f.untrig | _ => false
     | none => false) = true := by decide +kernel
theorem test_line_packet :
    camYields (.csiLinePacket 1000000000 7 15 0x2B [1, 2, 3, 4, 0xE4, 0, 0, 0, 0, 0] true false) (fun s =>
      match (s.dev.camChan 7 15).frames with
      | [f] => f.lines.map (fun l => (l.idx, l.px)) == [(0, [256, 576, 896, 1216, 0, 0, 0, 0])] && f.counts.getD 0 0 == 1
      | _ => false) = true ∧
    camYields (.csiEmbeddedData 1000000000 7 15 [9, 8]) (fun s =>
      match (s.dev.camChan 7 15).frames with | [f] => f.emb == some ([9, 8] ++ List.replicate 14 0) | _ => false) = true := by decide +kernel
theorem test_frame_ends :
    camYields (.csiFrameEnd 1000000000 7 15) (fun s => (s.dev.camChan 7 15).frames.map (·.isOpen) == [false]) = true ∧
    camYields (.frameTimeout 101000000000 7 15) (fun s => (s.dev.camChan 7 15).frames.map (·.isOpen) == [false]) = true ∧
    yields (.csiOtherPacket 0 6 0 0x12 false) (camera id) (fun s => s.dev.reg 0x0B1814 == 1) = true := by decide +kernel
/-- A frame whose one line waits to be processed. -/
def waitingFrame : CamFrame :=
  { num := 1, fn := 0, isOpen := false, last := 0, pos := 0, sec := 0, nsw := 0, view := 0, untrig := true, nojob := true, profile := 0, isp := [],
    lut := [], dpc := [], emb := none, counts := [1], kinds := [], crcErr := 0, eccCorr := 0, long := false, cut := false,
    lines := [{ seq := 0, exp := 0, idx := 0, px := List.replicate 8 0x1000, bad := false, real := 8, fill := false }], mosaic := [] }
theorem test_pipeline :
    let s := camera (fun d => d.setCamChan 7 15 { CamChan.zero with frames := [waitingFrame], num := 1 })
    s.dev.camNextLine 3 = some (7, 15, waitingFrame) ∧
    yields (.pipelineLine 0 3 false) s (fun s' => (s'.dev.camChan 7 15).frames.map (fun f => f.mosaic.length) == [1] && s'.dev.reg 0x0C7E04 == 1) = true := by
  decide +kernel
theorem test_frame_close :
    let s := camera (fun d => d.setCamChan 7 15 { CamChan.zero with frames := [{ waitingFrame with lines := [], mosaic := [{ px := List.replicate 8 0, bad := false, real := 8 }] }], num := 1 })
    ((s.dev.camChan 7 15).frames.map (fun f => f.ready 7)) = [none] ∧
    yields (.frameClose 0 7 15) s (fun s' => (s'.dev.camChan 7 15).frames == [] && decide (s.dev.cc.recW < s'.dev.cc.recW) &&
      s'.dev.reg 0x0B1DF8 == 1 && flag (s'.dev.reg 0x0B1DF4) 31) = true := by decide +kernel
theorem test_cci :
    let s := camera (fun d => d.setReg 0x0B1C2C 0x55)
    let q := camera (fun d => d.setCamPort 7 { d.camPort 7 with cmds := [(0x80, 3)], results := [] })
    let r := camera (fun d => d.setCamPort 7 { d.camPort 7 with results := [0x12, 0x34] })
    s.dev.takes (.host 0) 0x0B1C28 = true ∧
    yields (.camCciCmd 0 (.host 0) 7 0x10) s (fun s' => (s'.dev.camPort 7).cmds.map (·.2) == [0x55] && fld (s'.dev.reg 0x0B1C34) 0 6 == 1) = true ∧
    yields (.cciCommandDone 0 7 true 0x1AB) q (fun s' => (s'.dev.camPort 7).cmds == [] && (s'.dev.camPort 7).results == [0xAB] && s'.dev.out.contains (.cci 7 0x80 3)) = true ∧
    yields (.camCciRdata 0 (.host 0) 7) r (fun s' => s'.dev.out.contains (.answer (.host 0) 0x0B1C30 0x12) && (s'.dev.camPort 7).results == [0x34]) = true ∧
    yields (.camCciRdata 0 (.host 0) 7) s (fun s' => s'.dev.out.contains (.answer (.host 0) 0x0B1C30 0x80000000)) = true := by decide +kernel
/-- The last LUT entry, 4,912, of profile 1, and SWAP. -/
theorem test_lut :
    let s := camera (fun d => (d.setReg 0x0C7434 4912).setReg 0x0C7438 0x00020001)
    s.dev.takes (.host 0) 0x0C743C = true ∧ s.dev.takes (.host 0) 0x0C7430 = true ∧
    yields (.ispLutD2 0 (.host 0) 7 1 3) s (fun s' =>
      (s'.dev.camPort 7).back == [(31120, 1), (31121, 2), (31122, 3)] && s'.dev.reg 0x0C7434 == 4913) = true ∧
    yields (.ispSwap 0 (.host 0) 7 1 1) s (fun s' => (s'.dev.camPort 7).swap == [1] && (s'.dev.camPort 7).front == []) = true := by decide +kernel
/-- Linearisation between 0x1000 and 0x1400 of the identity, and with LIN_EN clear; a matrix whose sum is below 0 and past
65,535 (PixelsAreCorrected). -/
theorem test_pixels :
    let on_ := { waitingFrame with isp := [(0x0C0000, 0x2000)] }
    let mat := { waitingFrame with isp := [(0x0C0000, 0x8000), (0x0C0100, 0x7FFF), (0x0C0110, 0x8000)] }
    flag (on_.reg 0x0C0000) 13 = true ∧ flag (mat.reg 0x0C0000) 13 = false ∧ flag (mat.reg 0x0C0000) 15 = true ∧ flag (on_.reg 0x0C0000) 15 = false ∧
    on_.linear 0 0x1234 = 0x1234 ∧ mat.linear 0 0x1234 = 0x1234 ∧ (mat.matrix 0 [65535, 0, 0, 0]).take 2 = [65535, 0] ∧
    on_.matrix 0 [1, 2, 3, 4] = [1, 2, 3] := by decide +kernel

/-! ### Counters, tallies and the sampler -/

def tallying (f : Dev → Dev) : State := loaded (fun d => f ((d.setReg 0x0F0060 1).setReg 0x0F0064 1 |>.setReg 0x0F0068 2))
theorem test_clear :
    let s := loaded (fun d => (d.count 100 7).setPort 0 { Swath.empty with panic := true })
    s.dev.takes (.host 0) 0x0F0000 = true ∧ ((s.dev.at 5000000).counter 147).1 = 5 ∧ paceCounter 147 = false ∧
    yields (.clearCounters 5000000 (.host 0) 1) s (fun s' => s'.dev.perf.cnt == [] && s.dev.perf.cnt == [(100, 7)] &&
      (s'.dev.counter 147).1 == 0 && ((s'.dev.at 7000000).counter 147).1 == 2) = true := by decide +kernel
/-- A claim of more than 32 bits, read low word first (CountersAndTallies). -/
theorem test_latching_read :
    let s := loaded (fun d => d.setBl 31 { d.bl 31 with claim := 0x123456789AB })
    yields (.latchingLoRead 0 (.host 0) 0x0A1F10) s (fun s' =>
      s'.dev.out.contains (.answer (.host 0) 0x0A1F10 0x456789AB) && (s'.dev.readWord (.host 0) 0x0A1F14).1 == 0x123) = true := by decide +kernel
theorem test_tally :
    let s := tallying id
    s.dev.takes (.host 0) 0x0F0060 = true ∧ s.dev.tallyOn = true ∧ s.dev.perf.dump = none ∧
    (s.dev.forme.bind (fun f => f.region 2)).isSome = true ∧
    yields (.tallyNow 0 (.host 0) 5) s (fun s' => s'.dev.perf.dump.isSome && s'.dev.perf.dumps == 1) = true ∧
    yields (.tallyPeriodExpire 1000000000) s (fun s' => s'.dev.perf.dump.isSome && s'.dev.perf.periodAt == 1000000000) = true ∧
    yields (.tallyPeriodExpire 999999999) s (fun s' => s'.dev.perf.dump.isNone && s'.dev.perf.periodAt == 0) = true := by decide +kernel
theorem test_tally_dump :
    let s := tallying (fun d => { d with perf := { d.perf with dump := some (0, 0x200000, [1, 2]) } })
    (∀ k < 2, s.dev.dcState k ≠ 3) ∧
    yields (.tallyDumpDone 0) s (fun s' => s'.dev.perf.dump.isNone && s'.dev.dramRead 0x200000 2 == [1, 2] &&
      flag (s'.dev.reg 0x0F0070) 31 && s'.dev.reg 0x0F0074 == 1) = true := by decide +kernel
def sampling (g : Core → Core) : State := loaded (fun d => ((cored 0 0 0 0 g d).setReg 0x0F0080 0x30203).setReg 0x0F0084 100)
theorem test_sampler :
    let s := sampling (fun c => { c with countdown := 0 })
    let tag : SampTag := { pc := 4, insn := 5, flags := 1, daddr := 6, retired := 7 }
    let obs : SampleObs := { fetchLat := 1, execLat := 2, memLat := 70000 }
    s.dev.takes (.host 0) 0x0F0080 = true ∧ s.dev.sampled 1 = true ∧
    yields (.sampArm 0 (.host 0) 0x30207) s (fun s' => s'.dev.reg 0x0F0088 == 0 && !s'.dev.perf.stopped) = true ∧
    yields (.sampleTag 0 1) s (fun s' => (s'.dev.core 1).tagNext && decide (100 ≤ (s'.dev.core 1).countdown)) = true ∧
    yields (.sampleRecordWrite 0 1 obs) (sampling (fun c => { c with tag := some tag })) (fun s' =>
      Sparse.getList sramDefault s'.dev.perf.buf 0 16 == [4, 0, 0, 0, 5, 0, 0, 0, 1, 1, 1, 0, 2, 0, 0xFF, 0xFF] &&
      s'.dev.reg 0x0F0088 == 1 && (s'.dev.core 1).tag == none) = true := by decide +kernel

/-! ### The DRAM controller -/

/-- Channel 0 READY (DC_STATUS 2), with more bits of DC_STATUS and DC_CTRL. -/
def dramming (st ctrl : Nat) (x : DramCh → DramCh) : State :=
  loaded (fun d => ((d.setReg 0x100004 (BitVec.ofNat 32 st)).setReg 0x100000 (BitVec.ofNat 32 ctrl)).setDch 0 (x (d.dch 0)))
/-- Channel 0 of 1 GiB, ×16, one rank: 8 Gbit in 4 components are 2 Gbit, which is outside R333; 8 GiB gives 16 Gbit. -/
def trainForme (gib : Nat) : Forme := { demo with dram := { demo.dram with capGib := gib } }
def trained : TrainResult := { rate := some 3200, x16 := true, twoRanks := false }
theorem test_training :
    let s := fun gib => loadedWith (trainForme gib) (fun d => d.setReg 0x100004 1)
    (s 8).dev.dcState 0 = 1 ∧
    yields (.dramTrainingDone 0 trained trained) (s 8) (fun s' => s'.dev.dcState 0 == 2 && flag (s'.dev.reg 0x100004) 8) = true ∧
    yields (.dramTrainingDone 0 trained trained) (s 1) (fun s' => s'.dev.dcState 0 == 3 && !flag (s'.dev.reg 0x100004) 8) = true ∧
    yields (.dramTrainingDone 0 { trained with rate := none } trained) (s 8) (fun s' => s'.dev.dcState 0 == 3) = true := by decide +kernel
theorem test_fill :
    let s := loaded (fun d => (d.setReg 0x100004 0x102).dramWrite 64 [1])
    yields (.dramFillDone 0) s (fun s' => s'.dev.reg 0x100004 == 2 && s'.dev.dramRead 64 1 == [1]) = true := by decide +kernel
theorem test_refresh :
    let s := dramming 2 0 id
    let panic := { s with dev := s.dev.setPort 0 { s.dev.port 0 with panic := true } }
    s.dev.dcState 0 = 2 ∧ (s.dev.dch 0).selfRefresh = false ∧ s.dev.anyPanic = false ∧ panic.dev.anyPanic = true ∧ panic.dev.postponed 0 = 0 ∧
    yields (.refreshDue 0 0) s (fun s' => s'.dev.out == .dramCmd 0 0 :: s.dev.out) = true ∧
    yields (.refreshDue 0 0) panic (fun s' => s'.dev.out == s.dev.out && s'.dev.postponed 0 == 1) = true := by decide +kernel
theorem test_retraining :
    let s := dramming 2 0 id
    let r := dramming 2 0 (fun x => { x with round := some 4 })
    s.dev.takes (.host 0) 0x100000 = true ∧ r.dev.freqWanted = false ∧ (r.dev.dch 0).lastPause = none ∧
    yields (.retrainInterval 0 0) s (fun s' => (s'.dev.dch 0).round == some 0) = true ∧
    yields (.retrainInterval 0 0) r (fun s' => flag (s'.dev.reg 0x100100) 20) = true ∧
    yields (.retrainPause 0 0) r (fun s' => (s'.dev.dch 0).round == none && s'.dev.reg 0x100104 == 1 && s'.dev.out == .dramCmd 0 1 :: r.dev.out) = true ∧
    yields (.dcRetrain 0 (.host 0) 0x20) s (fun s' => (s'.dev.dch 0).round == some 0) = true := by decide +kernel
theorem test_setpoints :
    let s := dramming 2 0 id
    let p := dramming 0x22 1 id
    flag (s.dev.reg 0x100000) 0 ≠ true ∧ s.dev.printing = false ∧ p.dev.freqWanted = true ∧ p.dev.anyPanic = false ∧
    yields (.setpointChange 0 (.host 0) 1) s (fun s' => s'.dev.reg 0x100004 == 0x22) = true ∧
    yields (.changePause 0) p (fun s' => s'.dev.reg 0x100004 == 0x12 && (s'.dev.dch 0).round == some 0) = true := by decide +kernel
theorem test_self_refresh_and_scrub :
    yields (.srIdleEntry 0 0 none) (dramming 2 8 id) (fun s' => (s'.dev.dch 0).selfRefresh && s'.dev.out.take 1 == [.dramCmd 0 2]) = true ∧
    yields (.scrubBurstRead 0 0x1040 .uncorrectable) (dramming 2 0x10 id) (fun s' =>
      s'.dev.poisoned 0x1040 64 && !s'.dev.poisoned 0x1000 64 && s'.dev.reg 0x100028 == 0x1040) = true := by decide +kernel

/-! ### Hosts: register writes and datagrams -/

theorem test_register_writes :
    let s := loaded id
    s.dev.takes (.host 0) 0x0F0064 = true ∧
    (match regRow 0x0F0000 with
     | some (row, i, _) => (match s.dev.verdict (.host 1) row.guard i with | .reject _ o => o == 0 | _ => false)
     | none => false) = true ∧
    (lockedBlock 0x0F0000 && s.dev.fullChecking) = false ∧
    yields (.regWrite 0 (.host 0) 0x0F0064 60000 0xF) s (fun s' => fld (s'.dev.reg 0x0F0064) 0 16 == 60000) = true ∧
    yields (.regWrite 0 (.host 0) 0x0F0064 60000 0x7) s (fun s' => s'.dev.reg 0x0F0064 == s.dev.reg 0x0F0064) = true ∧
    yields (.regWrite 0 (.host 1) 0x0F0000 1 0xF) s (fun s' => s'.dev.perf.cnt == [(620, 1)]) = true := by decide +kernel

/-- The machine with context 0 on Ethernet port 0, whose address is 10.0.0.1, and that context's state. -/
def ether (c : HostCtx → HostCtx) : State :=
  loadedWith { demo with bind := [2, 1, 0, 3] } (fun d => (d.setReg 0x010200 0x0A000001).setCtx 0 (c (d.ctx 0)))
/-- A context with a peer at 10.0.0.9 port 700 whose next number is 5. -/
def peered (c : HostCtx) : HostCtx := { c with peer := some (0x0A000009, 700), expect := 5 }
def told (op seq addr tag : Nat) (body : List Byte) : List Byte := datagram op 0 0 (BitVec.ofNat 32 seq) 0 addr tag body
def openGram : List Byte := told 3 77 0 0 []
theorem test_dg_open :
    let s := ether id
    s.dev.reg 0x010200 ≠ 0 ∧ s.dev.dgBad 0 openGram = false ∧ (u8 openGram 3, u8 openGram 4, u8 openGram 5) = (3, 0, 0) ∧ (s.dev.ctx 0).peer = none ∧
    yields (.dgOpen 5 0 0x0A000009 700 openGram) s (fun s' =>
      (s'.dev.ctx 0).peer == some (0x0A000009, 700) && (s'.dev.ctx 0).expect == 78 && (s'.dev.ctx 0).lastHeard == 5) = true := by decide +kernel
def inOrder (bs : List Byte) : Bool :=
  let s := ether peered
  !(s.dev.dgBad 0 bs) && (s.dev.ctx (u8 bs 4)).peer == some (0x0A000009, 700) && (s.dev.ctx (u8 bs 4)).ahead == [] && !(bit (u8 bs 5) 0) &&
    (s.dev.ctx (u8 bs 4)).expect == BitVec.ofNat 32 (u32 bs 8)
theorem test_dg_write :
    let bs := told 2 5 0x0F0064 0 [9, 0, 0, 0]
    let s := ether peered
    inOrder bs = true ∧ u16 bs 6 = 4 ∧ u64 bs 16 % 0x1000000 = 0x0F0064 ∧ s.dev.takes (.host 0) 0x0F0064 = true ∧ u16 bs 32 = 9 ∧
    yields (.regWr 3 0 0x0A000009 700 bs) s (fun s' => s'.dev.reg 0x0F0064 == 9 && (s'.dev.ctx 0).expect == 6 && (s'.dev.ctx 0).lastHeard == 3) = true := by
  decide +kernel
theorem test_dg_read :
    let bs := told 1 5 0x0F0064 4 []
    inOrder bs = true ∧ u32 bs 24 % 2048 = 4 ∧ yields (.regRd 3 0 0x0A000009 700 bs) (ether peered) (fun s' => (s'.dev.ctx 0).expect == 6) = true := by decide +kernel
theorem test_dg_close_keep_data :
    inOrder (told 4 5 0 0 []) = true ∧ inOrder (told 5 5 0 0 []) = true ∧ inOrder (told 0x10 5 0 9 []) = true ∧
    yields (.dgClose 3 0 0x0A000009 700 (told 4 5 0 0 [])) (ether peered) (fun s' => (s'.dev.ctx 0).peer == none) = true ∧
    yields (.dgKeep 3 0 0x0A000009 700 (told 5 5 0 0 [])) (ether peered) (fun s' => (s'.dev.ctx 0).expect == 6) = true ∧
    yields (.rdData 3 0 0x0A000009 700 (told 0x10 5 0 9 [])) (ether (fun c => { peered c with reads := [9, 8] })) (fun s' =>
      (s'.dev.ctx 0).reads == [8]) = true := by decide +kernel
/-- One byte of the header changed: the CRC fails. -/
def spoilt : List Byte := openGram.set 8 1
theorem test_dg_discarded :
    (ether id).dev.dgBad 0 spoilt = true ∧
    yields (.datagramDiscarded 0 0 1 2 spoilt) (ether id) (fun s' => s'.dev.reg 0x010214 == 1 && s'.dev.host == (ether id).dev.host) = true := by decide +kernel
def waiting (sends : Nat) : State := ether (fun c => { peered c with unacked := [{ seq := 1, bytes := [7], sends := sends, sentAt := 0 }] })
theorem test_dg_timers :
    (waiting 1).dev.enPort 0 = some 0 ∧ (waiting 1).dev.rto 0 ≤ 10000000000 ∧
    yields (.datagramResendTimeout 10000000000 0) (waiting 7) (fun s' =>
      s'.dev.out.take 1 == [.datagram 0 0x0A000009 700 [7]] && (s'.dev.ctx 0).unacked.map (·.sends) == [8]) = true ∧
    yields (.datagramResendTimeout 10000000000 0) (waiting 8) (fun s' => (s'.dev.ctx 0).peer == none && s'.dev.reg 0x01021C == 1) = true ∧
    yields (.peerTimeout 5000000000000 0) (waiting 1) (fun s' => (s'.dev.ctx 0).peer == none) = true ∧
    yields (.peerTimeout 4999999999999 0) (waiting 1) (fun s' => (s'.dev.ctx 0).peer != none) = true := by decide +kernel
theorem test_arp_icmp :
    let s := ether id
    yields (.arpRequest 0 0 0x0A000001 5 6) s (fun s' => s'.dev.out == .arpReply 0 5 6 (s.dev.host.macs.getD 0 0) :: s.dev.out) = true ∧
    yields (.arpRequest 0 0 0x0A000002 5 6) s (fun s' => s'.dev.out == s.dev.out) = true ∧
    yields (.icmpEchoRequest 0 0 0x0A000001 5 [1]) s (fun s' => s'.dev.out == .icmpReply 0 5 [1] :: s.dev.out) = true := by decide +kernel

/-! ### The DMA engine and the interrupt gaps -/

/-- Channel 0 of HC0 with its DM_STATUS and its chain. -/
def dmaing (st : Nat) (x : DmaCh → DmaCh) : State :=
  loaded (fun d => ((d.dmSet 0 8 0x1000).dmSet 0 4 (BitVec.ofNat 32 st)).setChan 0 (x (d.chan 0)))
/-- 64 bytes from host memory at 0x2000 to DRAM at 0x200000, the last of a chain. -/
def linear : Desc :=
  { addr := 0x1000, src := 0x2000, dst := 0x200000, next := 0, len := 64, srcSpace := 0, dstSpace := 1, mode := 0, elem := 1, nplane := 0, plane := 0,
    stride := 0, end_ := true, irq := false, wb := false }
def linearBytes (len : Nat) : List Byte :=
  leBytes 8 0x2000 ++ leBytes 8 0x200000 ++ leBytes 8 0 ++ leBytes 4 len ++ [4, 0, 0, 0] ++ leBytes 8 0 ++ [1] ++ List.replicate 23 0
theorem test_doorbell :
    let s := dmaing 0 id
    s.dev.takes (.host 0) 0x020010 = true ∧ s.dev.dmRuns 0 = false ∧
    yields (.dmDoorbell 0 0 0) s (fun s' => s'.dev.dmState 0 == 1 && (s'.dev.chan 0).next == 0x1000) = true := by decide +kernel
theorem test_dma_stop :
    let busy := dmaing 1 (fun c => { c with desc := some linear })
    busy.dev.takes (.host 0) 0x020000 = true ∧ busy.dev.takes (.host 0) 0x020100 = true ∧
    yields (.dmStop 0 0 0 1) busy (fun s' => s'.dev.dmState 0 == 2 && (s'.dev.chan 0).desc == some linear) = true ∧
    yields (.dmStop 0 0 0 1) (dmaing 1 id) (fun s' => s'.dev.dmState 0 == 3 && fld (s'.dev.dmGet 0 4) 20 3 == 1) = true ∧
    yields (.dmAbort 0 0 1) busy (fun s' => s'.dev.dmState 0 == 3 && fld (s'.dev.dmGet 0 4) 20 3 == 4 && s'.dev.dmGet 0 0x1C == 64) = true ∧
    (dmaing 1 id).dev.dmRuns 0 = true ∧ ((dmaing 1 id).dev.chan 0).desc = none := by decide +kernel
theorem test_descriptor_fetch :
    let s := dmaing 1 (fun c => { c with next := 0x1000 })
    let x := parseDesc 0x1000 (padTo 64 0 (linearBytes 64))
    s.dev.hostReachable 0 = true ∧ descBad (padTo 64 0 (linearBytes 64)) x = false ∧ x = linear ∧ x.misaligned = false ∧ s.dev.descRefused 0 x = none ∧
    descBad (padTo 64 0 (linearBytes 65)) (parseDesc 0x1000 (padTo 64 0 (linearBytes 65))) = false ∧
    yields (.descriptorFetch 0 0 (linearBytes 64)) s (fun s' => (s'.dev.chan 0).desc == some linear && s'.dev.dmGet 0 0x14 == 0x1000) = true ∧
    yields (.descriptorFetch 0 0 (linearBytes 65)) s (fun s' => s'.dev.dmState 0 == 3 && fld (s'.dev.dmGet 0 4) 20 3 == 2) = true := by decide +kernel
theorem test_dma_burst :
    let s := dmaing 1 (fun c => { c with desc := some linear })
    s.dev.nextChan = some 0 ∧ ((demo.regionAt 0x200000).elim 9 (·.kind)) = 3 ∧ (∀ k < 2, s.dev.dcState k ≠ 3) ∧ s.dev.dramBusy = false ∧
    yields (.dmaBurst 0 0 [1, 2, 3]) s (fun s' => s'.dev.dramRead 0x200000 3 == [1, 2, 3] && (s'.dev.chan 0).moved == 3) = true := by decide +kernel
theorem test_descriptor_complete :
    let s := dmaing 1 (fun c => { c with desc := some linear, moved := 64 })
    s.dev.unackedWrites 0 linear = false ∧ (s.dev.chan 0).pending = none ∧
    yields (.descriptorComplete 0 0) s (fun s' => s'.dev.dmState 0 == 0 && (s'.dev.chan 0).desc == none && s'.dev.dmGet 0 0x20 == 1) = true := by decide +kernel
theorem test_irq_gap :
    let s := loaded (fun d => (d.setRegOf 0 0x01009C 0x80000000).setCtx 0 { d.ctx 0 with held := [7] })
    s.dev.enPort 0 = none ∧ s.dev.hostReachable 0 = true ∧ ({ s.dev with now := 5 } : Dev).irqDue 0 7 = true ∧
    yields (.irqGapExpire 5 0 7) s (fun s' => (s'.dev.ctx 0).held == []) = true := by decide +kernel

/-! ### Timekeeping -/

/-- TD0 is PTP domain 24, received on port 0 with ANN_TIMEOUT 3 and more bits of its configuration, in a state. -/
def timed (cfg st : Nat) (x : PtpDom) : State :=
  loaded (fun d =>
    let d := (d.setReg 0x120100 (BitVec.ofNat 32 (0x30001 + cfg))).setReg 0x120104 (BitVec.ofNat 32 st)
    { d with tk := { d.tk with nums := [24, 0xFF], doms := [(0, x)] } })
def domZero : PtpDom := { PtpDom.zero with parent := some (5, 0) }
def msg : PtpMsg :=
  { dom := 24, src := 5, seq := 7, twoStep := false, followUp := false, sec := 0, ns := 100, corr := 65536, requester := 0, logInterval := -3 }
def announce : AnnounceBody :=
  { gmId := 9, prio1 := 128, clockClass := 6, accuracy := 0x21, variance := 0, prio2 := 128, steps := 0, utc := 37, ptpTimescale := true }
theorem test_sync :
    let s := timed 0 1 domZero
    let two := timed 0 1 { domZero with two := some (7, 200 * 65536, 0) }
    s.dev.domOf 24 = some 0 ∧ s.dev.fromParent 0 0 msg = true ∧ two.dev.fromParent 0 0 msg = true ∧ (two.dev.dom 0).two = some (msg.seq, 200 * 65536, 0) ∧
    yields (.ptpSync 300000 0 msg) s (fun s' => (s'.dev.dom 0).n == 1 && (s'.dev.dom 0).theta == (s'.dev.arrival 0) - 101 * 65536) = true ∧
    yields (.ptpSync 300000 0 { msg with twoStep := true }) s (fun s' => (s'.dev.dom 0).two.map (·.1) == some 7 && (s'.dev.dom 0).n == 0) = true ∧
    yields (.ptpFollowUp 300000 0 msg) two (fun s' => (s'.dev.dom 0).theta == 99 * 65536) = true := by decide +kernel
/-- A master port of TD0, which steers, answers Delay_Req; a peer-to-peer one answers Pdelay_Req. -/
def mastering (p2p : Nat) : State :=
  let s := timed (4 + p2p) 2 { domZero with gm := some announce }
  { s with dev := s.dev.setRegFld 0x120004 0 2 1 }
theorem test_master :
    let s := mastering 0
    let num := s.dev.tk.nums.getD 0 0
    s.dev.domMaster 0 0 = true ∧ s.dev.domP2p 0 = false ∧ (mastering 16).dev.domMaster 0 0 = true ∧ (mastering 16).dev.domP2p 0 = true ∧
    Sparse.get (fun _ => (0, 0)) s.dev.tk.answered 0 = (0, 0) ∧ (s.dev.dom 0).gm = some announce ∧
    yields (.ptpDelayReq 0 0 msg) s (fun s' => match s'.dev.out with | .ptp 0 9 n 7 0 0 _ :: _ => n == num | _ => false) = true ∧
    yields (.ptpPdelayReq 0 0 msg) (mastering 16) (fun s' => match s'.dev.out with | .ptp 0 3 n 7 0 0 _ :: _ => n == num | _ => false) = true ∧
    yields (.masterSyncSend 0 0 0) s (fun s' => match s'.dev.out with | .ptp 0 0 _ 0 0 _ _ :: _ => true | _ => false) = true ∧
    yields (.masterAnnounceSend 0 0 0) s (fun s' => match s'.dev.out with | .announce 0 24 0 a :: _ => a.steps == 1 && a.gmId == 9 | _ => false) = true := by decide +kernel
/-- Sync sent at 100 ns arrived at 200 ns; the request of sequence 7 left at 300 ns and came at 420 ns: the delay is
(100 + 120) / 2 ns; a peer's answer at 500 ns gives (500 − 300 − 1) / 2 ns. -/
theorem test_delays :
    let x := { domZero with sync := some (100 * 65536, 200 * 65536), reqs := [(0, 7, 300 * 65536)] }
    let s := timed 0 1 x
    let p := timed 16 1 x
    let m := { msg with requester := s.dev.portIdentity 0, ns := 421 }
    (s.dev.dom 0).reqs.find? (fun r => r.1 == 0 && r.2.1 == m.seq) = some (0, 7, 300 * 65536) ∧ s.dev.fromParent 0 0 m = true ∧ s.dev.domP2p 0 = false ∧
    p.dev.domP2p 0 = true ∧ p.dev.domRx 0 0 = true ∧
    yields (.ptpDelayResp 0 0 m) s (fun s' => (s'.dev.dom 0).delay == 110 * 65536) = true ∧
    yields (.ptpPdelayResp 500000 0 m) p (fun s' => (s'.dev.dom 0).delay == (s'.dev.arrival 0 - 301 * 65536) / 2) = true := by decide +kernel
theorem test_announce_other_request :
    let s := timed 0 1 domZero
    let p := timed 16 1 domZero
    yields (.ptpAnnounce 0 0 msg announce) s (fun s' => (s'.dev.dom 0).masters.map (fun p => (p.src, p.port)) == [(5, 0)]) = true ∧
    yields (.ptpOther 0 0 msg) s (fun s' => s'.dev.reg 0x120214 == 1) = true ∧ s.dev.tk.nums.getD 0 0xFF ≠ 0xFF ∧
    yields (.delayReqSend 0 0 0) p (fun s' => match (s'.dev.dom 0).reqs with | [(0, 0, _)] => true | _ => false) = true := by decide +kernel
theorem test_clock_steps :
    let s := loaded (fun d => (d.setReg 0x120010 10).setReg 0x120018 5)
    let w := loaded (fun d => { (d.setReg 0x120010 10) with job := { d.job with phase := .running }, fir := { d.fir with stopped := false } })
    let p := loaded (fun d => { (d.setReg 0x120010 10) with tk := { d.tk with pend := some 3 } })
    s.dev.takes (.host 0) 0x120000 = true ∧ s.dev.stepAllowed = true ∧ w.dev.stepAllowed = false ∧ p.dev.stepAllowed = true ∧
    yields (.tkStep 7 (.host 0) 0x101) s (fun s' => s'.dev.clock.val == 10000000005 * 1099511627776 && s'.dev.clock.epoch == 1) = true ∧
    yields (.tkStep 7 (.host 0) 0x101) w (fun s' => s'.dev.tk.pend == some 3 && s'.dev.clock == w.dev.clock) = true ∧
    yields (.pendingStepMade 7) p (fun s' => s'.dev.tk.pend == none && s'.dev.clock.since == 7) = true := by decide +kernel
def heard : PtpParent := { src := 5, port := 0, body := announce, at_ := 0, count := 2, interval := 1 }
theorem test_domain_lost :
    let s := timed 0 2 { domZero with masters := [heard] }
    s.dev.domState 0 = 2 ∧ (s.dev.dom 0).masters.find? (fun p => (s.dev.dom 0).parent == some (p.src, p.port)) = some heard ∧
    heard.at_ + s.dev.annTimeout 0 * logPs heard.interval = 6000000000000 ∧
    yields (.domainLost 6000000000000 0) s (fun s' => s'.dev.domState 0 == 0 && (s'.dev.dom 0).parent == none && s'.dev.reg 0x12011C == 1) = true := by decide +kernel
theorem test_domain_return :
    let s := timed 0 2 { domZero with lockedAt := some 0 }
    let r := { s with dev := (s.dev.setRegFld 0x120004 0 2 2).setReg 0x120000 0x200 }
    r.dev.tkSrc = 2 ∧
    yields (.domainReturn 2000000000000) r (fun s' => s'.dev.tkSrc == 1) = true ∧
    yields (.domainReturn 1999999999999) r (fun s' => s'.dev.tkSrc == 2) = true := by decide +kernel
theorem test_clock_snapshot :
    let s := loaded (fun d => { d with fir := { d.fir with pos := 4294967299 * 4294967296 } })
    s.dev.takes (.host 0) 0x120020 = true ∧
    yields (.tkSnapTake 3000 (.host 0) 1) s (fun s' =>
      s'.dev.regOf 0 0x120038 == low32 s'.dev.p && s'.dev.regOf 0 0x12003C == high32 s'.dev.p && flag (s'.dev.regOf 0 0x120024) 31 &&
      s'.dev.regOf 0 0x120030 == BitVec.ofNat 32 s'.dev.clockNs) = true := by decide +kernel
/-- Unit 7: a pulse of 100 ns at 1,000 ns. -/
def pulsing (ctl st : Nat) (u : TimePulse → TimePulse) : State :=
  loaded (fun d => ((((d.setReg 0x1204EC 1000).setReg 0x1204F0 1000).setReg 0x1204F4 100).setReg 0x1204F8 (BitVec.ofNat 32 st)
    |>.setReg 0x1204E0 (BitVec.ofNat 32 ctl)).setTp 7 (u (d.tp 7)))
theorem test_pulses :
    let s := pulsing 0 0 id
    let a := pulsing 0 1 id
    let e := pulsing 0 3 (fun u => { u with active := true, pulseEnd := 5 })
    s.dev.takes (.host 0) 0x1204E0 = true ∧ s.dev.tpLegal 7 = true ∧ a.dev.tpState 7 = 1 ∧
    a.dev.tpTarget 7 (a.dev.tp 7).m = 1000 ∧ decide (1000 * 1099511627776 ≤ ({ a.dev with now := 1000001 } : Dev).localNow) = true ∧
    yields (.tpArm 0 (.host 0) 7 1) s (fun s' => s'.dev.tpState 7 == 1) = true ∧
    yields (.tpArm 900000 (.host 0) 7 1) s (fun s' => s'.dev.tpState 7 == 2) = true ∧
    yields (.tpDisarm 0 (.host 0) 7 2) a (fun s' => s'.dev.tpState 7 == 0) = true ∧
    yields (.tpEdge 1000001 7) a (fun s' => (s'.dev.tp 7).active && (s'.dev.tp 7).pulseEnd == 1100001 && s'.dev.tpState 7 == 3) = true ∧
    yields (.tpPulseEnd 5 7) e (fun s' => !(s'.dev.tp 7).active) = true := by decide +kernel
theorem test_captures :
    let c : Capture := { sec := 1, ns := 2, epoch := 3, falling := true, p := -1 }
    let s := loaded (fun d => (d.setReg 0x120660 2).setTc 3 { queue := [c], ovf := true })
    (s.dev.owner 3 3).isSome = true ∧ s.dev.asHost (.host 0) = s.dev.owner 3 3 ∧ flag (s.dev.reg 0x120660) 1 = true ∧
    yields (.tcEdge 0 3 true) s (fun s' => (s'.dev.tc 3).queue.length == 2 && (s'.dev.tc 3).queue.head? == some c) = true ∧
    yields (.tcPop 0 (.host 0) 3) s (fun s' => s'.dev.tc 3 == { queue := [], ovf := false } && s'.dev.regOf 0 0x120668 == 1 &&
      s'.dev.regOf 0 0x120674 == 0xFFFFFFFF && s'.dev.out.contains (.answer (.host 0) 0x120664 0x40030100)) = true := by decide +kernel

/-! ### Housekeeping, lanes and lane tests -/

/-- What a round reads: no count of a die sensor, supplies of 800 mV. -/
def obsCold : HkObs := { die := List.replicate 24 0, supplies := List.replicate 8 800, dref := List.replicate 16 0, mr4 := [], dramTemp := [] }
theorem test_hk_round :
    State.reset.dev.forme = none ∧
    yields (.hkRound 100000000000 obsCold) State.reset (fun s' => s'.dev.reg 0x130020 == 1 && flag (s'.dev.reg 0x130004) 31 && s'.dev.hk.roundAt == 100000000000) = true := by
  decide +kernel
/-- Sensor 5 at 125 °C trips the device (R436); the fused counts are 480 at 30 °C and 1,760 at 110 °C. -/
theorem test_hk_trip :
    let o := { obsCold with die := List.replicate 5 480 ++ [2000] ++ List.replicate 18 480 }
    hottest (State.reset.dev.readings o.die) = some (5, 2000) := by decide +kernel
/-- Thermal state 1, ASKED, by POLICY. -/
def hot (st : Nat) (f : Dev → Dev) : State := loaded (fun d => f (d.setReg 0x130010 (BitVec.ofNat 32 (st + 0x80))))
theorem test_grace :
    let s := hot 1 (fun d => { d with hk := { d.hk with grace := 400000000000000 } })
    s.dev.thState = 1 ∧ s.dev.thCauses = 4 ∧ ({ s.dev with now := 1 } : Dev).graceCount.graceOver = true ∧
    yields (.graceExpire 1) s (fun s' => s'.dev.thState == 2 && s'.dev.hk.taken == [(1, true)]) = true := by decide +kernel
theorem test_governor :
    let v := fun (d : Dev) => d.setReg 0x13000C (BitVec.ofNat 32 (990 * 65536 + 980))
    (hot 2 v).dev.vsetFault = false ∧ (hot 1 v).dev.printing = false ∧ govFloor (hot 1 v).dev.runCfg.powerMode < (hot 1 v).dev.vset ∧
    yields (.govTick 0) (hot 2 v) (fun s' => s'.dev.vset == 990 && s'.dev.ceiling == 990) = true ∧
    yields (.govTick 0) (hot 1 v) (fun s' => s'.dev.vset == 975) = true := by decide +kernel
theorem test_plumb :
    let s := on (fun d => { d with hk := { d.hk with oscFuses := List.replicate 8 1000 } })
    yields (.plumbSample 0 [2000, 1500, 3000, 2000, 2000, 2000, 2000, 2000]) s (fun s' => s'.dev.reg 0x130018 == 1536) = true := by decide +kernel
/-- Lane n's status. -/
def laned (n st : Nat) (f : Dev → Dev) : State := loaded (fun d => f (d.setReg (0x140004 + 0x40 * n) (BitVec.ofNat 32 st)))
theorem test_lane_signal :
    let up := laned 31 0x22 (fun d => d.setReg 0x0A1F04 3)
    up.dev.laneLos 31 = false ∧ up.dev.blState 31 = 3 ∧
    yields (.lossOfSignal 0 31) up (fun s' => s'.dev.laneLos 31 && !s'.dev.laneLock 31 && s'.dev.blState 31 == 0 && s'.dev.reg 0x1407EC == 1) = true ∧
    yields (.signalRestored 0 31) (laned 31 0x12 id) (fun s' => !s'.dev.laneLos 31) = true ∧
    yields (.blockLock 0 31) (laned 31 2 id) (fun s' => s'.dev.laneLock 31) = true ∧
    yields (.blockLock 0 0) (laned 0 2 id) (fun s' => s'.dev.blState 0 == 1) = true ∧
    yields (.lockLost 0 31) up (fun s' => !s'.dev.laneLock 31 && s'.dev.reg 0x1407F0 == 1 && s'.dev.reg 0x1407E8 == 16) = true := by decide +kernel
theorem test_electrical_idle :
    let s := laned 0 0x22 (fun d => d.setReg 0x0A0004 5)
    ({ s.dev with now := 10000000 } : Dev).mayIdle demo 0 = true ∧ (laned 0 0x21 id).dev.phy 0 = 1 ∧
    yields (.eidleEnter 10000000 0) s (fun s' => s'.dev.phy 0 == 1 && s'.dev.out.contains (.barFrame 0 (s.dev.testFrame 0 1))) = true ∧
    yields (.eidleExit 0 0) (laned 0 0x21 id) (fun s' => s'.dev.phy 0 == 2) = true ∧
    yields (.deepStateExitDone 1500000000 0) (laned 0 0x23 (fun d => d.setLane 0 { d.lane 0 with exitAt := some 0 })) (fun s' => s'.dev.phy 0 == 2) = true := by
  decide +kernel
def tested (mode : Nat) : State := laned 35 0x22 (fun d => d.setLane 35 { d.lane 35 with test := some { mode := mode, endAt := 5, phy := 2 }, bits := 281474976710655 })
theorem test_lane_tests :
    let s := laned 35 0x22 (fun d => d.setReg 0x1408D8 2)
    let b := fun (mode : Nat) (s' : State) => ((s'.dev.lane 35).test.elim (9, 0) (fun z => (z.mode, z.endAt))) == (mode, 20000000000)
    s.dev.takes (.host 0) 0x1408C0 = true ∧ (s.dev.lane 35).test = none ∧ s.dev.testBarred (.host 0) 35 = false ∧ 2 ≤ s.dev.phy 35 ∧
    yields (.laneTestPattern 0 (.host 0) 35 1) s (fun s' => b 1 s' && s'.dev.phy 35 == 4) = true ∧
    yields (.laneTestFarLoop 0 (.host 0) 35 2) s (fun s' => b 2 s' && s'.dev.phy 35 == 4) = true ∧
    yields (.laneTestNearLoop 0 (.host 0) 35 3) s (fun s' => b 3 s' && s'.dev.phy 35 == 0) = true ∧
    ((tested 1).dev.lane 35).test = some { mode := 1, endAt := 5, phy := 2 } ∧ (tested 1).dev.takes (.host 0) 0x1408C0 = true ∧
    yields (.laneErrinj 0 (.host 0) 35 0x200) s (fun s' => s'.dev.out == .bitFlip 35 :: s.dev.out) = true ∧
    yields (.laneClr 0 (.host 0) 35 0x100) s (fun s' => (s'.dev.lane 35).bits == 0) = true ∧
    yields (.laneTestEnd 5 35 { bits := 2, errs := 1, plock := true }) (tested 1) (fun s' =>
      (s'.dev.lane 35).bits == 1 && (s'.dev.lane 35).test == none && flag (s'.dev.reg 0x1408C4) 6 && flag (s'.dev.reg 0x1408C4) 7) = true := by decide +kernel

/-! ### The twin -/

/-- The small forme of a pair's primary, with a MIRROR region at 0x600000. -/
def pairForme : Forme :=
  { demo with twin := { twin := true, rank := 0x80, force := false, holdoff := 1 }, geom := { demo.geom with seamMode := 1 },
              dram := { demo.dram with regions := demo.dram.regions ++ [{ id := 4, kind := 4, owner := 0xFF, base := 96, size := 16 }] } }
/-- A unit of the pair: TW_STATUS, and both twin lanes with signal and lock. -/
def paired (st : Nat) (x : TwinDev → TwinDev) (f : Dev → Dev) : State :=
  loadedWith pairForme (fun d =>
    let d := ((d.setReg 0x110004 (BitVec.ofNat 32 st)).setReg 0x140804 0x22).setReg 0x140844 0x22
    f { d with tw := x d.tw })
def running (d : Dev) : Dev := { d with job := { d.job with phase := .running } }
/-- The primary's standby, of rank 0x40. -/
def helloOf (s : State) : Hello := { s.dev.helloMsg pairForme with rank := 0x40 }
theorem test_hello_pairs :
    let s := paired 1 id id
    s.dev.twState = 1 ∧ helloDiff (s.dev.helloMsg pairForme) (helloOf s) = none ∧
    yields (.twHello 0 0 (helloOf s)) s (fun s' => s'.dev.twState == 3) = true ∧
    yields (.twHello 0 0 { helloOf s with claim := 5 }) s (fun s' => s'.dev.twState == 4) = true := by decide +kernel
def beat : Beat := { role := 1, ready := true, k0 := 0, pos := 0, frac := 0, inc := 0, sec := 0, ns := 0 }
theorem test_beats :
    let s := paired 3 id id
    s.dev.twLive 0 = true ∧ s.dev.tripped = false ∧ s.dev.links = [] ∧
    yields (.twBeat 7 0 beat) s (fun s' => s'.dev.tw.lastBeat == 7 && s'.dev.tw.beatHeard) = true ∧
    yields (.twBeatSend 0) s (fun s' => s'.dev.out.any (fun o => match o with | .twinFrame 0 none (.beat x) => x.k0 == 0 | _ => false)) = true := by decide +kernel
theorem test_twin_timeouts :
    let up := paired 0x105 id id
    let lost := fun (st : Nat) => paired st (fun x => { x with beatHeard := true, lastBeat := 0 }) id
    up.dev.twUp 0 = true ∧ (up.dev.twin 0).last = 0 ∧ ({ (lost 5).dev with now := 1000000000 } : Dev).beatLost = true ∧ (lost 5).dev.tw.fails = [] ∧
    yields (.twLinkTimeout 1000000000 0) up (fun s' => !s'.dev.twUp 0 && s'.dev.twState == 5) = true ∧
    yields (.heartbeatLoss 1000000000) (lost 3) (fun s' => s'.dev.twState == 2) = true ∧
    yields (.heartbeatLoss 1000000000) (lost 4) (fun s' => s'.dev.twState == 1) = true ∧
    yields (.heartbeatLoss 1000000000) (lost 5) (fun s' => s'.dev.twState == 6) = true ∧
    yields (.takeoverTimeout 50000000000) (paired 8 (fun x => { x with td := some 0 }) id) (fun s' => s'.dev.twState == 2) = true := by decide +kernel
theorem test_alone :
    let s := paired 1 id id
    (s.dev.takes (.host 0) 0x110000 = true) ∧ s.dev.tw.peer = none ∧ s.dev.cc.loadedAt = 0 ∧
    yields (.pairWaitExpire 65535000000000) s (fun s' => s'.dev.twState == 2 && s'.dev.reg 0x110024 == 0xFF05) = true ∧
    yields (.twAlone 0 (.host 0) 1) s (fun s' => s'.dev.twState == 2 && s'.dev.reg 0x110024 == 0xFF04) = true := by decide +kernel
/-- A primary in WATCH, READY, while a job runs. -/
def watching (x : TwinDev → TwinDev) : State := paired 0x425 (fun t => x { t with readySince := some 0 }) running
theorem test_reversion_begins :
    let s := watching id
    s.dev.twState = 5 ∧ flag (s.dev.reg 0x110004) 10 = true ∧ flag (s.dev.reg 0x110004) 12 = false ∧ s.dev.printing = true ∧
    ({ s.dev with now := 1000000000 } : Dev).holdoffOver pairForme = true ∧ flag (s.dev.reg 0x110000) 3 = false ∧ s.dev.takes (.host 0) 0x110000 = true ∧
    yields (.holdoffExpire 1000000000) s (fun s' => s'.dev.twState == 9) = true ∧
    yields (.holdoffExpire 999999999) s (fun s' => s'.dev.twState == 5) = true ∧
    yields (.revertNow 0 (.host 0) 4) s (fun s' => s'.dev.twState == 9) = true ∧
    yields (.twResync 0 (.host 0) 2) s (fun s' => s'.dev.twState == 4) = true := by decide +kernel
/-- A standby in WATCH that expects frame 1 on either link. -/
def standing (x : TwinDev → TwinDev) : State := paired 0x125 x id
theorem test_numbered_frames :
    let s := standing id
    let dig : IntDigest := { link := 0, head := 0, first := 0, count := 256, digest := 7, part := false }
    lineDiff 1 s.dev.tw.applied = 1 ∧ s.dev.tw.ahead = [] ∧ s.dev.standby = true ∧ pairForme.mirrorBase = some 0x600000 ∧
    (∀ k < 2, s.dev.dcState k ≠ 3) ∧ s.dev.tw.echoes = [] ∧ s.dev.twLive 0 = true ∧
    yields (.twMirror 0 0 1 64 [1, 2] false) s (fun s' => s'.dev.tw.applied == 1 && s'.dev.dramRead 0x600040 2 == [1, 2]) = true ∧
    yields (.twState 0 0 1 (.word 0xFFFFF 9)) s (fun s' => s'.dev.tw.applied == 1 && Sparse.get nzDefault s'.dev.nz.table 0xFFFFF == 9) = true ∧
    yields (.twIdig 4 0 1 [dig]) s (fun s' => s'.dev.tw.applied == 1 && s'.dev.tw.idigs == [(4, dig)]) = true ∧
    yields (.twMirror 0 0 3 64 [1, 2] false) s (fun s' => s'.dev.tw.applied == 0) = true := by decide +kernel
theorem leNat_leBytes (n v : Nat) : leNat (leBytes n v) = v % 256 ^ n := by
  induction n generalizing v with
  | zero => simp [leBytes, leNat, Nat.mod_one]
  | succ n ih =>
    rw [leBytes, leNat, ih, BitVec.toNat_ofNat, Nat.pow_succ' (n := n), Nat.mod_mul]
/-- A frame of its type byte, bytes as wanted and its CRC-32C is good (R209, R382): a checkpoint of zeros is one. -/
theorem test_checkpoint_frame :
    let b := 0x43#8 :: List.replicate 671 0#8
    frameGood 0x43 0x2A4 (b ++ leBytes 4 (crc32c b).toNat) = true := by
  intro b
  have hb : b.length = 672 := by rw [List.length_cons, List.length_replicate]
  have h4 : ∀ v, (leBytes 4 v).length = 4 := fun v => rfl
  generalize hc : crc32c b = c
  have hd : (b ++ leBytes 4 c.toNat).drop 672 = leBytes 4 c.toNat := by simp [← hb]
  have ht : (b ++ leBytes 4 c.toNat).take 672 = b := by simp [← hb]
  have hu : u8 (b ++ leBytes 4 c.toNat) 0 = 0x43 := rfl
  have h32 : u32 (b ++ leBytes 4 c.toNat) 672 = c.toNat := by
    rw [u32, slice, hd, List.take_of_length_le (by simp [h4]), leNat_leBytes]
    exact Nat.mod_eq_of_lt c.isLt
  simp [frameGood, hu, ht, h32, hc, hb, h4]
/-- An active unit whose standby watches. -/
def mirroringUnit (x : TwinDev → TwinDev) : State :=
  let h := helloOf (paired 3 id id)
  paired 0x113 (fun t => x { t with peer := some { h with state := 5 } }) id
def sentFrame : TwinSent := { seq := 1, frame := .ack 0, at_ := 0 }
theorem test_frames_out :
    let s := mirroringUnit id
    let u := mirroringUnit (fun t => { t with nextSeq := 2, unacked := [sentFrame] })
    s.dev.mirroring = true ∧ u.dev.twPort = some 0 ∧ u.dev.tw.waiting = [] ∧ u.dev.job.phase = .idle ∧
    yields (.twCkptSend 0) s (fun s' => s'.dev.tw.nextSeq == 2 && s'.dev.tw.unacked.map (·.seq) == [1]) = true ∧
    yields (.twAck 0 0 1) u (fun s' => s'.dev.tw.unacked == []) = true ∧
    yields (.twAck 0 0 0) u (fun s' => s'.dev.tw.unacked == [sentFrame]) = true ∧
    yields (.twResendTimeout 50000000) u (fun s' => s'.dev.tw.unacked.map (·.at_) == [50000000]) = true ∧
    yields (.twProbe 3 0 false 0 0 0) u (fun s' => (s'.dev.twin 0).last == 3) = true := by decide +kernel
/-- A standby in WATCH whose job has reached line 1,000,000 of the web. -/
theorem test_echo_overdue :
    let s := paired 0x125 id (fun d => { running d with fir := { d.fir with pos := 100000000 * 4294967296 } })
    let h := demo.heads.head?
    s.dev.beatLost = false ∧ (pairForme.linkHeads 0).find? (fun h => h.port == 0) = h ∧ s.dev.tw.overdue = [] ∧
    (match h with | some h => decide (s.dev.firePos pairForme h (pairForme.rowLine h.row 256 - pairForme.rowStep h.row) ≤ s.dev.p) | none => false) = true ∧
    yields (.echoOverdue 0 0 0 0) s (fun s' => s'.dev.reg 0x110034 == 1 && s'.dev.tw.fails == [0] && s'.dev.twState == 5) = true := by decide +kernel
theorem test_hand_over :
    let a := paired 0x113 id running
    let r := paired 0x129 id id
    (a.dev.handoverLine pairForme).isSome = true ∧ r.dev.printing = false ∧ (pairForme.link 0).inUse = true ∧ r.dev.blUp 0 = false ∧
    yields (.revertRequest 0 0) a (fun s' => s'.dev.ups.length == 1 && s'.dev.tw.seam == a.dev.handoverLine pairForme) = true ∧
    yields (.revertAck 0 0 77) r (fun s' => s'.dev.tw.seam == some 77 && s'.dev.reg 0x110020 == 77) = true ∧
    yields (.revertAbort 0 0) r (fun s' => s'.dev.twState == 5) = true ∧
    yields (.revertReadyCheck 0) r (fun s' => s'.dev.twState == 5) = true := by decide +kernel

end Sys2Proof.Tests
end

section
/-!
PROOFS. Where a committed FIRE goes (R191): what `roundDiv` answers, what `Dev.fireSlot` answers for a FIRE committed at its
instant, and the head's fire instant that follows.
-/
namespace Sys2Proof.Machine

/-- The rounded quotient of a nonnegative number is within half a unit of it; a tie rounds up. -/
theorem roundDiv_near {a : Int} (ha : 0 ≤ a) {b : Nat} (hb : 0 < b) :
    2 * b * roundDiv a b ≤ 2 * a + b ∧ 2 * a + b < 2 * b * roundDiv a b + 2 * b := by
  have hpos : (0 : Int) < 2 * b := by omega
  rw [roundDiv, if_pos ha]
  exact ⟨Int.mul_ediv_self_le (by omega), Int.lt_mul_ediv_self_add hpos⟩

/-- A block has 64 offsets of 100 ps: what is left of `x` ps after the block's start is nearest to one of them or to the
next block's start. -/
theorem offset_near (x : Nat) :
    let rest : Int := x - 6400 * (x / 6400 : Nat)
    let o := (roundDiv rest 100).toNat
    (100 * o : Int) ≤ rest + 50 ∧ rest ≤ 100 * o + 50 ∧ o ≤ 64 := by
  intro rest o
  have hrest : 0 ≤ rest ∧ rest < 6400 := by omega
  have hnear := roundDiv_near hrest.1 (b := 100) (by decide)
  omega

/-- A FIRE committed at its instant has 500 ns left to t_tx. It goes in the block t_tx lies in, at the nearest offset, and
an offset of 64 is carried into the next block (R190, R191). -/
theorem Dev.fireSlot_of_not_past {d : Dev} {k : Nat} {pos : Int} {sl : Slot} (h : d.fireSlot k pos = some sl)
    (hpast : sl.past = false) :
    ∃ ttx : Nat, (ttx : Int) = sl.tf - d.flight k ∧ ttx = d.now + 500000 ∧
      let o := (roundDiv (ttx - 6400 * (ttx / 6400 : Nat)) 100).toNat
      (sl.block, sl.off) = if o = 64 then (ttx / 6400 + 1, 0) else (ttx / 6400, o) := by
  unfold Dev.fireSlot at h
  split at h
  case h_1 => simp at h
  case h_2 u _ =>
    dsimp only at h
    split at h
    case isTrue => simp at h
    case isFalse hearly =>
      split at h
      case isTrue =>
        cases h
        simp at hpast
      case isFalse hlate =>
        have hnn : ((100 * u - (d.flight k : Int)).toNat : Int) = 100 * u - d.flight k := Int.toNat_of_nonneg (by omega)
        have hsl := Option.some.inj h
        have htf : sl.tf = 100 * u := by rw [← hsl]; split <;> rfl
        refine ⟨_, by rw [hnn, htf], by omega, ?_⟩
        dsimp only
        rw [hnn, ← hsl]
        split <;> rfl

/-- A FIRE's offset is one of the 64 of its block, and the carry of an offset of 64 into the next block leaves the fire
instant as it is (R189, R191). -/
theorem Slot.fireAt_of_carry {sl : Slot} {b o : Nat} (ho : o ≤ 64)
    (h : (sl.block, sl.off) = if o = 64 then (b + 1, 0) else (b, o)) (flight : Nat) :
    sl.off < 64 ∧ sl.fireAt flight = 6400 * b + 100 * o + flight := by
  unfold Slot.fireAt
  split at h <;> obtain ⟨hblock, hoff⟩ := Prod.mk.inj h <;> omega

/-- Settles O31: the model's blocks start at multiples of 6.4 ns, so the phase is 0. -/
theorem firesArePlacedWithin50ps : Obligations.FiresArePlacedWithin50ps := by
  unfold Obligations.FiresArePlacedWithin50ps
  intro d k
  refine ⟨0, by decide, by decide, fun pos sl h hpast => ?_⟩
  obtain ⟨x, httx, -, hslot⟩ := Dev.fireSlot_of_not_past h hpast
  obtain ⟨hlo, hhi, ho⟩ := offset_near x
  obtain ⟨hoff, hfire⟩ := Slot.fireAt_of_carry ho hslot (d.flight k)
  dsimp only
  refine ⟨⟨x / 6400, _, ?_, ?_, ?_, ?_, ho, hslot⟩, hoff, ?_, ?_⟩ <;> omega

end Sys2Proof.Machine
end

section
/-!
PROOFS. The corrections of a frame's pixels: where a profile's registers stand (R253, R257), what linearisation answers
between two points, and what the colour matrix answers for a pixel.
-/
namespace Sys2Proof.Machine

/-- A register of the profile a frame took, at its address in the register map. -/
theorem CamFrame.reg_ispReg_profile (f : CamFrame) (p o : Nat) :
    f.reg (ispReg p (0x400 * f.profile + o)) = f.reg (0x0C0000 + 0x1000 * p + 0x400 * f.profile + o) := by
  rw [ispReg, ← Nat.add_assoc]

/-- The configuration word LIN_EN and MAT_EN stand in. -/
theorem CamFrame.cfg_eq_reg (f : CamFrame) (p : Nat) :
    f.cfg p = f.reg (0x0C0000 + 0x1000 * p + 0x400 * f.profile + 0) :=
  f.reg_ispReg_profile p 0

/-- Two linearisation points share a register: the even one is in the low half, the odd one in the high half. -/
theorem CamFrame.linPoint_eq (f : CamFrame) (p k : Nat) :
    f.linPoint p k =
      if k % 2 = 0 then fld (f.reg (0x0C0000 + 0x1000 * p + 0x400 * f.profile + (0x40 + 4 * (k / 2)))) 0 16
      else fld (f.reg (0x0C0000 + 0x1000 * p + 0x400 * f.profile + (0x40 + 4 * (k / 2)))) 16 16 := by
  rw [linPoint, Nat.add_assoc, f.reg_ispReg_profile]
  split
  · next heven => rw [heven]
  · next hodd => rw [Nat.mod_two_ne_zero.mp hodd]

/-- Between two points that are not below 0 no point of their segment is, be it rising or falling. -/
theorem interpolate_nonneg {a b t n : Int} (ha : 0 ≤ a) (hb : 0 ≤ b) (ht : 0 ≤ t) (htn : t ≤ n) (hn : 0 < n) :
    0 ≤ a + (b - a) * t / n := by
  have hfall : -a * n ≤ (b - a) * t := by
    have hbt : 0 ≤ b * t := Int.mul_nonneg hb ht
    have hat : a * t ≤ a * n := Int.mul_le_mul_of_nonneg_left htn ha
    rw [Int.sub_mul, Int.neg_mul]
    omega
  have hquot : -a ≤ (b - a) * t / n := (Int.le_ediv_iff_mul_le hn).mpr hfall
  omega

/-- Linearisation with LIN_EN set, as R253 writes it: the model's `toNat` cuts nothing off. -/
theorem CamFrame.linear_of_enabled {f : CamFrame} {p : Nat} (hon : flag (f.cfg p) 13 = true) (x : Nat) :
    (f.linear p x : Int) = f.linPoint p (x / 1024) +
      ((f.linPoint p (x / 1024 + 1) : Int) - f.linPoint p (x / 1024)) * ((x : Int) - 1024 * (x / 1024 : Nat)) / 1024 := by
  rw [linear, if_pos hon]
  exact Int.toNat_of_nonneg
    (interpolate_nonneg (Int.natCast_nonneg _) (Int.natCast_nonneg _) (by omega) (by omega) (by decide))

/-- A 16-bit field at bit 0, read as a signed number. -/
theorem signed_fld_low (w : Word) : signed 16 (fld w 0 16) = (w.setWidth 16).toInt := by
  rw [signed]
  congr 1
  apply BitVec.eq_of_toNat_eq
  rw [BitVec.toNat_ofNat, BitVec.toNat_setWidth, fld, bits, Nat.pow_zero, Nat.div_one, Nat.mod_mod]

theorem clampInt_eq_min_max {lo hi : Int} (h : lo ≤ hi) (v : Int) : clampInt lo hi v = min hi (max lo v) := by
  rw [clampInt]
  split
  · omega
  · split <;> omega

/-- A coefficient M[i][j] of a frame's colour matrix: signed 4.12 in ISP_MAT(4i + j) of its profile (R257). -/
def CamFrame.matCoeff (f : CamFrame) (p i j : Nat) : Int :=
  ((f.reg (0x0C0000 + 0x1000 * p + 0x400 * f.profile + (0x100 + 4 * (4 * i + j)))).setWidth 16).toInt

theorem CamFrame.signed_fld_eq_matCoeff (f : CamFrame) (p i j : Nat) :
    signed 16 (fld (f.reg (ispReg p (0x400 * f.profile + 0x100 + 4 * (4 * i + j)))) 0 16) = f.matCoeff p i j := by
  rw [signed_fld_low, Nat.add_assoc, f.reg_ispReg_profile, matCoeff]

/-- Component i of the colour matrix for a pixel R, G, B, X (R257). -/
def CamFrame.matOut (f : CamFrame) (p r g b z i : Nat) : Int :=
  min 65535 (max 0 ((f.matCoeff p i 0 * r + f.matCoeff p i 1 * g + f.matCoeff p i 2 * b + f.matCoeff p i 3 * z + 2048) / 4096))

/-- The colour matrix with MAT_EN set, as R257 writes it: no component is below 0, so the model's `toNat` cuts nothing
off. -/
theorem CamFrame.matrix_of_enabled {f : CamFrame} {p : Nat} (hon : flag (f.cfg p) 15 = true) (r g b z : Nat) :
    (f.matrix p [r, g, b, z]).map Int.ofNat = (List.range 3).map (f.matOut p r g b z) := by
  rw [matrix, if_pos hon, List.map_map]
  refine List.map_congr_left fun i _ => ?_
  have hclamp (v : Int) : ((clampInt 0 65535 v).toNat : Int) = min 65535 (max 0 v) := by
    rw [clampInt_eq_min_max (by decide), Int.toNat_of_nonneg (by omega)]
  have hsum (c : Nat → Int) : ((List.range 4).map fun j => c j * (([r, g, b, z].getD j 0 : Nat) : Int)).sum =
      c 0 * r + c 1 * g + c 2 * b + c 3 * z := by
    change c 0 * r + (c 1 * g + (c 2 * b + (c 3 * z + 0))) = _
    omega
  simp only [Function.comp_apply, Int.ofNat_eq_natCast, hclamp, signed_fld_eq_matCoeff, matOut]
  rw [hsum]

theorem CamFrame.matrix_of_disabled {f : CamFrame} {p : Nat} (hoff : flag (f.cfg p) 15 = false) (r g b z : Nat) :
    f.matrix p [r, g, b, z] = [r, g, b] := by
  rw [matrix, hoff]
  rfl

theorem CamFrame.linear_of_disabled {f : CamFrame} {p : Nat} (hoff : flag (f.cfg p) 13 = false) (x : Nat) :
    f.linear p x = x := by
  rw [linear, hoff]
  rfl

/-- Settles O44: `linPoint` and `matCoeff` are the profile's registers of R253 and R257, and the two `toNat`s of the model
stand over numbers that are never below 0. -/
theorem pixelsAreCorrected : Obligations.PixelsAreCorrected := by
  unfold Obligations.PixelsAreCorrected
  intro f p x r g b z reg on l k m o
  have hcfg : f.cfg p = reg 0 := f.cfg_eq_reg p
  have hpoint (k : Nat) : (f.linPoint p k : Int) = l k := by
    rw [f.linPoint_eq]
    exact apply_ite Nat.cast _ _ _
  refine ⟨fun hon _ => ?_, fun hoff => ?_, fun hon => ?_, fun hoff => ?_⟩
  · rw [CamFrame.linear_of_enabled (hcfg ▸ hon), hpoint, hpoint]
  · exact CamFrame.linear_of_disabled (hcfg ▸ hoff) x
  · exact CamFrame.matrix_of_enabled (hcfg ▸ hon) r g b z
  · exact CamFrame.matrix_of_disabled (hcfg ▸ hoff) r g b z

end Sys2Proof.Machine
end

section
/-!
PROOFS. The OPR operations of the control cores (R305): the fields of a word of format R, what a write of a scalar register
leaves alone, the results the model's arithmetic gives, and what an instruction that writes s_d does.
-/
namespace Sys2Proof.Machine

/-! ### The fields of format R (R303) -/

/-- A word of format R: opcode 0, then d, a, b and fn, each field holding what was put there. -/
theorem fld_wordR {fn : Nat} (hfn : fn < 2048) (d a b : Fin 32) :
    fld (wordR fn d a b) 26 6 = 0 ∧ fld (wordR fn d a b) 21 5 = d ∧ fld (wordR fn d a b) 16 5 = a ∧
      fld (wordR fn d a b) 11 5 = b ∧ fld (wordR fn d a b) 0 11 = fn := by
  have hw : (wordR fn d a b).toNat = d * 2097152 + a * 65536 + b * 2048 + fn := by
    rw [wordR, BitVec.toNat_ofNat]
    omega
  simp only [fld, bits, hw]
  refine ⟨?_, ?_, ?_, ?_, ?_⟩ <;> omega

/-! ### Writing a scalar register (R302) -/

theorem Core.sreg_setSreg (c : Core) (r : Nat) (v : Word) (j : Nat) :
    (c.setSreg r v).sreg j = if j = 0 then 0 else if j = r then v else c.sreg j := by
  by_cases hj : j = 0
  · simp [Core.sreg, hj]
  · by_cases hr : r = 0
    · simp [Core.setSreg, Core.sreg, hr, hj]
    · simp [Core.setSreg, Core.sreg, hr, hj, Sparse.get_set]

/-- A scalar register written is the register file alone. -/
theorem Core.setSreg_eq (c : Core) (r : Nat) (v : Word) : c.setSreg r v = { c with s := (c.setSreg r v).s } := by
  unfold Core.setSreg
  split <;> rfl

@[simp] theorem Core.setSreg_pc (c : Core) (r : Nat) (v : Word) : (c.setSreg r v).pc = c.pc := by rw [Core.setSreg_eq]
@[simp] theorem Core.setSreg_rest (c : Core) (r : Nat) (v : Word) : (c.setSreg r v).rest = c.rest := by
  rw [Core.setSreg_eq]; rfl
@[simp] theorem Core.setSreg_lane (c : Core) (r : Nat) (v : Word) (j l : Nat) : (c.setSreg r v).lane j l = c.lane j l := by
  rw [Core.setSreg_eq]; rfl

/-! ### Cores alike but for the sampler's marks -/

theorem Core.Like.pc {c c' : Core} (h : Core.Like c c') : c'.pc = c.pc := by
  obtain ⟨_, _, _, _, hpc, _⟩ := h.fields
  exact hpc

theorem Core.Like.sreg {c c' : Core} (h : Core.Like c c') (r : Nat) : c'.sreg r = c.sreg r := by
  obtain ⟨_, _, hs, _⟩ := h.fields
  rw [Core.sreg, Core.sreg, hs]

theorem Core.Like.lane {c c' : Core} (h : Core.Like c c') (r l : Nat) : c'.lane r l = c.lane r l := by
  obtain ⟨_, _, _, hv, _⟩ := h.fields
  rw [Core.lane, Core.lane, hv]

theorem Core.Like.rest {c c' : Core} (h : Core.Like c c') : c'.rest = c.rest := by
  obtain ⟨hst, hww, -, -, -, hcsr, hlmem, hkick, hsince, hheld⟩ := h.fields
  simp only [Core.rest, hst, hww, hcsr, hlmem, hkick, hsince, hheld]

theorem Core.Like.setSreg {c c' : Core} (h : Core.Like c c') (r : Nat) (v : Word) :
    Core.Like (c.setSreg r v) (c'.setSreg r v) := by
  have hmarks := h.eq
  obtain ⟨_, _, hs, _⟩ := h.fields
  have hfile : (c'.setSreg r v).s = (c.setSreg r v).s := by
    unfold Core.setSreg
    split
    · exact hs
    · exact congrArg (Sparse.set (fun _ => 0) · r v) hs
  rw [Core.setSreg_eq c, Core.setSreg_eq c', hfile]
  exact ⟨congrArg (fun x : Core => { x with s := (c.setSreg r v).s }) hmarks⟩

/-! ### What an instruction that writes s_d does -/

/-- An instruction whose work writes `v` to s_d on any device that holds the registers of its core gives s_d that value, and
leaves the rest alone. -/
theorem givesScalar_of_onCore {t n : Nat} {i : Instr} {s : State} {f : Word → Dev → CoreEnd} {d : Fin 32} {v : Word}
    (hexec : exec i s = onCore t n i f s)
    (hwork : ∀ d1 : Dev, (∀ r, d1.sreg n r = s.dev.sreg n r) → f (s.dev.core n).pc d1 = .done (d1.setSreg n d v))
    (hissues : Issues s n i) : GivesScalar i t n s d v := by
  obtain ⟨s', hnext, honly, hlike⟩ := onCore_retire (t := t) f hissues (fun c => c.setSreg d v) none 0 0
    fun d1 hd1 => ⟨d1.setSreg n d v, hwork d1 hd1.sreg, .setCore n d1 _, by
      rw [Dev.setSreg, Dev.core_setCore_self]
      exact hd1.setSreg d v⟩
  refine ⟨s', hexec.trans hnext, honly, ?_, ?_, fun r l => ?_, fun r => ?_⟩
  · rw [hlike.rest, Core.atPc, Core.setSreg_rest]
    rfl
  · rw [hlike.pc, Core.atPc, Core.setSreg_pc]
  · rw [hlike.lane, Core.atPc, Core.setSreg_lane]
    rfl
  · rw [Dev.sreg, hlike.sreg, Core.atPc, Core.sreg_setSreg]
    simp only [Fin.ext_iff, Fin.val_zero]
    rfl

/-- An OPR instruction of two operands: its fn code, and its result in s_d. -/
theorem opr_gives {t n : Nat} {i : Instr} {s : State} {d a b : Fin 32} {fn : Nat} {op : Word → Word → Word} {v : Word}
    (hword : coreWord i = some (wordR fn d a b)) (hfn : fn < 2048)
    (hexec : exec i s = onCore t n i (aluR op n d a b) s) (hv : op (s.dev.sreg n a) (s.dev.sreg n b) = v) :
    (∃ w, coreWord i = some w ∧ fld w 26 6 = 0 ∧ fld w 21 5 = d ∧ fld w 16 5 = a ∧ fld w 11 5 = b ∧ fld w 0 11 = fn) ∧
      (Issues s n i → GivesScalar i t n s d v) :=
  ⟨⟨_, hword, fld_wordR hfn d a b⟩,
    givesScalar_of_onCore hexec fun d1 hregs => by rw [aluR, hregs, hregs, hv]⟩

/-- An OPR instruction of one operand: the field of b is 0. -/
theorem opr_gives_unary {t n : Nat} {i : Instr} {s : State} {d a : Fin 32} {fn : Nat} {op : Word → Word} {v : Word}
    (hword : coreWord i = some (wordR fn d a 0)) (hfn : fn < 2048)
    (hexec : exec i s = onCore t n i (aluA op n d a) s) (hv : op (s.dev.sreg n a) = v) :
    (∃ w, coreWord i = some w ∧ fld w 26 6 = 0 ∧ fld w 21 5 = d ∧ fld w 16 5 = a ∧ fld w 11 5 = 0 ∧ fld w 0 11 = fn) ∧
      (Issues s n i → GivesScalar i t n s d v) :=
  ⟨⟨_, hword, fld_wordR hfn d a 0⟩,
    givesScalar_of_onCore hexec fun d1 hregs => by rw [aluA, hregs, hv]⟩

/-! ### The results of R305 -/

theorem truth_eq_ite (p : Prop) [Decidable p] : truth (decide p) = if p then 1 else 0 := by
  by_cases h : p <;> simp [truth, h]

theorem truth_beq (x y : Word) : truth (x == y) = if x = y then 1 else 0 := truth_eq_ite (x = y)

theorem truth_bne (x y : Word) : truth (x != y) = if x = y then 0 else 1 := by
  by_cases h : x = y <;> simp [truth, h]

theorem toInt_eq_zero_iff (x : Word) : x.toInt = 0 ↔ x = 0 := by
  rw [← BitVec.toInt_inj]; rfl

theorem toNat_eq_zero_iff (x : Word) : x.toNat = 0 ↔ x = 0 := by
  rw [← BitVec.toNat_inj]; rfl

theorem divS_eq (x y : Word) :
    divS x y = if y.toInt = 0 then 0 else if x.toInt = -2147483648 ∧ y.toInt = -1 then 0x7FFFFFFF
      else BitVec.ofInt 32 (x.toInt.tdiv y.toInt) := by
  have hmin : x.toInt = -2147483648 ↔ x = 0x80000000 := by rw [← BitVec.toInt_inj]; rfl
  have hneg : y.toInt = -1 ↔ y = 0xFFFFFFFF := by rw [← BitVec.toInt_inj]; rfl
  simp only [divS, low32, toInt_eq_zero_iff, hmin, hneg, Bool.and_eq_true, decide_eq_true_eq]

theorem modS_eq (x y : Word) : modS x y = if y.toInt = 0 then x else BitVec.ofInt 32 (x.toInt.tmod y.toInt) := by
  simp only [modS, low32, toInt_eq_zero_iff]

theorem divU_eq (x y : Word) : divU x y = if y.toNat = 0 then 0 else BitVec.ofNat 32 (x.toNat / y.toNat) := by
  simp only [divU, toNat_eq_zero_iff]

theorem modU_eq (x y : Word) : modU x y = if y.toNat = 0 then x else BitVec.ofNat 32 (x.toNat % y.toNat) := by
  simp only [modU, toNat_eq_zero_iff]

/-- Where `p` picks one of two words, the word picked is the word of the value `z` picked alike, be the values signed or
unsigned. -/
theorem ite_eq_word {ι : Type} {val : Word → ι} {word : ι → Word} (hval : ∀ w, word (val w) = w) {p : Prop} [Decidable p]
    {x y : Word} {z : ι} (hy : p → z = val y) (hx : ¬ p → z = val x) : (if decide p then y else x) = word z := by
  by_cases h : p
  · rw [decide_eq_true h, hy h, hval]
    rfl
  · rw [decide_eq_false h, hx h, hval]
    rfl

theorem ite_slt_eq_min (x y : Word) : (if y.slt x then y else x) = BitVec.ofInt 32 (min x.toInt y.toInt) :=
  ite_eq_word (fun _ => BitVec.ofInt_toInt) (p := y.toInt < x.toInt) (by omega) (by omega)

theorem ite_slt_eq_max (x y : Word) : (if x.slt y then y else x) = BitVec.ofInt 32 (max x.toInt y.toInt) :=
  ite_eq_word (fun _ => BitVec.ofInt_toInt) (p := x.toInt < y.toInt) (by omega) (by omega)

theorem ite_ult_eq_min (x y : Word) : (if y.ult x then y else x) = BitVec.ofNat 32 (min x.toNat y.toNat) :=
  ite_eq_word (BitVec.ofNat_toNat 32) (p := y.toNat < x.toNat) (by omega) (by omega)

theorem ite_ult_eq_max (x y : Word) : (if x.ult y then y else x) = BitVec.ofNat 32 (max x.toNat y.toNat) :=
  ite_eq_word (BitVec.ofNat_toNat 32) (p := x.toNat < y.toNat) (by omega) (by omega)

/-- Zeros are counted down from bit `k - 1` to the highest set bit. -/
theorem leadingZeros_eq (w : Word) {k : Nat} (hk : w.toNat < 2 ^ k) :
    leadingZeros w k = if w.toNat = 0 then k else k - 1 - w.toNat.log2 := by
  induction k with
  | zero => simp [leadingZeros, Nat.lt_one_iff.mp hk]
  | succ k ih =>
    rw [leadingZeros]
    split
    case isTrue htop =>
      have hlow : 2 ^ k ≤ w.toNat := Nat.ge_two_pow_of_testBit htop
      have hne : w.toNat ≠ 0 := Nat.ne_of_gt (Nat.lt_of_lt_of_le (Nat.two_pow_pos k) hlow)
      rw [if_neg hne, (Nat.log2_eq_iff hne).mpr ⟨hlow, hk⟩]
      omega
    case isFalse htop =>
      have hlow : w.toNat < 2 ^ k := Nat.lt_of_not_le fun hge =>
        htop (Nat.testBit_of_two_pow_le_and_two_pow_add_one_gt hge hk)
      rw [ih hlow]
      split
      case isTrue => omega
      case isFalse hne =>
        have hlog : w.toNat.log2 < k := (Nat.log2_lt hne).mpr hlow
        omega

theorem setBits_eq_length_filter (w : Word) (k : Nat) : setBits w k = ((List.range k).filter w.getLsbD).length := by
  induction k with
  | zero => rfl
  | succ k ih =>
    rw [setBits, ih, List.range_succ, List.filter_append, List.length_append, Nat.add_comm]
    cases h : w.getLsbD k <;> simp [b2n, h]

/-- Settles O6: each operation is one of two shapes, a result of two registers or of one, and R305's result for it is the
model's. A division retires like the others: its corners are results, none an exception. -/
theorem scalarOperations : Obligations.ScalarOperations := by
  unfold Obligations.ScalarOperations
  intro t n d a b s x y gives
  exact ⟨
    -- ADD to ROR: R305's expression is the model's own
    opr_gives rfl (by decide) rfl rfl,
    opr_gives rfl (by decide) rfl rfl,
    opr_gives rfl (by decide) rfl rfl,
    opr_gives rfl (by decide) rfl rfl,
    opr_gives rfl (by decide) rfl rfl,
    opr_gives rfl (by decide) rfl rfl,
    opr_gives rfl (by decide) rfl rfl,
    opr_gives rfl (by decide) rfl rfl,
    opr_gives rfl (by decide) rfl rfl,
    opr_gives rfl (by decide) rfl rfl,
    -- the comparisons
    opr_gives rfl (by decide) rfl (truth_beq x y),
    opr_gives rfl (by decide) rfl (truth_bne x y),
    opr_gives rfl (by decide) rfl (truth_eq_ite (x.toInt < y.toInt)),
    opr_gives rfl (by decide) rfl (truth_eq_ite (x.toNat < y.toNat)),
    -- the products
    opr_gives rfl (by decide) rfl rfl,
    opr_gives rfl (by decide) rfl rfl,
    opr_gives rfl (by decide) rfl rfl,
    -- the divisions
    opr_gives rfl (by decide) rfl (divS_eq x y),
    opr_gives rfl (by decide) rfl (divU_eq x y),
    opr_gives rfl (by decide) rfl (modS_eq x y),
    opr_gives rfl (by decide) rfl (modU_eq x y),
    -- the smaller and the larger, signed and unsigned
    opr_gives rfl (by decide) rfl (ite_slt_eq_min x y),
    opr_gives rfl (by decide) rfl (ite_slt_eq_max x y),
    opr_gives rfl (by decide) rfl (ite_ult_eq_min x y),
    opr_gives rfl (by decide) rfl (ite_ult_eq_max x y),
    -- LZC, POPC and ABSD
    opr_gives_unary rfl (by decide) rfl (congrArg (BitVec.ofNat 32) (leadingZeros_eq x x.isLt)),
    opr_gives_unary rfl (by decide) rfl (congrArg (BitVec.ofNat 32) (setBits_eq_length_filter x 32)),
    opr_gives rfl (by decide) rfl rfl⟩

end Sys2Proof.Machine
end
